-- ==== Sys2Proof/Word.lean ====
section
/-! DEFINITION. The plain types every other file names: a byte, and the sparse table that holds the slot, row and
event records in one canonical form. -/

namespace Sys2Proof

/-- One byte of the Service Port, the Runway Link or the converter line. -/
abbrev Byte := BitVec 8

/-- A sparse table: key and value pairs, keys strictly rising, no value equal to the table's own default.
Its operations stand in Machine/Ops.lean. -/
abbrev Table (α : Type) := List (Nat × α)

end Sys2Proof
end

