-- ==== Sys2Proof/Config.lean ====
section
/-! DEFINITION. The figures the manual fixes for every installation, and the values it leaves open (each an opaque
constant: nothing in Lean can evaluate one or prove which value it has). What the host configures is the start record,
which is state (Syntax.StartRecord). -/

namespace Sys2Proof.Config

/-- R33: a Store Notice carries at most six entries. -/
def noticeEntries : Nat := 6
/-- R142: the store outbox holds at most 24 entries. -/
def outboxCapacity : Nat := 24
/-- R152: the task nest holds at most three tasks. -/
def nestCapacity : Nat := 3
/-- R170: the outcome list holds up to three entries. -/
def outcomeCapacity : Nat := 3
/-- R119: the weigh window holds at most eight values. -/
def windowCapacity : Nat := 8
/-- R116: the sample timer's length, in milliseconds. -/
def sampleTimeout : Nat := 100
/-- R47: a release arming lasts 10 s. -/
def armingTime : Nat := 10000
/-- R89: the profile period of each travel axis, in milliseconds. -/
def profilePeriod : Nat := 10
/-- R92: the longest settling time, in milliseconds. -/
def settlingLimit : Nat := 3000
/-- R145: an answer plan falls due own rank times this many milliseconds after the query. -/
def answerDelay : Nat := 5
/-- R36, R190, R191, R115: the value at which a saturating counter stays. -/
def counterTop : Nat := 65535
/-- R22: sequence numbers count modulo this. -/
def sequenceModulus : Nat := 65536
/-- R193: the value at which an event's repeat count stays. -/
def repeatTop : Nat := 255

/-- DESIGN CHOICE, a free value (notes/assumptions/12.md). What the two weight bytes of a Store Notice entry or a Bay Notice cradle hold
when the recorded weight does not lie in 0..65,535 kg (section 2.4 and R183 give the field two bytes and state no
value then). Applied to the recorded weight. -/
opaque weightField : Int → BitVec 16

/-- DESIGN CHOICE, a free value (notes/assumptions/9.md). Whether a peer's extension window counts as already expired for a frame taken
at exactly its expiry (R69: either may be handled first). Applied to the model's clock. -/
opaque windowTie : Nat → Bool

/-- DESIGN CHOICE, a free value (notes/assumptions/13.md). What a byte of a fixed-width field holds when the value sent lies outside the
range its rule gives (R188 and section 2.3 state the width and no value then). Applied to the value and the byte's
place. -/
opaque fieldByte : Int → Nat → Byte

end Sys2Proof.Config
end

