-- ==== Sys2Proof/Syntax.lean ====
section
/-! DEFINITION. The commands: one constructor of Instr for each row of spec/opcode_table.json, with the operands the
owning rule names. A named value's constructors stand in the order of the list or table that defines it, because R188
codes a named value by its place there. -/

namespace Sys2Proof

/-! ## Named values -/

/-- The two travel axes. -/
inductive Axis where
  | bridge | trolley
  deriving DecidableEq, Repr

/-- The two sides of an axis, of the runway and of a claim. -/
inductive Side where
  | low | high
  deriving DecidableEq, Repr

/-- Section 1.7: the seven node states. -/
inductive NodeState where
  | unconfigured | listening | joining | joinBlocked | active | isolated | voided
  deriving DecidableEq, Repr

/-- R114: the hook load state. -/
inductive HookLoad where
  | empty | taking | loaded | giving
  deriving DecidableEq, Repr

/-- R151: the kinds of task; `ret` is RETURN. -/
inductive TaskKind where
  | store | shift | dispatch | ret
  deriving DecidableEq, Repr

/-- R174: the bay states. -/
inductive BayState where
  | empty | docked | loading | closed
  deriving DecidableEq, Repr

/-- Section 2.4: the reasons of an Objection. -/
inductive ObjectionReason where
  | overlap | void | releaseDenied
  deriving DecidableEq, Repr

/-- R19, R20: why a received frame is discarded. -/
inductive DiscardCause where
  | badCheck | endsEarly | malformed
  deriving DecidableEq, Repr

/-- R188: a place, in the order of its kind codes. -/
inductive Place where
  | slot (n : Nat)
  | intake (i : Nat)
  | cradle (bay i : Nat)
  | hook
  deriving DecidableEq, Repr

/-! ## Records named by the commands -/

/-- An interval of runway, edges included. -/
structure Interval where
  low : Int
  high : Int
  deriving DecidableEq, Repr

/-- A point of the runway and the span. -/
structure Point where
  x : Int
  y : Int
  deriving DecidableEq, Repr

/-- R9: the start-record fields that both travel axes have. -/
structure AxisParams where
  maxSpeed : Int
  creepSpeed : Int
  accel : Int
  decel : Int
  decelLoaded : Int
  emergency : Int
  creepLength : Int
  creepStop : Int
  window : Int
  settleTime : Nat
  following : Int
  deriving DecidableEq, Repr

/-- R9: the start record, its fields in order of field number. Lengths in mm, speeds in mm/s, steps in mm/s per profile
period, weights in kg; the times are in the unit R9 gives each. -/
structure StartRecord where
  ownRank : Nat
  craneCount : Nat
  runway : Int
  halfLength : Int
  margin : Int
  restMargin : Int
  bridge : AxisParams
  span : Int
  trolley : AxisParams
  brakeSettle : Nat
  parkDelay : Nat
  waitTimeout : Nat
  releaseDelay : Nat
  polarities : BitVec 10
  hoistTop : Int
  clearHeight : Int
  rowBase : Int
  rowPitch : Int
  rows : Nat
  lateralBase : Int
  lateralPitch : Int
  lowers : Nat
  saddle : List Nat
  intakeCount : Nat
  intake0 : Point
  intake1 : Point
  bayCount : Nat
  bay0 : Point
  bay1 : Point
  bay2 : Point
  bay3 : Point
  zeroCount : Int
  scale : Int
  pick : Int
  releaseLevel : Int
  band : Int
  settleCount : Nat
  swl : Int
  tolPerMille : Int
  tolMin : Int
  liftWindow : Int
  reportInterval : Nat
  silenceCount : Nat
  hostTimeout : Nat
  deriving DecidableEq, Repr

/-- R81: the target and speed a Move gives for one axis. -/
structure AxisMove where
  target : Int
  speed : Int
  deriving DecidableEq, Repr

/-- R81: a Move names one or both axes. -/
structure MoveRequest where
  bridge : Option AxisMove
  trolley : Option AxisMove
  deriving DecidableEq, Repr

/-- R84: a Go To names a place and a speed for each axis. -/
structure GoToRequest where
  place : Place
  bridgeSpeed : Int
  trolleySpeed : Int
  deriving DecidableEq, Repr

/-- R85: Set Speed names one or both axes with a speed for each. -/
structure SpeedRequest where
  bridge : Option Int
  trolley : Option Int
  deriving DecidableEq, Repr

/-- R86: Stop Move names one or both axes. -/
structure AxesRequest where
  bridge : Bool
  trolley : Bool
  deriving DecidableEq, Repr

/-- R154: what a Begin Task carries for a STORE. -/
structure StoreCoil where
  coil : Nat
  cls : Nat
  weight : Option Int
  deriving DecidableEq, Repr

/-- R154: Begin Task. -/
structure BeginRequest where
  kind : TaskKind
  source : Place
  dest : Place
  coil : Option StoreCoil
  deriving DecidableEq, Repr

/-- R142, R147: the announced state of a slot: an outbox entry or a survey entry. -/
inductive SlotState where
  | free
  | occupied (coil : Nat) (weight : Option Int) (cls : Nat)
  | blocked
  deriving DecidableEq, Repr

/-- R147: Survey Row. -/
structure SurveyRequest where
  row : Nat
  slots : List SlotState
  deriving DecidableEq, Repr

/-- R174: the trailer geometry. -/
structure Trailer where
  kingpin : Int
  axle : Int
  count : Nat
  offsets : List Int
  axleLimit : Int
  kingpinLimit : Int
  payloadLimit : Int
  planned : Nat
  deriving DecidableEq, Repr

/-- R175: Dock Truck. -/
structure DockRequest where
  bay : Nat
  trailer : Trailer
  deriving DecidableEq, Repr

/-- R47: Prepare Release. -/
structure PrepareRequest where
  rank : Nat
  lastSeq : Nat
  deriving DecidableEq, Repr

/-- What a request's payload is: the fields of its kind, or a payload that is not of the kind's length (R192 step 3). -/
inductive Body (α : Type) where
  | fields (a : α)
  | misfit
  deriving DecidableEq, Repr

/-! ## Runway Link payloads (section 2.4) -/

/-- The Position Report. `position` is absent when the valid flag is clear. -/
structure ReportFrame where
  nodeState : NodeState
  position : Option Int
  speed : Int
  claim : Option Interval
  hookLoad : HookLoad
  hookCoil : Option Nat
  deriving DecidableEq, Repr

/-- The Extend. -/
structure ExtendFrame where
  side : Side
  edge : Int
  view : Option Nat
  deriving DecidableEq, Repr

/-- The Objection. -/
structure ObjectionFrame where
  target : Nat
  targetSeq : Nat
  reason : ObjectionReason
  deriving DecidableEq, Repr

/-- The Release. -/
structure ReleaseFrame where
  rank : Nat
  lastSeq : Nat
  deriving DecidableEq, Repr

/-- The Make Way. -/
structure MakeWayFrame where
  target : Nat
  edge : Int
  deriving DecidableEq, Repr

/-- The Slot Query. -/
structure SlotQueryFrame where
  row : Nat
  tag : Nat
  deriving DecidableEq, Repr

/-- The state byte of a Store Notice entry: 1 FREE, 2 OCCUPIED, 3 BLOCKED. -/
inductive NoticeState where
  | free | occupied | blocked
  deriving DecidableEq, Repr

/-- One entry of a Store Notice, as its ten bytes hold it. -/
structure NoticeEntry where
  slot : Nat
  state : NoticeState
  cls : Nat
  coil : Option Nat
  weight : Option Int
  deriving DecidableEq, Repr

/-- The Store Notice: the query tag is present when the answer flag is 1. -/
structure StoreNoticeFrame where
  answer : Option Nat
  entries : List NoticeEntry
  deriving DecidableEq, Repr

/-- R183: a cradle as a Bay Notice sends it. -/
inductive NoticeCradle where
  | empty
  | reserved
  | loaded (coil : Nat) (weight : Int)
  | unnamed (weight : Int)
  deriving DecidableEq, Repr

/-- R183: what a Bay Notice carries beyond bytes 0 to 2 when the bay holds a trailer. -/
structure NoticeLoad where
  trailer : Trailer
  cradles : List NoticeCradle
  deriving DecidableEq, Repr

/-- R183: the Bay Notice. -/
structure BayNoticeFrame where
  bay : Nat
  state : BayState
  remaining : Nat
  load : Option NoticeLoad
  deriving DecidableEq, Repr

/-- A frame the node itself offers to the line. -/
inductive LinkFrame where
  | report (f : ReportFrame)
  | join (f : Interval)
  | extend (f : ExtendFrame)
  | objection (f : ObjectionFrame)
  | release (f : ReleaseFrame)
  | makeWay (f : MakeWayFrame)
  | storeNotice (f : StoreNoticeFrame)
  | bayNotice (f : BayNoticeFrame)
  | slotQuery (f : SlotQueryFrame)
  deriving DecidableEq, Repr

/-! ## The commands -/

/-- The commands of the node, one for each row of the table. A request carries its tag and its payload; a peer's frame
carries its sender rank, its sender sequence and its payload; an expiry carries the rank or the axis whose timer it is;
an edge of an input carries the input's new electrical level (the polarities of R9 say which level is active). -/
inductive Instr where
  | powerOn
  | configure (tag : Nat) (body : Body StartRecord)
  | readStatus (tag : Nat) (body : Body Unit)
  | readEvents (tag : Nat) (body : Body Unit)
  | setEventMask (tag : Nat) (body : Body (BitVec 16))
  | move (tag : Nat) (body : Body MoveRequest)
  | goTo (tag : Nat) (body : Body GoToRequest)
  | setSpeed (tag : Nat) (body : Body SpeedRequest)
  | stopMove (tag : Nat) (body : Body AxesRequest)
  | tare (tag : Nat) (body : Body Unit)
  | beginTask (tag : Nat) (body : Body BeginRequest)
  | abortTask (tag : Nat) (body : Body Nat)
  | readTask (tag : Nat) (body : Body Unit)
  | readRow (tag : Nat) (body : Body Nat)
  | surveyRow (tag : Nat) (body : Body SurveyRequest)
  | blockSlot (tag : Nat) (body : Body Nat)
  | unblockSlot (tag : Nat) (body : Body Nat)
  | dockTruck (tag : Nat) (body : Body DockRequest)
  | closeBay (tag : Nat) (body : Body Nat)
  | undock (tag : Nat) (body : Body Nat)
  | readBay (tag : Nat) (body : Body Nat)
  | readPeers (tag : Nat) (body : Body Unit)
  | prepareRelease (tag : Nat) (body : Body PrepareRequest)
  | confirmRelease (tag : Nat) (body : Body Nat)
  | rejoin (tag : Nat) (body : Body Unit)
  | halt (tag : Nat) (body : Body Unit)
  | clearHalt (tag : Nat) (body : Body Unit)
  | restart (tag : Nat) (body : Body Unit)
  | unknownRequest (kind tag : Nat)
  | impossibleLength
  | incomplete (header : Option (Nat × Nat))
  | badCheck (kind tag : Nat)
  | resyncSilence
  | busy (kind tag : Nat)
  | responseSent
  | hostSilenceExpiry
  | attempt
  | contentionLoss
  | taken
  | checkError (cause : DiscardCause)
  | positionReport (sender seq : Nat) (f : ReportFrame)
  | join (sender seq : Nat) (f : Interval)
  | extend (sender seq : Nat) (f : ExtendFrame)
  | objection (sender seq : Nat) (f : ObjectionFrame)
  | release (sender seq : Nat) (f : ReleaseFrame)
  | makeWay (sender seq : Nat) (f : MakeWayFrame)
  | storeNotice (sender seq : Nat) (f : StoreNoticeFrame)
  | slotQuery (sender seq : Nat) (f : SlotQueryFrame)
  | bayNotice (sender seq : Nat) (f : Body BayNoticeFrame)
  | listenWindowEnd
  | reportTimerExpiry
  | silenceTimeout (rank : Nat)
  | isolationTimeout
  | armingExpiry (rank : Nat)
  | releaseWindowExpiry (rank : Nat)
  | joinWindowExpiry
  | extensionWindowExpiry
  | peerJoinWindowExpiry (rank : Nat)
  | retryTimerExpiry
  | shrinkTimerExpiry
  | queryExpiry
  | answerPlanDue
  | brakeSettleExpiry (axis : Axis)
  | parkTimerExpiry (axis : Axis)
  | profilePeriod (axis : Axis)
  | settleTimerExpiry (axis : Axis)
  | waitTimeout
  | positionInputChange (axis : Axis) (position : Option Int)
  | slowdownEdge (axis : Axis) (side : Side) (level : Bool)
  | endLimitEdge (axis : Axis) (side : Side) (level : Bool)
  | hoistCount (up : Bool)
  | topReferenceEdge (level : Bool)
  | haltLineLevelChange (asserted : Bool)
  | dataReadyEdge (level : Bool)
  | sample (byte : Byte)
  | sampleTimerExpiry
  | converterByteComplete (byte : Byte)
  deriving DecidableEq, Repr

end Sys2Proof
end

