-- ==== Sys2Proof/Machine/State.lean ====
section
/-! DEFINITION. The state of the node as plain data: one record per block of the manual's block overview, the field
inputs as they stand, the commands that are waiting, and the state after reset. INVENTORY.md lists every field with the
rule that names it. A timer is the time of its expiry on the model's clock `now` (notes/assumptions/2.md); a stopped
timer is absent. -/

namespace Sys2Proof.Machine

/-! ## Field inputs -/

/-- The input pins of one travel axis: the absolute position, absent while invalid, and the electrical levels of its
slowdown and end-limit inputs. -/
structure AxisInputs where
  position : Option Int
  slowLow : Bool
  slowHigh : Bool
  limitLow : Bool
  limitHigh : Bool
  deriving DecidableEq, Repr

/-- The input pins. `haltLine` says whether the Halt Line's level is the asserted one; the others are electrical levels. -/
structure Inputs where
  bridge : AxisInputs
  trolley : AxisInputs
  dataReady : Bool
  topReference : Bool
  haltLine : Bool
  deriving DecidableEq, Repr

/-! ## Runway Link Controller (Chapter 2) -/

/-- What a transmit queue entry offers: a live entry (R26) names only what is due, a fixed one holds its content. An
answer also records the row it describes (R146). -/
inductive Content where
  | report
  | storeNotice
  | bayNotice (bay : Nat)
  | join (f : Interval)
  | extend (f : ExtendFrame)
  | objection (f : ObjectionFrame)
  | release (f : ReleaseFrame)
  | makeWay (f : MakeWayFrame)
  | slotQuery (f : SlotQueryFrame)
  | answer (row tag : Nat) (entries : List NoticeEntry)
  deriving DecidableEq, Repr

/-- R24 to R28: one transmit queue entry. `age` is the model's stamp of the moment it joined. -/
structure Entry where
  content : Content
  age : Nat
  offered : Bool
  renewed : Bool
  withdrawn : Bool
  successor : Option (Content × Nat)
  deriving DecidableEq, Repr

/-- The attempt in progress: the frame as its content was fixed at the start, the sequence filled in (R22), and how many
outbox entries a Store Notice carries (R33). -/
structure Attempt where
  frame : LinkFrame
  seq : Nat
  carried : Nat
  deriving DecidableEq, Repr

/-- R36: the four line counters. -/
structure LineCounters where
  checkErrors : Nat
  framesTaken : Nat
  framesReceived : Nat
  contentionLosses : Nat
  deriving DecidableEq, Repr

structure Link where
  queue : List Entry
  attempt : Option Attempt
  seq : Nat
  counters : LineCounters
  reportTimer : Option Nat
  stamp : Nat
  deriving DecidableEq, Repr

/-! ## Peer Table (Chapter 3) -/

/-- R37: presence. -/
inductive Presence where
  | absent | live | doubtful | stale | released
  deriving DecidableEq, Repr

/-- R37: the last Position Report recorded. -/
structure LastReport where
  nodeState : NodeState
  position : Option Int
  speed : Int
  hookLoad : HookLoad
  hookCoil : Option Nat
  deriving DecidableEq, Repr

/-- R37, R50: the Releases waited on, each by sender rank and sender sequence, and the window expiry. -/
structure ReleasePending where
  releases : List (Nat × Nat)
  expiry : Nat
  deriving DecidableEq, Repr

/-- R47: a release arming. -/
structure Arming where
  seq : Nat
  expiry : Nat
  deriving DecidableEq, Repr

/-- R55: the window of a peer's last Join and the verdict given it here. -/
structure PeerJoinWindow where
  expiry : Nat
  valid : Bool
  deriving DecidableEq, Repr

/-- R55: a peer's pending extension. -/
structure PeerExtension where
  side : Side
  edge : Int
  seq : Nat
  expiry : Nat
  deriving DecidableEq, Repr

/-- R37 and R55: one peer record. -/
structure PeerRecord where
  presence : Presence
  releasePending : Option ReleasePending
  lastSeq : Option Nat
  silence : Option Nat
  lastReport : Option LastReport
  arming : Option Arming
  claim : Option Interval
  joinWindow : Option PeerJoinWindow
  extension : Option PeerExtension
  deriving DecidableEq, Repr

/-- The peer records, one for each rank 1..8; the own rank's is never used. -/
structure PeerTable where
  rank1 : PeerRecord
  rank2 : PeerRecord
  rank3 : PeerRecord
  rank4 : PeerRecord
  rank5 : PeerRecord
  rank6 : PeerRecord
  rank7 : PeerRecord
  rank8 : PeerRecord
  deriving DecidableEq, Repr

/-- R48, R49: the node's release in flight; `taken` says whether its Release frame has been taken. -/
structure ReleaseInFlight where
  rank : Nat
  taken : Bool
  deriving DecidableEq, Repr

structure Peers where
  table : PeerTable
  isolation : Option Nat
  inFlight : Option ReleaseInFlight
  deriving DecidableEq, Repr

/-! ## Claim Controller (Chapter 4) -/

/-- R54: the phase of the own pending extension; WINDOW holds the own sender sequence and the window expiry. -/
inductive ExtensionPhase where
  | queued
  | window (seq expiry : Nat)
  deriving DecidableEq, Repr

structure PendingExtension where
  side : Side
  edge : Int
  phase : ExtensionPhase
  deriving DecidableEq, Repr

structure WantedEdge where
  side : Side
  edge : Int
  deriving DecidableEq, Repr

/-- R54: the own claim record. -/
structure ClaimRecord where
  confirmed : Option Interval
  joinWindow : Option Nat
  pending : Option PendingExtension
  wanted : Option WantedEdge
  retry : Option Nat
  shrink : Option Nat
  deriving DecidableEq, Repr

/-! ## Travel Profiler (Chapter 5) -/

/-- R80: the axis states. -/
inductive AxisState where
  | parked | releasing | holding | moving | settling | waiting | stopping | fault
  deriving DecidableEq, Repr

/-- R104: the outcomes of a move. -/
inductive MoveOutcome where
  | done | notInPosition | replaced | cancelled | blocked | halted | limit | lowHook | fault | isolated | voided
  deriving DecidableEq, Repr

/-- R80: the move record. -/
structure MoveRecord where
  target : Int
  requested : Int
  speed : Int
  direction : Side
  stopOrder : Option MoveOutcome
  deriving DecidableEq, Repr

/-- R80: the last outcome of an axis. -/
structure LastOutcome where
  outcome : MoveOutcome
  target : Int
  position : Option Int
  deriving DecidableEq, Repr

/-- R92: the two times the settle timer measures, in milliseconds. -/
structure SettleTimes where
  inWindow : Nat
  settling : Nat
  deriving DecidableEq, Repr

/-- R80: one axis record. The commanded position is in hundredths of a millimetre. -/
structure AxisRecord where
  state : AxisState
  setpoint : Int
  brake : Bool
  commanded : Option Int
  move : Option MoveRecord
  lowHold : Bool
  highHold : Bool
  last : Option LastOutcome
  brakeTimer : Option Nat
  parkTimer : Option Nat
  profileTimer : Option Nat
  settle : Option SettleTimes
  waitTimer : Option Nat
  deriving DecidableEq, Repr

/-- R3: the hoist tracker. -/
structure Hoist where
  height : Int
  referenced : Bool
  deriving DecidableEq, Repr

structure Travel where
  bridge : AxisRecord
  trolley : AxisRecord
  hoist : Hoist
  deriving DecidableEq, Repr

/-! ## Halt Line Unit (Chapter 6) -/

/-- R105: the own halt reasons. -/
inductive HaltReason where
  | host | following | loadLost | snag | void | claimConflict | hostLost
  deriving DecidableEq, Repr

/-- R105: which own reasons are set. -/
structure HaltReasons where
  host : Bool
  following : Bool
  loadLost : Bool
  snag : Bool
  void : Bool
  claimConflict : Bool
  hostLost : Bool
  deriving DecidableEq, Repr

/-- R105 to R107: the own reasons, the line state (ASSERTED or not), the drive and the drive-not-seen flag. -/
structure HaltUnit where
  reasons : HaltReasons
  asserted : Bool
  drives : Bool
  notSeen : Bool
  deriving DecidableEq, Repr

/-! ## Hook Weigher (Chapter 7) -/

/-- R114, R115: the converter interface; in TRANSFERRING byte n it holds the n − 1 bytes kept so far. The outputs to the
converter follow it: `selectOutput` and `clockAtRest` in Weigher.lean. -/
inductive Converter where
  | idle
  | armed
  | byte1
  | byte2 (b1 : Byte)
  | byte3 (b1 b2 : Byte)
  deriving DecidableEq, Repr

/-- R114: the weigher record. The overload flag is the hoist raise inhibit output. -/
structure Weigher where
  converter : Converter
  raw : Option Int
  window : List Int
  filtered : Option Int
  tare : Int
  tared : Bool
  sensorLost : Bool
  timer : Option Nat
  overrange : Bool
  load : HookLoad
  settle : Nat
  overload : Bool
  lost : Nat
  deriving DecidableEq, Repr

/-! ## Store Map (Chapter 8) -/

/-- R130: one slot record. -/
inductive SlotRecord where
  | unknown
  | free
  | blocked
  | occupied (coil : Nat) (weight : Option Int) (cls : Nat)
  | reservedOut (coil : Nat) (weight : Option Int) (cls : Nat) (owner : Nat)
  | reservedIn (coil : Nat) (weight : Option Int) (cls : Nat) (owner : Nat)
  deriving DecidableEq, Repr

/-- R131: one row record. -/
structure RowRecord where
  known : Bool
  spent : Bool
  deriving DecidableEq, Repr

/-- R142: one outbox entry. -/
structure OutboxEntry where
  slot : Nat
  state : SlotState
  deriving DecidableEq, Repr

/-- R143: the open query; the expiry is present in phase WAITING. -/
structure OpenQuery where
  row : Nat
  tag : Nat
  expiry : Option Nat
  deriving DecidableEq, Repr

/-- R145: the answer plan for a peer's query. -/
structure AnswerPlan where
  row : Nat
  tag : Nat
  due : Nat
  deriving DecidableEq, Repr

/-- The store map. A slot that `slots` does not list is UNKNOWN, a row that `rows` does not list is UNKNOWN with its
spent flag clear. -/
structure Store where
  slots : Table SlotRecord
  rows : Table RowRecord
  outbox : List OutboxEntry
  query : Option OpenQuery
  counter : Nat
  plan : Option AnswerPlan
  deriving DecidableEq, Repr

/-! ## Task Engine (Chapter 9) -/

/-- R174: who reserved a cradle; an own owner is a task number, with the coil and known weight reserved. -/
inductive CradleOwner where
  | own (task coil : Nat) (weight : Int)
  | foreign
  deriving DecidableEq, Repr

/-- R174: one cradle record; a LOADED cradle without a coil is unnamed. -/
inductive CradleRecord where
  | empty
  | reserved (owner : CradleOwner)
  | loaded (coil : Option Nat) (weight : Int)
  deriving DecidableEq, Repr

/-- R151: one journal entry: the place, its prior record and the settled flag. -/
inductive JournalEntry where
  | slot (n : Nat) (prior : SlotRecord) (settled : Bool)
  | cradle (bay i : Nat) (prior : CradleRecord) (settled : Bool)
  deriving DecidableEq, Repr

/-- R151: one open task. Its depth is its place in the nest. -/
structure Task where
  number : Nat
  kind : TaskKind
  source : Place
  dest : Place
  coil : Nat
  cls : Nat
  expected : Option Int
  carrying : Bool
  journal : List JournalEntry
  deriving DecidableEq, Repr

/-- R153: the hook coil record. -/
structure HookCoil where
  coil : Nat
  weight : Int
  cls : Nat
  deriving DecidableEq, Repr

/-- R153: how a load left the hook. -/
inductive UnplacedWay where
  | set | loadLost
  deriving DecidableEq, Repr

/-- R153: the unplaced record. -/
structure Unplaced where
  way : UnplacedWay
  coil : Option Nat
  net : Option Int
  bridge : Option Int
  trolley : Option Int
  deriving DecidableEq, Repr

/-- R168: the causes of an abort. -/
inductive AbortCause where
  | place | covered | weight | loadLost | snag | host | voided
  deriving DecidableEq, Repr

/-- R170: one entry of the outcome list; `aborted` holds the cause and its depth, and is absent for DONE. -/
structure TaskOutcome where
  number : Nat
  kind : TaskKind
  aborted : Option (AbortCause × Nat)
  deriving DecidableEq, Repr

/-- The Task Engine: the nest is ordered from the outermost task to the top. -/
structure Tasks where
  nest : List Task
  hookCoil : Option HookCoil
  loose : Bool
  unplaced : Option Unplaced
  outcomes : List TaskOutcome
  counter : Nat
  deriving DecidableEq, Repr

/-! ## Bay Table (Chapter 10) -/

/-- R174: what a bay record holds in every state but EMPTY. -/
structure BayLoad where
  trailer : Trailer
  remaining : Int
  cradles : List CradleRecord
  deriving DecidableEq, Repr

/-- R174: the announcer. -/
inductive Announcer where
  | own
  | peer (rank : Nat)
  deriving DecidableEq, Repr

/-- R174: one bay record. -/
structure BayRecord where
  state : BayState
  load : Option BayLoad
  announcer : Option Announcer
  unsure : Bool
  deriving DecidableEq, Repr

structure Bays where
  bay0 : BayRecord
  bay1 : BayRecord
  bay2 : BayRecord
  bay3 : BayRecord
  deriving DecidableEq, Repr

/-! ## Service Port (Chapter 11) -/

/-- The statuses of section 11.1, in the order of their codes. -/
inductive Status where
  | ok | clamped | busy | error | unknown | unconfigured | locked | range | state | zone | stack | weight | axle
  | depth | lowHook | limit | full | notFound
  deriving DecidableEq, Repr

/-- R107: the cause of a HALT_CHANGED. -/
inductive HaltCause where
  | reason (r : HaltReason)
  | lineAsserted
  | lineReleased
  deriving DecidableEq, Repr

/-- R79: the outcome of a CLAIM_CHANGED with its further detail. -/
inductive ClaimOutcome where
  | confirmed (side : Side) (edge : Int)
  | objected (side : Side) (edge : Int) (rank : Nat)
  | void (side : Side) (edge : Int)
  | abandoned (side : Side) (edge : Int)
  | shrunk
  | removed
  deriving DecidableEq, Repr

/-- R129: the cause of a WEIGHT_FAULT. -/
inductive WeightCause where
  | sensorLost | overrange | overload
  deriving DecidableEq, Repr

/-- R97: the cause of an AXIS_FAULT. -/
inductive FaultCause where
  | invalidPosition | followingError
  deriving DecidableEq, Repr

/-- R150: the cause of a STORE_SUSPECT. -/
inductive SuspectCause where
  | peerRegion | badEntry | heldSlot | coilClash | stackBreak | unanswered
  deriving DecidableEq, Repr

/-- R53: the outcome of a release in flight. -/
inductive ReleaseOutcome where
  | released | denied | withdrawn
  deriving DecidableEq, Repr

/-- R169: the fields TASK_ABORTED adds by cause. -/
inductive AbortDetail where
  | none
  | place (atSet : Bool) (bridge trolley : Option Int)
  | covered (slot : Nat)
  | weight (net expected : Int)
  deriving DecidableEq, Repr

/-- The detail record of each event (section 11.4), in event number order. -/
inductive Detail where
  | moveDone (axis : Axis) (outcome : MoveOutcome) (target : Int) (position : Option Int)
  | taskDone (number : Nat) (kind : TaskKind) (depth coil : Nat) (dest : Place) (weight : Int)
  | taskAborted (cause : AbortCause) (number depth unwound : Nat) (hookCoil loose : Bool) (extra : AbortDetail)
  | lift (net : Int) (filtered : Int)
  | set (net : Int) (filtered : Int)
  | haltChanged (cause : HaltCause) (asserted drives : Bool) (reasons : HaltReasons)
  | peerChanged (rank : Nat) (left entered : Presence)
  | claimChanged (outcome : ClaimOutcome) (claim : Option Interval)
  | makeWay (asker : Nat) (edge : Int)
  | bayComplete (bay loaded : Nat) (axle kingpin payload : Int)
  | weightFault (cause : WeightCause) (sensorLost overrange overload : Bool) (raw : Option Int) (net : Option Int)
      (netValid : Bool)
  | limit (axis : Axis) (side : Side) (ended : Bool)
  | axisFault (axis : Axis) (cause : FaultCause) (commanded : Option Int) (position : Option Int)
  | storeSuspect (cause : SuspectCause) (row : Option Nat) (count : Nat) (rank : Option Nat)
  | nodeState (entered left : NodeState)
  | releaseOutcome (rank : Nat) (outcome : ReleaseOutcome) (denier : Option Nat)
  deriving DecidableEq, Repr

/-- R193: the pending flag, detail record and repeat count of one event. -/
structure EventRecord where
  pending : Bool
  detail : Option Detail
  count : Nat
  deriving DecidableEq, Repr

/-- R189: the receiver's framing state. -/
inductive Receiver where
  | hunt | frame | resync
  deriving DecidableEq, Repr

/-- R179: the three loads of a trailer. -/
structure Loads where
  axle : Int
  kingpin : Int
  payload : Int
  deriving DecidableEq, Repr

/-- R180: the quantity an AXLE refusal names. -/
inductive LoadKind where
  | axle | kingpin | payload
  deriving DecidableEq, Repr

/-- R104: what Read Status reports of one axis. -/
structure AxisReport where
  state : AxisState
  setpoint : Int
  position : Option Int
  commanded : Option Int
  move : Option MoveRecord
  lowHold : Bool
  highHold : Bool
  last : Option LastOutcome
  effective : Option (Int × Bool)
  deriving DecidableEq, Repr

/-- R129: what Read Status reports of the weigher. -/
structure WeigherReport where
  load : HookLoad
  settle : Nat
  raw : Option Int
  valid : Bool
  filtered : Option Int
  net : Option Int
  tare : Int
  samples : Nat
  stable : Bool
  sensorLost : Bool
  overrange : Bool
  overload : Bool
  inhibit : Bool
  lost : Nat
  deriving DecidableEq, Repr

/-- R198: what Read Status returns. A remaining time is in milliseconds. -/
structure StatusReport where
  node : NodeState
  configured : Bool
  claim : Option Interval
  wanted : Option WantedEdge
  pending : Option PendingExtension
  pendingLeft : Option Nat
  joinLeft : Option Nat
  bridge : AxisReport
  trolley : AxisReport
  height : Int
  referenced : Bool
  belowClear : Option Bool
  reasons : HaltReasons
  asserted : Bool
  drives : Bool
  notSeen : Bool
  hostLeft : Option Nat
  weigher : WeigherReport
  outbox : Nat
  freeRoom : Int
  counters : LineCounters
  framing : Nat
  overrun : Nat
  mask : BitVec 16
  pendingFlags : BitVec 16
  deriving DecidableEq, Repr

/-- R53: what Read Peers returns of one rank; the expiry of the extension and that of the arming stand as the time left. -/
structure PeerReport where
  rank : Nat
  presence : Presence
  releaseLeft : Option Nat
  lastSeq : Option Nat
  lastReport : Option LastReport
  claim : Option Interval
  extension : Option PeerExtension
  arming : Option Arming
  deriving DecidableEq, Repr

/-- R150: what Read Row returns of one slot. -/
structure SlotReport where
  slot : Nat
  record : SlotRecord
  held : Bool
  deriving DecidableEq, Repr

/-- R150: what Read Row returns. -/
structure RowReport where
  known : Bool
  spent : Bool
  covered : Bool
  query : Option OpenQuery
  queryLeft : Option Nat
  slots : List SlotReport
  deriving DecidableEq, Repr

/-- R187: what Read Bay returns. -/
structure BayReport where
  state : BayState
  announcer : Option Announcer
  unsure : Bool
  covered : Bool
  coverage : Interval
  load : Option BayLoad
  cradleX : List Int
  loaded : Nat
  reserved : Nat
  committed : Option Loads
  prospective : Option Loads
  deriving DecidableEq, Repr

/-- R173: what Read Task returns. -/
structure TaskReport where
  nest : List Task
  hookCoil : Option HookCoil
  loose : Bool
  unplaced : Option Unplaced
  outcomes : List TaskOutcome
  next : Nat
  deriving DecidableEq, Repr

/-- What follows the status byte of a response: the result of the request, or what a refusal names. -/
inductive Result where
  | none
  | field (n : Nat)
  | overload (what : LoadKind) (value limit : Int)
  | incomplete
  | badCheck
  | tare (value : Int)
  | begun (number depth : Nat)
  | unwound (count : Nat)
  | halts (reasons : HaltReasons) (asserted : Bool)
  | mask (mask pending : BitVec 16)
  | status (r : StatusReport)
  | events (list : List (Nat × EventRecord))
  | task (r : TaskReport)
  | row (r : RowReport)
  | bay (r : BayReport)
  | peers (list : List PeerReport) (inFlight : Option Nat)
  deriving DecidableEq, Repr

/-- A frame the transmitter sends or holds: the response to the request in hand, or an immediate answer (R191). -/
structure PortFrame where
  immediate : Bool
  kind : Nat
  tag : Nat
  status : Status
  result : Result
  deriving DecidableEq, Repr

/-- The Service Port. The transmitter's list is in the order the frames were formed; its head is being sent. An event
that `events` does not list is not pending. A set bit of the mask masks its event. -/
structure Port where
  receiver : Receiver
  inHand : Option (Nat × Nat)
  transmit : List PortFrame
  framing : Nat
  overrun : Nat
  events : Table EventRecord
  mask : BitVec 16
  attention : Bool
  hostTimer : Option Nat
  deriving DecidableEq, Repr

/-! ## The whole state -/

/-- The node. `record` is the start record in force. `now`, `link.stamp` and `scanDue` are the model's own: the clock,
the stamp of queue ages, and whether a query scan falls due at the end of the handling under way. -/
structure State where
  inputs : Inputs
  record : Option StartRecord
  node : NodeState
  listen : Option Nat
  link : Link
  peers : Peers
  claim : ClaimRecord
  travel : Travel
  halt : HaltUnit
  weigher : Weigher
  store : Store
  tasks : Tasks
  bays : Bays
  port : Port
  now : Nat
  scanDue : Bool
  pending : List Instr
  deriving DecidableEq, Repr

/-! ## Reset values -/

/-- R37, R55: a peer record after reset. -/
def PeerRecord.reset : PeerRecord :=
  { presence := .absent, releasePending := none, lastSeq := none, silence := none, lastReport := none, arming := none,
    claim := none, joinWindow := none, extension := none }

/-- R37: the Peer Table after reset. -/
def Peers.reset : Peers :=
  { table := ⟨.reset, .reset, .reset, .reset, .reset, .reset, .reset, .reset⟩, isolation := none, inFlight := none }

/-- R22, R24, R36: the Runway Link Controller after reset. -/
def Link.reset : Link :=
  { queue := [], attempt := none, seq := 0, counters := ⟨0, 0, 0, 0⟩, reportTimer := none, stamp := 0 }

/-- R54: the own claim record after reset. -/
def ClaimRecord.reset : ClaimRecord :=
  { confirmed := none, joinWindow := none, pending := none, wanted := none, retry := none, shrink := none }

/-- R80: an axis record after reset. -/
def AxisRecord.reset : AxisRecord :=
  { state := .parked, setpoint := 0, brake := false, commanded := none, move := none, lowHold := false,
    highHold := false, last := none, brakeTimer := none, parkTimer := none, profileTimer := none, settle := none,
    waitTimer := none }

/-- R3, R80: the Travel Profiler after reset. H carries no meaning until the hoist is REFERENCED; the model starts it
at 0 (notes/assumptions/3.md). -/
def Travel.reset : Travel := { bridge := .reset, trolley := .reset, hoist := ⟨0, false⟩ }

/-- R105: no reason set. -/
def HaltReasons.clear : HaltReasons := ⟨false, false, false, false, false, false, false⟩

/-- R113: the Halt Line Unit after reset. -/
def HaltUnit.reset : HaltUnit := { reasons := .clear, asserted := false, drives := false, notSeen := false }

/-- R114: the weigher record after reset. -/
def Weigher.reset : Weigher :=
  { converter := .idle, raw := none, window := [], filtered := none, tare := 0, tared := false, sensorLost := false,
    timer := none, overrange := false, load := .empty, settle := 0, overload := false, lost := 0 }

/-- R131: a row after reset. -/
def RowRecord.reset : RowRecord := ⟨false, false⟩

/-- R130, R131, R142, R143, R145: the Store Map after reset. -/
def Store.reset : Store := { slots := [], rows := [], outbox := [], query := none, counter := 0, plan := none }

/-- R152, R153, R170: the Task Engine after reset. -/
def Tasks.reset : Tasks :=
  { nest := [], hookCoil := none, loose := false, unplaced := none, outcomes := [], counter := 1 }

/-- R174: a bay record after reset. -/
def BayRecord.reset : BayRecord := { state := .empty, load := none, announcer := none, unsure := false }

/-- R174: the Bay Table after reset. -/
def Bays.reset : Bays := ⟨.reset, .reset, .reset, .reset⟩

/-- R193: an event after reset. -/
def EventRecord.reset : EventRecord := ⟨false, none, 0⟩

/-- R193, R195, R198, R113: the Service Port after reset. -/
def Port.reset : Port :=
  { receiver := .hunt, inHand := none, transmit := [], framing := 0, overrun := 0, events := [],
    mask := BitVec.allOnes 16, attention := false, hostTimer := none }

/-- The inputs the model starts with: positions invalid, every level low, the Halt Line released
(notes/assumptions/3.md; the manual gives an input no reset value). -/
def Inputs.reset : Inputs :=
  { bridge := ⟨none, false, false, false, false⟩, trolley := ⟨none, false, false, false, false⟩,
    dataReady := false, topReference := false, haltLine := false }

/-- R11: the node right after power-on, with no command waiting. -/
def State.reset : State :=
  { inputs := .reset, record := none, node := .unconfigured, listen := none, link := .reset, peers := .reset,
    claim := .reset, travel := .reset, halt := .reset, weigher := .reset, store := .reset, tasks := .reset,
    bays := .reset, port := .reset, now := 0, scanDue := false, pending := [] }

/-! ## How a step can stop -/

/-- Reasons to stop with a fault. There is none: the manual gives every command an effect in every state (R192 answers
every request, and an event that finds nothing to act on changes nothing), and no command stops the node. Safe: nothing
can raise one. -/
inductive Fault where
  deriving DecidableEq, Repr

/-- Reasons to refuse a command. -/
inductive Refusal where
  /-- Raised by exec alone, for a command that has no meaning yet; no command is left so. Safe. -/
  | notModelled (mnemonic : String)
  deriving DecidableEq, Repr

/-- What a step, or a command, answers. -/
abbrev Handled := Host.Outcome State Fault Refusal

end Sys2Proof.Machine
end

