-- ==== Sys2Proof/Machine/Ops.lean ====
section
/-! DEFINITION. The named operations every block uses: the sparse tables, the manual's arithmetic, the clock and timers,
the records of a rank, an axis and a bay, and the transmit queue of the Runway Link Controller. -/

namespace Sys2Proof.Machine

/-! ## Sparse tables -/

/-- The value a table holds at a key, `d` where it lists none. -/
def tableGet {α : Type} (d : α) : Table α → Nat → α
  | [], _ => d
  | (k, v) :: t, n => if k = n then v else tableGet d t n

/-- Sets the value at a key, keeping keys rising and listing no default value. -/
def tablePut {α : Type} [DecidableEq α] (d : α) : Table α → Nat → α → Table α
  | [], n, v => if v = d then [] else [(n, v)]
  | (k, w) :: t, n, v =>
    if n < k then (if v = d then (k, w) :: t else (n, v) :: (k, w) :: t)
    else if k = n then (if v = d then t else (n, v) :: t)
    else (k, w) :: tablePut d t n v

/-- The canonical form: every key above `bound` and rising, no default value listed. -/
def tableAbove {α : Type} [DecidableEq α] (d : α) : Option Nat → Table α → Bool
  | _, [] => true
  | bound, (k, v) :: t => (bound.all (· < k)) && decide (v ≠ d) && tableAbove d (some k) t

/-- A table is in canonical form. -/
def tableWf {α : Type} [DecidableEq α] (d : α) (t : Table α) : Bool := tableAbove d none t

/-! ## The manual's arithmetic -/

/-- ⌈n / d⌉ for d > 0. -/
def ceilDiv (n d : Int) : Int := -((-n) / d)

/-- n / d rounded to nearest, ties away from zero, for d > 0 (00_scope.md, R117, R119). -/
def roundDiv (n d : Int) : Int :=
  if 0 ≤ n then (2 * n + d) / (2 * d) else -((2 * (-n) + d) / (2 * d))

/-- The value of [low, high] nearest to x. -/
def clamp (low high x : Int) : Int := if x < low then low else if high < x then high else x

/-- The magnitude of a speed or a difference. -/
def magnitude (x : Int) : Int := if x < 0 then -x else x

/-- One more, staying at the top value (R36, R115, R190, R191). -/
def countUp (n : Nat) : Nat := if n < Config.counterTop then n + 1 else n

/-! ## Clock and timers -/

/-- The start record in force; its fields are meant only while one is accepted. -/
def State.conf (s : State) : StartRecord :=
  s.record.getD
    { ownRank := 0, craneCount := 0, runway := 0, halfLength := 0, margin := 0, restMargin := 0,
      bridge := ⟨0, 0, 0, 0, 0, 0, 0, 0, 0, 0, 0⟩, span := 0, trolley := ⟨0, 0, 0, 0, 0, 0, 0, 0, 0, 0, 0⟩,
      brakeSettle := 0, parkDelay := 0, waitTimeout := 0, releaseDelay := 0, polarities := 0, hoistTop := 0,
      clearHeight := 0, rowBase := 0, rowPitch := 0, rows := 0, lateralBase := 0, lateralPitch := 0, lowers := 0,
      saddle := [], intakeCount := 0, intake0 := ⟨0, 0⟩, intake1 := ⟨0, 0⟩, bayCount := 0, bay0 := ⟨0, 0⟩,
      bay1 := ⟨0, 0⟩, bay2 := ⟨0, 0⟩, bay3 := ⟨0, 0⟩, zeroCount := 0, scale := 0, pick := 0, releaseLevel := 0,
      band := 0, settleCount := 0, swl := 0, tolPerMille := 0, tolMin := 0, liftWindow := 0, reportInterval := 0,
      silenceCount := 0, hostTimeout := 0 }

/-- The expiry of a timer at `deadline` takes place: the clock stands at the deadline or later. -/
def elapse (s : State) (deadline : Nat) : State := { s with now := max s.now deadline }

/-- The time left to a deadline. -/
def timeLeft (s : State) (deadline : Nat) : Nat := deadline - s.now

/-- R13, R41: the silence timeout and the listen window. -/
def silenceTimeoutOf (c : StartRecord) : Nat := c.silenceCount * c.reportInterval

/-- R61, R66, R50: an objection window and a release window last two report intervals. -/
def objectionWindowOf (c : StartRecord) : Nat := 2 * c.reportInterval

/-! ## Records of a rank, an axis, a bay, a halt reason -/

/-- The peer record of a rank; a rank outside 1..8 has none and reads as after reset. -/
def peerAt (t : PeerTable) (rank : Nat) : PeerRecord :=
  match rank with
  | 1 => t.rank1 | 2 => t.rank2 | 3 => t.rank3 | 4 => t.rank4
  | 5 => t.rank5 | 6 => t.rank6 | 7 => t.rank7 | 8 => t.rank8
  | _ => .reset

/-- The table with the record of a rank replaced. -/
def putPeer (t : PeerTable) (rank : Nat) (p : PeerRecord) : PeerTable :=
  match rank with
  | 1 => { t with rank1 := p } | 2 => { t with rank2 := p } | 3 => { t with rank3 := p }
  | 4 => { t with rank4 := p } | 5 => { t with rank5 := p } | 6 => { t with rank6 := p }
  | 7 => { t with rank7 := p } | 8 => { t with rank8 := p }
  | _ => t

/-- The peer record of a rank. -/
def State.peer (s : State) (rank : Nat) : PeerRecord := peerAt s.peers.table rank

/-- The state with the peer record of a rank replaced. -/
def State.withPeer (s : State) (rank : Nat) (p : PeerRecord) : State :=
  { s with peers := { s.peers with table := putPeer s.peers.table rank p } }

/-- The ranks 1..N other than the own one; before the start record is accepted, none (DESIGN CHOICE for what Read Peers then
returns, notes/assumptions/40.md). -/
def peerRanks (s : State) : List Nat :=
  ((List.range s.conf.craneCount).map (· + 1)).filter (· ≠ s.conf.ownRank)

/-- The record of an axis. -/
def State.axis (s : State) : Axis → AxisRecord
  | .bridge => s.travel.bridge
  | .trolley => s.travel.trolley

/-- The state with the record of an axis replaced. -/
def State.withAxis (s : State) (a : Axis) (r : AxisRecord) : State :=
  match a with
  | .bridge => { s with travel := { s.travel with bridge := r } }
  | .trolley => { s with travel := { s.travel with trolley := r } }

/-- The input pins of an axis. -/
def Inputs.axis (i : Inputs) : Axis → AxisInputs
  | .bridge => i.bridge
  | .trolley => i.trolley

/-- The inputs with the pins of an axis replaced. -/
def Inputs.withAxis (i : Inputs) (a : Axis) (r : AxisInputs) : Inputs :=
  match a with
  | .bridge => { i with bridge := r }
  | .trolley => { i with trolley := r }

/-- The position input of an axis, absent while invalid. -/
def State.position (s : State) (a : Axis) : Option Int := (s.inputs.axis a).position

/-- The start-record fields of an axis. -/
def axisParams (c : StartRecord) : Axis → AxisParams
  | .bridge => c.bridge
  | .trolley => c.trolley

/-- The bay record of a bay number; a number above 3 has none and reads as after reset. -/
def bayAt (t : Bays) (bay : Nat) : BayRecord :=
  match bay with
  | 0 => t.bay0 | 1 => t.bay1 | 2 => t.bay2 | 3 => t.bay3
  | _ => .reset

/-- The Bay Table with the record of a bay replaced. -/
def putBay (t : Bays) (bay : Nat) (r : BayRecord) : Bays :=
  match bay with
  | 0 => { t with bay0 := r } | 1 => { t with bay1 := r } | 2 => { t with bay2 := r } | 3 => { t with bay3 := r }
  | _ => t

/-- The bay record of a bay number. -/
def State.bay (s : State) (bay : Nat) : BayRecord := bayAt s.bays bay

/-- The state with the record of a bay replaced. -/
def State.withBay (s : State) (bay : Nat) (r : BayRecord) : State := { s with bays := putBay s.bays bay r }

/-- The front X and lane Y of a bay (R6). -/
def bayPoint (c : StartRecord) (bay : Nat) : Point :=
  match bay with
  | 0 => c.bay0 | 1 => c.bay1 | 2 => c.bay2 | _ => c.bay3

/-- The (X, Y) of an intake point (R6). -/
def intakePoint (c : StartRecord) (i : Nat) : Point :=
  match i with
  | 0 => c.intake0 | _ => c.intake1

/-! ## The transmit queue (section 2.5) -/

/-- The class of an entry (section 2.4). -/
def Content.cls : Content → Nat
  | .objection _ => 1
  | .release _ => 2
  | .join _ => 3
  | .extend _ => 3
  | .storeNotice => 4
  | .bayNotice _ => 5
  | .makeWay _ => 6
  | .slotQuery _ => 7
  | .report => 8
  | .answer _ _ _ => 9

/-- R26: the live entries. -/
def Content.live : Content → Bool
  | .report | .storeNotice | .bayNotice _ => true
  | _ => false

/-- R25: whether a new entry `c` merges with a queued one `d` of its kind. Answers never merge (R34). -/
def Content.merges (c d : Content) : Bool :=
  match c, d with
  | .objection f, .objection g =>
    f.target == g.target && ((f.reason == .releaseDenied) == (g.reason == .releaseDenied))
  | .release _, .release _ => true
  | .join _, .join _ | .join _, .extend _ | .extend _, .join _ | .extend _, .extend _ => true
  | .storeNotice, .storeNotice => true
  | .bayNotice b, .bayNotice b' => b == b'
  | .makeWay _, .makeWay _ => true
  | .slotQuery _, .slotQuery _ => true
  | .report, .report => true
  | _, _ => false

/-- R30: the entries that may join the queue in a node state. -/
def mayJoin (n : NodeState) (c : Content) : Bool :=
  match n with
  | .unconfigured => false
  | .listening => match c with | .join _ => true | _ => false
  | .joinBlocked => match c with | .report => false | _ => true
  | .joining | .active | .isolated | .voided => true

/-- Whether entry `e` stands before an entry of the class and age given (R24). -/
def Entry.before (e : Entry) (cls age : Nat) : Bool :=
  e.content.cls < cls || (e.content.cls == cls && e.age ≤ age)

/-- R24: places an entry by class, and by age within its class. -/
def insertEntry (e : Entry) : List Entry → List Entry
  | [] => [e]
  | x :: q => if x.before e.content.cls e.age then x :: insertEntry e q else e :: x :: q

/-- R25, R27: what the arrival of `c` does to the queued entry it merges with. -/
def mergeEntry (c : Content) (stamp : Nat) (e : Entry) : Entry :=
  if c.live then (if e.offered then { e with renewed := true } else e)
  else if e.offered then { e with successor := some (c, stamp) }
  else { e with content := c }

/-- Applies the merge to the first entry, not withdrawn, that takes `c` in; none when there is none. -/
def mergeInto (c : Content) (stamp : Nat) : List Entry → Option (List Entry)
  | [] => none
  | e :: q =>
    if !e.withdrawn && c.merges e.content then some (mergeEntry c stamp e :: q)
    else (mergeInto c stamp q).map (e :: ·)

/-- R24, R25: an entry arrives at the queue, whatever the node state. -/
def enqueue (l : Link) (c : Content) : Link :=
  match mergeInto c l.stamp l.queue with
  | some q => { l with queue := q, stamp := l.stamp + 1 }
  | none =>
    { l with
      queue := insertEntry ⟨c, l.stamp, false, false, false, none⟩ l.queue
      stamp := l.stamp + 1 }

/-- A rule queues an entry: it arrives where R30 lets it, and is dropped elsewhere. -/
def offer (s : State) (c : Content) : State :=
  if mayJoin s.node c then { s with link := enqueue s.link c } else s

/-- R28: withdraws every entry that `p` names: at once, or marked while its attempt runs. -/
def withdrawEntries (p : Content → Bool) (q : List Entry) : List Entry :=
  q.filterMap fun e =>
    if p e.content && !e.withdrawn then
      (if e.offered then some { e with withdrawn := true, renewed := false, successor := none } else none)
    else some e

/-- R28: the owning block withdraws the entries that `p` names. -/
def withdraw (s : State) (p : Content → Bool) : State :=
  { s with link := { s.link with queue := withdrawEntries p s.link.queue } }

/-- Whether an entry that `p` names is queued and not withdrawn. -/
def queued (s : State) (p : Content → Bool) : Bool :=
  s.link.queue.any fun e => p e.content && !e.withdrawn

/-- The own Join or Extend. -/
def isClaimFrame : Content → Bool
  | .join _ | .extend _ => true
  | _ => false

/-- The own Join. -/
def isJoin : Content → Bool
  | .join _ => true
  | _ => false

/-- The own Release. -/
def isRelease : Content → Bool
  | .release _ => true
  | _ => false

/-- A Position Report. -/
def isReport : Content → Bool
  | .report => true
  | _ => false

/-- A Store Notice that is not an answer. -/
def isStoreNotice : Content → Bool
  | .storeNotice => true
  | _ => false

/-- A query answer. -/
def isAnswer : Content → Bool
  | .answer _ _ _ => true
  | _ => false

/-! ## The port's transmitter (R191) -/

/-- A response or an immediate answer joins the transmitter's list in the order it was formed. -/
def transmit (s : State) (f : PortFrame) : State :=
  { s with port := { s.port with transmit := s.port.transmit ++ [f] } }

/-- R191: an immediate answer is formed; while one is already waiting behind the frame being sent, the frame that
needs it is discarded and counted. -/
def answerAtOnce (s : State) (kind tag : Nat) (st : Status) (r : Result) : State :=
  if s.port.transmit.tail.any (·.immediate) then
    { s with port := { s.port with overrun := countUp s.port.overrun } }
  else transmit s ⟨true, kind, tag, st, r⟩

end Sys2Proof.Machine
end

