-- ==== Sys2Proof/Machine/Flags.lean ====
section
/-! DEFINITION. The flags the host and the line see: the pending events with the Attention output (R193, R194), and the
own halt reasons (R105). -/

namespace Sys2Proof.Machine

/-- The number of an event, from its detail (section 11.4). -/
def Detail.number : Detail → Nat
  | .moveDone .. => 0
  | .taskDone .. => 1
  | .taskAborted .. => 2
  | .lift .. => 3
  | .set .. => 4
  | .haltChanged .. => 5
  | .peerChanged .. => 6
  | .claimChanged .. => 7
  | .makeWay .. => 8
  | .bayComplete .. => 9
  | .weightFault .. => 10
  | .limit .. => 11
  | .axisFault .. => 12
  | .storeSuspect .. => 13
  | .nodeState .. => 14
  | .releaseOutcome .. => 15

/-- R194: at least one pending event is unmasked. -/
def attentionDue (events : Table EventRecord) (mask : BitVec 16) : Bool :=
  events.any fun (n, e) => e.pending && !mask.getLsbD n

/-- R194: Attention follows the pending events and the mask. -/
def refreshAttention (p : Port) : Port := { p with attention := attentionDue p.events p.mask }

/-- R193: the record of an event after a further occurrence with detail `d`. -/
def EventRecord.next (e : EventRecord) (d : Detail) : EventRecord :=
  { pending := true, detail := some d,
    count := if e.pending then (if e.count < Config.repeatTop then e.count + 1 else e.count) else 1 }

/-- The record of an event. -/
def eventAt (p : Port) (n : Nat) : EventRecord := tableGet .reset p.events n

/-- R193: a block raises an event. -/
def raiseEvent (s : State) (d : Detail) : State :=
  { s with
    port := refreshAttention
      { s.port with
        events := tablePut .reset s.port.events d.number ((eventAt s.port d.number).next d) } }

/-- The pending flags, bit n for event n (R195, R198). -/
def pendingFlags (p : Port) : BitVec 16 :=
  p.events.foldl (fun b (n, e) => if e.pending then b ||| (1#16 <<< n) else b) 0#16

/-- Whether an own reason is set. -/
def HaltReasons.get (r : HaltReasons) : HaltReason → Bool
  | .host => r.host
  | .following => r.following
  | .loadLost => r.loadLost
  | .snag => r.snag
  | .void => r.void
  | .claimConflict => r.claimConflict
  | .hostLost => r.hostLost

/-- The reasons with one set or cleared. -/
def HaltReasons.put (r : HaltReasons) (b : Bool) : HaltReason → HaltReasons
  | .host => { r with host := b }
  | .following => { r with following := b }
  | .loadLost => { r with loadLost := b }
  | .snag => { r with snag := b }
  | .void => { r with void := b }
  | .claimConflict => { r with claimConflict := b }
  | .hostLost => { r with hostLost := b }

/-- At least one own reason is set. -/
def HaltReasons.any (r : HaltReasons) : Bool :=
  r.host || r.following || r.loadLost || r.snag || r.void || r.claimConflict || r.hostLost

/-- R106: the node states in which the node may drive the Halt Line. -/
def drivingState : NodeState → Bool
  | .joining | .joinBlocked | .active | .isolated | .voided => true
  | .unconfigured | .listening => false

/-- R106: the node drives while a reason is set in a driving state. -/
def driveDue (s : State) : Bool := s.halt.reasons.any && drivingState s.node

/-- R107: the line state; before the start record is accepted the level is not watched. -/
def lineDue (s : State) : Bool := s.record.isSome && (s.inputs.haltLine || driveDue s)

end Sys2Proof.Machine
end

