-- ==== Sys2Proof/Machine/Operands.lean ====
section
/-! DEFINITION. What the operands of the commands name: slots, rows, intake points and cradles as points of the runway
and the span (sections 1.1 to 1.4), coverage (section 1.5), and the start record's two checking passes (section 1.6)
with the stopping distances they use (R56). -/

namespace Sys2Proof.Machine

/-! ## Stopping distances (R56) -/

/-- R56: S₀(v, s), the distance to stop. -/
def stopDistance (v s : Int) : Int :=
  let q := v / s
  if q = 0 then 0 else ceilDiv (q * v - s * (q * (q + 1) / 2)) 100

/-- R56: S_c(v, s), the distance to slow to creep speed. -/
def creepDistance (creep v s : Int) : Int :=
  if v ≤ creep then 0
  else
    let q := (v - creep) / s
    ceilDiv (q * v - s * (q * (q + 1) / 2)) 100

/-! ## Geometry -/

/-- h + m. -/
def reach (c : StartRecord) : Int := c.halfLength + c.margin

/-- R1: the low end of the bridge travel range. -/
def bridgeMin (c : StartRecord) : Int := reach c
/-- R1: the high end of the bridge travel range. -/
def bridgeMax (c : StartRecord) : Int := c.runway - reach c

/-- R1, R2: the travel range of an axis. -/
def travelRange (c : StartRecord) : Axis → Interval
  | .bridge => ⟨bridgeMin c, bridgeMax c⟩
  | .trolley => ⟨0, c.span⟩

/-- R4: X of a row. -/
def rowX (c : StartRecord) (row : Nat) : Int := c.rowBase + row * c.rowPitch

/-- The row of a slot number. -/
def slotRow (n : Nat) : Nat := n / 16
/-- The index of a slot number in its row. -/
def slotIndex (n : Nat) : Nat := n % 16

/-- R5: the slot number is in use. -/
def slotInUse (c : StartRecord) (n : Nat) : Bool :=
  slotRow n < c.rows && (slotIndex n < c.lowers || (8 ≤ slotIndex n && slotIndex n ≤ c.lowers + 6))

/-- The slot is an upper one. -/
def isUpper (n : Nat) : Bool := 8 ≤ slotIndex n

/-- R4: Y of a slot. -/
def slotY (c : StartRecord) (n : Nat) : Int :=
  if isUpper n then c.lateralBase + (slotIndex n - 8 : Nat) * c.lateralPitch + c.lateralPitch / 2
  else c.lateralBase + slotIndex n * c.lateralPitch

/-- R4: the position of a slot. -/
def slotPoint (c : StartRecord) (n : Nat) : Point := ⟨rowX c (slotRow n), slotY c n⟩

/-- The lower slots of a row, in index order. -/
def lowerSlots (c : StartRecord) (row : Nat) : List Nat := (List.range c.lowers).map (row * 16 + ·)
/-- The upper slots of a row, in index order. -/
def upperSlots (c : StartRecord) (row : Nat) : List Nat := (List.range (c.lowers - 1)).map (row * 16 + 8 + ·)
/-- The slots of a row in use, in slot-index order. -/
def rowSlots (c : StartRecord) (row : Nat) : List Nat := lowerSlots c row ++ upperSlots c row

/-- R4, R132: the two lower slots an upper slot rests on. -/
def supports (n : Nat) : Nat × Nat := (n - 8, n - 7)

/-- R4: the upper slots resting on a lower slot, in index order. -/
def uppersOn (c : StartRecord) (n : Nat) : List Nat :=
  (if slotIndex n = 0 then [] else [n + 7]) ++ (if slotIndex n + 2 ≤ c.lowers then [n + 8] else [])

/-- R6: X of a cradle. -/
def cradleX (c : StartRecord) (bay : Nat) (offset : Int) : Int := (bayPoint c bay).x + offset

/-- The offset of cradle i of a trailer. -/
def cradleOffset (t : Trailer) (i : Nat) : Int := t.offsets.getD (i - 1) 0

/-! ## Coverage (R7) -/

/-- R7: the coverage interval of a point. -/
def coverageOf (c : StartRecord) (x : Int) : Interval := ⟨x - reach c, x + reach c⟩

/-- One interval lies inside another, edges included. -/
def inside (i j : Interval) : Bool := j.low ≤ i.low && i.high ≤ j.high

/-- R59: two intervals overlap; touching at an edge does not, and an empty interval overlaps nothing. -/
def overlaps (i j : Interval) : Bool :=
  i.low < j.high && j.low < i.high && i.low < i.high && j.low < j.high

/-- R7: the own confirmed claim covers an interval. -/
def coversInterval (s : State) (i : Interval) : Bool := s.claim.confirmed.any fun k => inside i k

/-- R7: the own confirmed claim covers the point at x. -/
def covers (s : State) (x : Int) : Bool := coversInterval s (coverageOf s.conf x)

/-- R7: a row is covered. -/
def rowCovered (s : State) (row : Nat) : Bool := covers s (rowX s.conf row)

/-- R7: the coverage interval of a bay: of its front while EMPTY, of its cradles while a trailer is docked. -/
def bayCoverage (s : State) (bay : Nat) : Interval :=
  let c := s.conf
  match (s.bay bay).state, (s.bay bay).load with
  | .empty, _ => coverageOf c (bayPoint c bay).x
  | _, none => coverageOf c (bayPoint c bay).x
  | _, some l =>
    ⟨cradleX c bay (l.trailer.offsets.head?.getD 0) - reach c,
      cradleX c bay (l.trailer.offsets.getLast?.getD 0) + reach c⟩

/-- R7: a bay is covered. -/
def bayCovered (s : State) (bay : Nat) : Bool := coversInterval s (bayCoverage s bay)

/-! ## Places -/

/-- The point of a place, with the trailer geometry as the Bay Table holds it; the hook and a cradle of a bay without
a trailer have none (R4, R6, R84). -/
def placePoint (s : State) : Place → Option Point
  | .slot n => some (slotPoint s.conf n)
  | .intake i => some (intakePoint s.conf i)
  | .cradle b i =>
    (s.bay b).load.map fun l => ⟨cradleX s.conf b (cradleOffset l.trailer i), (bayPoint s.conf b).y⟩
  | .hook => none

/-- R158: the crane is at a place. -/
def craneAt (s : State) (p : Place) : Bool :=
  match placePoint s p, s.position .bridge, s.position .trolley with
  | some q, some x, some y =>
    magnitude (x - q.x) ≤ s.conf.liftWindow && magnitude (y - q.y) ≤ s.conf.liftWindow
  | _, _, _ => false

/-- R84: what a Go To resolves its place to, or the status that refuses it. DESIGN CHOICE (notes/assumptions/35.md): a
cradle of an EMPTY bay is refused with STATE whatever its number, and the hook, which R84 does not name, with RANGE. -/
def resolvePlace (s : State) (p : Place) : Except Status Point :=
  let c := s.conf
  match p with
  | .slot n => if slotInUse c n then .ok (slotPoint c n) else .error .range
  | .intake i => if i < c.intakeCount then .ok (intakePoint c i) else .error .range
  | .cradle b i =>
    if c.bayCount ≤ b then .error .range
    else match (s.bay b).load with
      | none => .error .state
      | some l =>
        if 1 ≤ i && i ≤ l.trailer.count then
          .ok ⟨cradleX c b (cradleOffset l.trailer i), (bayPoint c b).y⟩
        else .error .range
  | .hook => .error .range

/-! ## The polarities (R9) -/

/-- R9: the place of an axis input's flag among the ten polarities: slowdown first, end limit second. -/
def polarityIndex (endLimit : Bool) (a : Axis) (d : Side) : Nat :=
  (if endLimit then 4 else 0) + (match a with | .bridge => 0 | .trolley => 2) + (match d with | .low => 0 | .high => 1)

/-- R9: a level is the active one of the input whose polarity flag is `n`. -/
def activeLevel (c : StartRecord) (n : Nat) (level : Bool) : Bool := level == c.polarities.getLsbD n

/-- The electrical level of a slowdown input. -/
def slowLevel (i : Inputs) (a : Axis) : Side → Bool
  | .low => (i.axis a).slowLow
  | .high => (i.axis a).slowHigh

/-- The electrical level of an end-limit input. -/
def limitLevel (i : Inputs) (a : Axis) : Side → Bool
  | .low => (i.axis a).limitLow
  | .high => (i.axis a).limitHigh

/-- R90: the slowdown input of a side is at its active level. -/
def slowActive (s : State) (a : Axis) (d : Side) : Bool :=
  activeLevel s.conf (polarityIndex false a d) (slowLevel s.inputs a d)

/-- R99: the end-limit input of a side is at its active level. -/
def limitActive (c : StartRecord) (i : Inputs) (a : Axis) (d : Side) : Bool :=
  activeLevel c (polarityIndex true a d) (limitLevel i a d)

/-! ## The start record's checks (R9, R10) -/

/-- x lies in a..b. -/
def within (x a b : Int) : Bool := a ≤ x && x ≤ b

/-- R9: the range tests of an axis's fields, numbered from `first` (7 for the bridge, 19 for the trolley). -/
def axisRanges (first : Nat) (top : Int) (p : AxisParams) : List (Nat × Bool) :=
  [(first, within p.maxSpeed 100 top), (first + 1, within p.creepSpeed 20 200), (first + 2, within p.accel 1 40),
    (first + 3, within p.decel 1 40), (first + 4, within p.decelLoaded 1 40), (first + 5, within p.emergency 1 40),
    (first + 6, within p.creepLength 50 3000), (first + 7, within p.creepStop 5 100),
    (first + 8, within p.window 2 100), (first + 9, within p.settleTime 50 1000),
    (first + 10, within p.following 20 2000)]

/-- R9: a landing point's two ranges. -/
def pointRange (p : Point) : Bool := within p.x 0 500000 && within p.y 0 45000

/-- R9: every field's range test, in order of field number. -/
def rangeTests (c : StartRecord) : List (Nat × Bool) :=
  [(1, within c.ownRank 1 8), (2, within c.craneCount 1 8), (3, within c.runway 10000 500000),
    (4, within c.halfLength 2000 15000), (5, within c.margin 100 2000), (6, within c.restMargin 0 5000)]
  ++ axisRanges 7 3000 c.bridge ++ [(18, within c.span 4000 45000)] ++ axisRanges 19 1200 c.trolley
  ++ [(30, within c.brakeSettle 100 2000), (31, within c.parkDelay 1 120), (32, within c.waitTimeout 1 120),
    (33, within c.releaseDelay 0 30), (35, within c.hoistTop 5000 25000), (36, within c.clearHeight 1000 20000),
    (37, within c.rowBase 0 500000), (38, within c.rowPitch 2000 6000), (39, within c.rows 1 64),
    (40, within c.lateralBase 0 45000), (41, within c.lateralPitch 1000 6000), (42, within c.lowers 2 8),
    (43, c.saddle.length == 8 && c.saddle.all (· ≤ 7)), (44, within c.intakeCount 0 2),
    (45, c.intakeCount < 1 || pointRange c.intake0), (46, c.intakeCount < 2 || pointRange c.intake1),
    (47, within c.bayCount 0 4), (48, c.bayCount < 1 || pointRange c.bay0), (49, c.bayCount < 2 || pointRange c.bay1),
    (50, c.bayCount < 3 || pointRange c.bay2), (51, c.bayCount < 4 || pointRange c.bay3),
    (52, within c.zeroCount (-8388608) 8388607), (53, within c.scale 1 65535), (54, within c.pick 300 5000),
    (55, within c.releaseLevel 50 (c.pick - 100)), (56, within c.band 10 500), (57, within c.settleCount 5 50),
    (58, within c.swl 5000 60000), (59, within c.tolPerMille 5 50), (60, within c.tolMin 50 500),
    (61, within c.liftWindow 10 200), (62, within c.reportInterval 20 200 && c.reportInterval % 10 == 0),
    (63, within c.silenceCount 3 10), (64, within c.hostTimeout 100 5000)]

/-- R10: the step order of an axis. -/
def stepsOrdered (p : AxisParams) : Bool := p.decelLoaded ≤ p.decel && p.decel ≤ p.emergency

/-- R10 check 6: the creep length holds the stop from creep speed. -/
def creepFits (p : AxisParams) : Bool :=
  stopDistance p.creepSpeed p.decelLoaded + ceilDiv p.creepSpeed 100 + p.creepStop ≤ p.creepLength

/-- x lies in the bridge travel range. -/
def inBridgeRange (c : StartRecord) (x : Int) : Bool := within x (bridgeMin c) (bridgeMax c)

/-- R10: a landing point lies in both travel ranges. -/
def pointReachable (c : StartRecord) (p : Point) : Bool := inBridgeRange c p.x && p.y ≤ c.span

/-- R10: the cross-checks in order, each with the field it names. -/
def crossTests (c : StartRecord) : List (Nat × Bool) :=
  [(1, c.ownRank ≤ c.craneCount), (10, stepsOrdered c.bridge), (22, stepsOrdered c.trolley),
    (8, c.bridge.creepSpeed < c.bridge.maxSpeed), (20, c.trolley.creepSpeed < c.trolley.maxSpeed),
    (13, creepFits c.bridge), (25, creepFits c.trolley), (3, bridgeMin c ≤ bridgeMax c),
    (36, c.clearHeight < c.hoistTop), (37, (List.range c.rows).all fun r => inBridgeRange c (rowX c r)),
    (41, c.lateralBase + (c.lowers - 1 : Nat) * c.lateralPitch ≤ c.span),
    (45, c.intakeCount < 1 || pointReachable c c.intake0), (46, c.intakeCount < 2 || pointReachable c c.intake1),
    (48, c.bayCount < 1 || pointReachable c c.bay0), (49, c.bayCount < 2 || pointReachable c c.bay1),
    (50, c.bayCount < 3 || pointReachable c c.bay2), (51, c.bayCount < 4 || pointReachable c c.bay3)]

/-- The number of the first test that fails. -/
def firstFailure (tests : List (Nat × Bool)) : Option Nat := (tests.find? fun t => !t.2).map (·.1)

/-- R8: the number a refusal of the start record names, or none when the record is accepted. -/
def startRecordFailure (c : StartRecord) : Option Nat :=
  match firstFailure (rangeTests c) with
  | some n => some n
  | none => firstFailure (crossTests c)

end Sys2Proof.Machine
end

