-- ==== Sys2Proof/Machine/Store.lean ====
section
/-! DEFINITION. The Store Map (Chapter 8): slot and row records, marking, the checks and operations the Task Engine
asks for, the outbox, row queries and answers, and the handling of a peer's Store Notice. -/

namespace Sys2Proof.Machine

/-! ## Slot and row records -/

/-- R130: the record of a slot. -/
def slotAt (s : State) (n : Nat) : SlotRecord := tableGet .unknown s.store.slots n

/-- The state with a slot record replaced. -/
def putSlot (s : State) (n : Nat) (r : SlotRecord) : State :=
  { s with store := { s.store with slots := tablePut .unknown s.store.slots n r } }

/-- R131: the record of a row. -/
def rowAt (s : State) (row : Nat) : RowRecord := tableGet .reset s.store.rows row

/-- The state with a row record replaced. -/
def putRow (s : State) (row : Nat) (r : RowRecord) : State :=
  { s with store := { s.store with rows := tablePut .reset s.store.rows row r } }

/-- R130: the slot is reserved by an open task of this node. -/
def SlotRecord.reserved : SlotRecord → Bool
  | .reservedOut .. | .reservedIn .. => true
  | _ => false

/-- R132: a coil lies in the slot. -/
def SlotRecord.holdsCoil : SlotRecord → Bool
  | .occupied .. | .reservedOut .. => true
  | _ => false

/-- The coil that lies in a slot (R130, R132). -/
def SlotRecord.coilIn : SlotRecord → Option Nat
  | .occupied c _ _ => some c
  | .reservedOut c _ _ _ => some c
  | _ => none

/-- R131: the slot is held: reserved, or a lower slot supporting an upper slot so reserved. -/
def heldSlot (s : State) (n : Nat) : Bool :=
  (slotAt s n).reserved || (!isUpper n && (uppersOn s.conf n).any fun u => (slotAt s u).reserved)

/-- A query scan falls due at the end of the handling under way (R143). -/
def scanLater (s : State) : State := { s with scanDue := true }

/-- R131, R144: after a change to a slot, the row becomes KNOWN when none of its slots in use is UNKNOWN; its spent flag
is then cleared and an open query for it ends answered. -/
def settleRow (s : State) (row : Nat) : State :=
  if (rowSlots s.conf row).all fun n => slotAt s n != .unknown then
    let s := putRow s row ⟨true, false⟩
    if s.store.query.any (·.row == row) then scanLater { s with store := { s.store with query := none } } else s
  else s

/-- Replaces a slot record and re-judges its row. -/
def changeSlot (s : State) (n : Nat) (r : SlotRecord) : State := settleRow (putSlot s n r) (slotRow n)

/-- R131, R145: marks a row: its slots that are not held become UNKNOWN, the row becomes UNKNOWN with its spent flag
clear, and an answer plan for it is cancelled. -/
def markRow (s : State) (row : Nat) : State :=
  let slots := (rowSlots s.conf row).foldl
    (fun t n => if heldSlot s n then t else tablePut SlotRecord.unknown t n .unknown) s.store.slots
  let plan := if s.store.plan.any (·.row == row) then none else s.store.plan
  scanLater { putRow s row .reset with
    store := { (putRow s row .reset).store with slots := slots, plan := plan } }

/-- R150: raises STORE_SUSPECT. -/
def suspect (s : State) (cause : SuspectCause) (row : Option Nat) (count : Nat) (rank : Option Nat) : State :=
  raiseEvent s (.storeSuspect cause row count rank)

/-- Marks one row and raises STORE_SUSPECT with the cause. -/
def markSuspect (s : State) (row : Nat) (cause : SuspectCause) (rank : Option Nat) : State :=
  suspect (markRow s row) cause (some row) 1 rank

/-- The rows whose X lies inside an interval, edges included (R141). -/
def rowsInside (c : StartRecord) (i : Interval) : List Nat :=
  (List.range c.rows).filter fun r => within (rowX c r) i.low i.high

/-- R141: marks every row of a peer region and raises STORE_SUSPECT once. Its first row is the lowest-numbered
(DESIGN CHOICE, notes/assumptions/45.md), and absent where no row lies in the region (DESIGN CHOICE,
notes/assumptions/38.md). -/
def markRegion (s : State) (region : Interval) (rank : Nat) : State :=
  let rows := rowsInside s.conf region
  suspect (rows.foldl markRow s) .peerRegion rows.head? rows.length (some rank)

/-! ## Where a coil is recorded (R139) -/

/-- The first slot whose record answers `p`. -/
def findSlot (s : State) (p : Nat → SlotRecord → Bool) : Option Nat :=
  (s.store.slots.find? fun (n, r) => p n r).map (·.1)

/-- The coil named by a cradle. -/
def CradleRecord.coilOn : CradleRecord → Option Nat
  | .loaded c _ => c
  | _ => none

/-- The cradles of a bay record. -/
def BayRecord.cradles (b : BayRecord) : List CradleRecord := (b.load.map (·.cradles)).getD []

/-- A loaded cradle of the bay names the coil. -/
def bayHoldsCoil (s : State) (bay coil : Nat) : Bool := (s.bay bay).cradles.any fun k => k.coilOn == some coil

/-- A loaded cradle of the Bay Table names the coil. -/
def onTrailer (s : State) (coil : Nat) : Bool := [0, 1, 2, 3].any fun b => bayHoldsCoil s b coil

/-- The own hook coil record names the coil. -/
def onHook (s : State) (coil : Nat) : Bool := s.tasks.hookCoil.any (·.coil == coil)

/-- The coil lies in a RESERVED_OUT slot, or in an OCCUPIED slot that is held. -/
def inHeldSlot (s : State) (coil : Nat) : Bool :=
  (findSlot s fun n r => r.coilIn == some coil && heldSlot s n).isSome

/-- R139, R147, R185: the places that prevail over a peer's or a survey's word, the trailers apart. -/
def ownHolds (s : State) (coil : Nat) : Bool := onHook s coil || inHeldSlot s coil

/-- An OCCUPIED slot, not held, that records the coil, other than those `skip` names. -/
def looseSlotWith (s : State) (coil : Nat) (skip : Nat → Bool) : Option Nat :=
  findSlot s fun n r => r.coilIn == some coil && !r.reserved && !heldSlot s n && !skip n

/-! ## The outbox (R142) -/

/-- R33, R142: an entry joins the outbox, and a Store Notice is queued when none is. -/
def joinOutbox (s : State) (e : OutboxEntry) : State :=
  let s := { s with store := { s.store with outbox := s.store.outbox ++ [e] } }
  if queued s isStoreNotice then s else offer s .storeNotice

/-- The number of reserved slots. -/
def reservedSlots (s : State) : Nat := s.store.slots.countP fun (_, r) => r.reserved

/-- R136: the free room of the outbox. -/
def freeRoom (s : State) : Int := Config.outboxCapacity - s.store.outbox.length - reservedSlots s

/-- The weight a two-byte field carries; a weight outside 0..65,535 kg is sent as a free value. -/
def weightOnLine (w : Int) : Int := if within w 0 65535 then w else (Config.weightField w).toNat

/-- R142, section 2.4: a slot state as a Store Notice entry carries it. -/
def noticeEntry (n : Nat) : SlotState → NoticeEntry
  | .free => ⟨n, .free, 0, none, none⟩
  | .blocked => ⟨n, .blocked, 0, none, none⟩
  | .occupied c w k => ⟨n, .occupied, k, some c, w.map weightOnLine⟩

/-! ## The Task Engine's checks and operations (R133 to R136) -/

/-- R133: the worst-case weight of a coil of weight w. -/
def worstCase (c : StartRecord) (w : Int) : Int := w + max (ceilDiv (w * c.tolPerMille) 1000) c.tolMin

/-- R133: the stacking tests of an upper slot. -/
def stackingOk (s : State) (n : Nat) (cls : Nat) (weight : Option Int) : Bool :=
  match slotAt s (supports n).1, slotAt s (supports n).2, weight with
  | .occupied _ (some w1) k1, .occupied _ (some w2) k2, some w =>
    k1 ≤ k2 + 1 && k2 ≤ k1 + 1 && cls ≤ s.conf.saddle.getD (min k1 k2) 0 && worstCase s.conf w ≤ min w1 w2
  | _, _, _ => false

/-- R133: the status with which a slot is refused as a destination. -/
def destinationRefusal (s : State) (n : Nat) (cls : Nat) (weight : Option Int) : Option Status :=
  if !slotInUse s.conf n then some .range
  else if !(rowAt s (slotRow n)).known then some .state
  else if !rowCovered s (slotRow n) then some .zone
  else if slotAt s n != .free then some .state
  else if isUpper n && !stackingOk s n cls weight then some .stack
  else none

/-- A slot that is RESERVED_IN. -/
def SlotRecord.isReservedIn : SlotRecord → Bool
  | .reservedIn .. => true
  | _ => false

/-- A slot that is OCCUPIED. -/
def SlotRecord.isOccupied : SlotRecord → Bool
  | .occupied .. => true
  | _ => false

/-- R134: the status with which a slot is refused as a source for a task at the depth given. -/
def sourceRefusal (s : State) (n depth : Nat) : Option Status :=
  if !slotInUse s.conf n then some .range
  else if !((slotAt s n).isOccupied && (rowAt s (slotRow n)).known) then some .state
  else if !rowCovered s (slotRow n) then some .zone
  else if !isUpper n && (uppersOn s.conf n).any fun u => (slotAt s u).isReservedIn then some .stack
  else if !isUpper n && ((uppersOn s.conf n).any fun u => slotAt s u != .free) && depth != 1 then some .stack
  else none

/-- R135: reserve as source. -/
def reserveSource (s : State) (n owner : Nat) : State :=
  match slotAt s n with
  | .occupied c w k => changeSlot s n (.reservedOut c w k owner)
  | _ => s

/-- R135: reserve as destination. -/
def reserveDestination (s : State) (n coil : Nat) (weight : Option Int) (cls owner : Nat) : State :=
  changeSlot s n (.reservedIn coil weight cls owner)

/-- R135: settle source. -/
def settleSource (s : State) (n : Nat) : State := joinOutbox (changeSlot s n .free) ⟨n, .free⟩

/-- R135: settle destination, with the lift weight. -/
def settleDestination (s : State) (n coil cls : Nat) (weight : Int) : State :=
  joinOutbox (changeSlot s n (.occupied coil (some weight) cls)) ⟨n, .occupied coil (some weight) cls⟩

/-- R135: restore the prior record. -/
def restoreSlot (s : State) (n : Nat) (prior : SlotRecord) : State := changeSlot s n prior

/-! ## Queries and answers (section 8.5) -/

/-- R143: clears the spent flag of every row that is not covered. -/
def clearSpent (s : State) : State :=
  (List.range s.conf.rows).foldl
    (fun t r => if (rowAt t r).spent && !rowCovered t r then putRow t r { rowAt t r with spent := false } else t) s

/-- R143: the lowest-numbered row that is UNKNOWN, covered and not spent. -/
def rowToAsk (s : State) : Option Nat :=
  (List.range s.conf.rows).find? fun r => !(rowAt s r).known && rowCovered s r && !(rowAt s r).spent

/-- R143: a query scan. -/
def queryScan (s : State) : State :=
  let s := clearSpent s
  if s.store.query.isSome then s
  else match rowToAsk s with
    | none => s
    | some row =>
      let tag := s.store.counter
      offer { s with store := { s.store with
                counter := (tag + 1) % 256
                query := some ⟨row, tag, none⟩ } }
        (.slotQuery ⟨row, tag⟩)

/-- The end of a handling: a query scan that fell due in it is made (R131, R143). -/
def finish (s : State) : State := if s.scanDue then queryScan { s with scanDue := false } else s

/-- R146: how an answer gives a slot: a reserved one by its underlying state. -/
def underlying : SlotRecord → Option SlotState
  | .unknown => none
  | .free => some .free
  | .blocked => some .blocked
  | .occupied c w k => some (.occupied c w k)
  | .reservedOut c w k _ => some (.occupied c w k)
  | .reservedIn .. => some .free

/-- R146: the entries that describe a row, in slot-index order. -/
def answerEntries (s : State) (row : Nat) : List NoticeEntry :=
  (rowSlots s.conf row).filterMap fun n => (underlying (slotAt s n)).map (noticeEntry n)

/-- R146: cuts entries into notices of six, the last holding the rest. -/
def cutNotices : Nat → List NoticeEntry → List (List NoticeEntry)
  | 0, _ => []
  | _, [] => []
  | k + 1, es => es.take Config.noticeEntries :: cutNotices k (es.drop Config.noticeEntries)

/-- R34, R146: places the answers for a row, withdrawing every earlier answer first. -/
def placeAnswers (s : State) (row tag : Nat) : State :=
  let es := answerEntries s row
  (cutNotices es.length es).foldl (fun t part => offer t (.answer row tag part)) (withdraw s isAnswer)

/-- R145, R146: an answer of another node cancels the plan, and withdraws the queued answers, of its tag and row. -/
def suppressAnswers (s : State) (tag : Nat) (entries : List NoticeEntry) : State :=
  let names (row : Nat) : Bool := entries.any fun e => slotRow e.slot == row
  let s := if s.store.plan.any fun p => p.tag == tag && names p.row then
      { s with store := { s.store with plan := none } } else s
  withdraw s fun c => match c with
    | .answer row t _ => t == tag && names row
    | _ => false

/-- R143: an open query is closed without an event when the claim is lost. -/
def closeQuery (s : State) : State := { s with store := { s.store with query := none } }

/-! ## A peer's Store Notice (R137 to R140) -/

/-- R138: an answer's entry agrees with a held slot's underlying state. -/
def agrees (r : SlotRecord) (e : NoticeEntry) : Bool :=
  match r, e.state with
  | .reservedOut c _ _ _, .occupied => e.coil == some c
  | .occupied c _ _, .occupied => e.coil == some c
  | .reservedIn .., .free => true
  | _, _ => false

/-- R137 step 5: what a slot takes from an entry. -/
def entryRecord (e : NoticeEntry) : SlotRecord :=
  match e.state with
  | .free => .free
  | .blocked => .blocked
  | .occupied => .occupied (e.coil.getD 0) e.weight e.cls

/-- R137, R139: handles one entry; the list holds the rows in which an entry was applied. -/
def applyEntry (sender : Nat) (answer : Bool) (acc : State × List Nat) (e : NoticeEntry) : State × List Nat :=
  let s := acc.1
  let row := slotRow e.slot
  let mark (cause : SuspectCause) : State := markSuspect s row cause (some sender)
  if !slotInUse s.conf e.slot then acc
  else if e.state == .occupied && e.coil.getD 0 == 0 then (mark .badEntry, acc.2)
  else if heldSlot s e.slot then
    if answer && agrees (slotAt s e.slot) e then acc else (mark .heldSlot, acc.2)
  else
    let coil := e.coil.getD 0
    if e.state == .occupied && (ownHolds s coil || onTrailer s coil) then (mark .coilClash, acc.2)
    else
      let s := match e.state, looseSlotWith s coil (· == e.slot) with
        | .occupied, some other => markSuspect s (slotRow other) .coilClash (some sender)
        | _, _ => s
      (putSlot s e.slot (entryRecord e), if acc.2.contains row then acc.2 else acc.2 ++ [row])

/-- R140: an upper slot of the row holds a coil, or is reserved, without both supports holding one. -/
def stackBreak (s : State) (row : Nat) : Bool :=
  (upperSlots s.conf row).any fun u =>
    ((slotAt s u).isOccupied || (slotAt s u).reserved) &&
      !((slotAt s (supports u).1).holdsCoil && (slotAt s (supports u).2).holdsCoil)

/-- R140: checks a row in which an entry was applied. -/
def checkRow (sender : Nat) (s : State) (row : Nat) : State :=
  if stackBreak s row then markSuspect s row .stackBreak (some sender) else settleRow s row

/-- R137: a peer's Store Notice, notice or answer. DESIGN CHOICE (notes/assumptions/42.md): the rows are checked in the order
in which an entry was first applied to them. -/
def applyNotice (s : State) (sender : Nat) (f : StoreNoticeFrame) : State :=
  let s := match f.answer with
    | some tag => suppressAnswers s tag f.entries
    | none => s
  let (s, touched) := f.entries.foldl (applyEntry sender f.answer.isSome) (s, [])
  touched.foldl (checkRow sender) s

/-! ## Surveys and blocking (section 8.6) -/

/-- The coil of a survey entry. -/
def surveyCoil : SlotState → Option Nat
  | .occupied c _ _ => some c
  | _ => none

/-- R147 check 5: an entry's own fields; a coil number from 1 upward, and a class of R130 (notes/assumptions/16.md). -/
def surveyEntryOk : SlotState → Bool
  | .occupied c _ k => 1 ≤ c && k ≤ 7
  | _ => true

/-- R147 check 6: every upper entry that is OCCUPIED has both its supports OCCUPIED in the survey. -/
def surveyStacks (lowers : Nat) (es : List SlotState) : Bool :=
  (List.range (lowers - 1)).all fun j =>
    (surveyCoil (es.getD (lowers + j) .free)).isNone ||
      ((surveyCoil (es.getD j .free)).isSome && (surveyCoil (es.getD (j + 1) .free)).isSome)

/-- R147: the status with which a survey is refused. -/
def surveyRefusal (s : State) (q : SurveyRequest) : Option Status :=
  let c := s.conf
  let coils := q.slots.filterMap surveyCoil
  if s.node != .active then some .state
  else if c.rows ≤ q.row then some .range
  else if !rowCovered s q.row then some .zone
  else if (rowSlots c q.row).any (heldSlot s) then some .state
  else if !(q.slots.length == 2 * c.lowers - 1 && q.slots.all surveyEntryOk && decide coils.Nodup) then some .range
  else if !surveyStacks c.lowers q.slots then some .stack
  else if coils.any fun k => ownHolds s k || onTrailer s k then some .state
  else if freeRoom s < 2 * c.lowers - 1 then some .full
  else none

/-- The slot record a survey entry gives. -/
def surveyRecord : SlotState → SlotRecord
  | .free => .free
  | .blocked => .blocked
  | .occupied c w k => .occupied c w k

/-- R148: marks the other rows whose OCCUPIED slots record a coil of the survey, and lists them, newest first. -/
def clearClashes (row : Nat) (acc : State × List Nat) (coil : Nat) : State × List Nat :=
  match looseSlotWith acc.1 coil (fun n => slotRow n == row) with
  | some n => (markRow acc.1 (slotRow n), slotRow n :: acc.2)
  | none => acc

/-- R148: the order in which a survey's entries join the outbox. -/
def surveyOrder (lowers : Nat) (es : List (Nat × SlotState)) : List (Nat × SlotState) :=
  ((es.drop lowers).filter fun e => (surveyCoil e.2).isNone) ++ es.take lowers
    ++ ((es.drop lowers).filter fun e => (surveyCoil e.2).isSome)

/-- R148: an accepted survey. The rows of its coils are marked in the order of the survey's entries, and STORE_SUSPECT names
the first of them (DESIGN CHOICE, notes/assumptions/45.md). -/
def applySurvey (s : State) (q : SurveyRequest) : State :=
  let c := s.conf
  let es := (rowSlots c q.row).zip q.slots
  let (s, marked) := (q.slots.filterMap surveyCoil).foldl (clearClashes q.row) (s, [])
  let s := if marked.isEmpty then s
    else suspect s .coilClash marked.getLast? marked.length none
  let s := settleRow (es.foldl (fun t e => putSlot t e.1 (surveyRecord e.2)) s) q.row
  (surveyOrder c.lowers es).foldl (fun t e => joinOutbox t ⟨e.1, e.2⟩) s

/-- R149: the status with which a Block Slot (`want` FREE) or an Unblock Slot (`want` BLOCKED) is refused. -/
def blockRefusal (s : State) (n : Nat) (want : SlotRecord) : Option Status :=
  if s.node != .active then some .state
  else if !slotInUse s.conf n then some .range
  else if !rowCovered s (slotRow n) then some .zone
  else if slotAt s n != want then some .state
  else if freeRoom s < 1 then some .full
  else none

end Sys2Proof.Machine
end

