-- ==== Sys2Proof/Machine/Bays.lean ====
section
/-! DEFINITION. The Bay Table (Chapter 10): docking, closing and undocking, trailer loads, the cradle check and the
operations the Task Engine asks for, Bay Notices, and the hand-overs of R186. -/

namespace Sys2Proof.Machine

/-! ## Bay records -/

/-- The cradle is LOADED, named or not. -/
def CradleRecord.isLoaded : CradleRecord → Bool
  | .loaded .. => true
  | _ => false

/-- The cradle is RESERVED. -/
def CradleRecord.isReserved : CradleRecord → Bool
  | .reserved _ => true
  | _ => false

/-- The cradle is RESERVED by an own task. -/
def CradleRecord.isOwn : CradleRecord → Bool
  | .reserved (.own ..) => true
  | _ => false

/-- The cradle is RESERVED by FOREIGN. -/
def CradleRecord.isForeign : CradleRecord → Bool
  | .reserved .foreign => true
  | _ => false

/-- R174: the loaded count. -/
def loadedCount (b : BayRecord) : Nat := b.cradles.countP CradleRecord.isLoaded

/-- R174: the reserved count. -/
def reservedCount (b : BayRecord) : Nat := b.cradles.countP CradleRecord.isReserved

/-- R174: the bay is held. -/
def heldBay (b : BayRecord) : Bool := b.cradles.any CradleRecord.isOwn

/-- The record of cradle i. -/
def cradleAt (b : BayRecord) (i : Nat) : CradleRecord := b.cradles.getD (i - 1) .empty

/-- The bay record with cradle i replaced. -/
def putCradle (b : BayRecord) (i : Nat) (r : CradleRecord) : BayRecord :=
  { b with load := b.load.map fun l => { l with cradles := l.cradles.set (i - 1) r } }

/-- R35: a change of a bay's record queues or renews its Bay Notice. -/
def bayChanged (s : State) (bay : Nat) : State := offer s (.bayNotice bay)

/-- R176 to R182: the node changes a bay record itself: the announcer is OWN and a Bay Notice is queued. -/
def ownBayChange (s : State) (bay : Nat) (r : BayRecord) : State :=
  bayChanged (s.withBay bay { r with announcer := some .own }) bay

/-! ## Trailer loads (R179) -/

/-- R179: the loads of weights standing at offsets of a trailer. -/
def trailerLoads (t : Trailer) (weights : List (Int × Int)) : Loads :=
  let payload := (weights.map (·.2)).sum
  let axle := ceilDiv (weights.map fun w => w.2 * (w.1 - t.kingpin)).sum t.axle
  ⟨axle, payload - axle, payload⟩

/-- R179: the weights of the loaded cradles, each with its offset. -/
def committedWeights (l : BayLoad) : List (Int × Int) :=
  (l.trailer.offsets.zip l.cradles).filterMap fun (o, k) => match k with
    | .loaded _ w => some (o, w)
    | _ => none

/-- R179: the worst-case weights of the cradles reserved by own tasks. -/
def reservedWeights (c : StartRecord) (l : BayLoad) : List (Int × Int) :=
  (l.trailer.offsets.zip l.cradles).filterMap fun (o, k) => match k with
    | .reserved (.own _ _ w) => some (o, worstCase c w)
    | _ => none

/-- R179: the committed loads. -/
def committedLoads (l : BayLoad) : Loads := trailerLoads l.trailer (committedWeights l)

/-- R179: the prospective loads, with a placement of a known weight at an offset when one is checked. -/
def prospectiveLoads (c : StartRecord) (l : BayLoad) (placement : Option (Int × Int)) : Loads :=
  trailerLoads l.trailer
    (committedWeights l ++ reservedWeights c l ++ (placement.map fun p => (p.1, worstCase c p.2)).toList)

/-- R180 step 9: the first load above its limit, in the order axle, kingpin, payload. -/
def overloadOf (t : Trailer) (l : Loads) : Option Result :=
  if t.axleLimit < l.axle then some (.overload .axle l.axle t.axleLimit)
  else if t.kingpinLimit < l.kingpin then some (.overload .kingpin l.kingpin t.kingpinLimit)
  else if t.payloadLimit < l.payload then some (.overload .payload l.payload t.payloadLimit)
  else none

/-- R180: the status, and what it names, with which a cradle is refused. -/
def cradleRefusal (s : State) (bay i : Nat) (weight : Option Int) : Option (Status × Result) :=
  let b := s.bay bay
  match b.load with
  | none => some (.state, .none)
  | some l =>
    if b.state = .empty then some (.state, .none)
    else if !(1 ≤ i && i ≤ l.trailer.count) then some (.range, .none)
    else if !bayCovered s bay then some (.zone, .none)
    else if b.unsure || b.state = .closed then some (.state, .none)
    else if cradleAt b i != .empty then some (.state, .none)
    else if b.cradles.any CradleRecord.isForeign then some (.state, .none)
    else if l.trailer.planned ≤ loadedCount b + reservedCount b then some (.state, .none)
    else match weight with
      | none => some (.weight, .none)
      | some w =>
        (overloadOf l.trailer (prospectiveLoads s.conf l (some (cradleOffset l.trailer i, w)))).map (Status.axle, ·)

/-! ## The Task Engine's operations (R181, R182) -/

/-- R181: reserves a cradle for an own task. -/
def reserveCradle (s : State) (bay i task coil : Nat) (weight : Int) : State :=
  let b := putCradle (s.bay bay) i (.reserved (.own task coil weight))
  ownBayChange s bay { b with state := if b.state = .docked then .loading else b.state }

/-- R181: restores a cradle to EMPTY. -/
def restoreCradle (s : State) (bay i : Nat) : State := ownBayChange s bay (putCradle (s.bay bay) i .empty)

/-- R182: settles a cradle with the lift weight, closing the bay when its plan is met. -/
def settleCradle (s : State) (bay i coil : Nat) (weight : Int) : State :=
  let b := putCradle (s.bay bay) i (.loaded (some coil) weight)
  match b.load with
  | none => s
  | some l =>
    let l := { l with remaining := l.remaining - 1 }
    let full := l.remaining == 0
    let s := ownBayChange s bay { b with load := some l, state := if full then .closed else b.state }
    if full then
      let k := committedLoads l
      raiseEvent s (.bayComplete bay (loadedCount b) k.axle k.kingpin k.payload)
    else s

/-! ## Docking, closing, undocking (section 10.2) -/

/-- The list strictly increases. -/
def increasing : List Int → Bool
  | a :: b :: t => a < b && increasing (b :: t)
  | _ => true

/-- R174: the trailer geometry lies in its ranges. -/
def trailerOk (t : Trailer) : Bool :=
  within t.kingpin 0 20000 && within t.axle 3000 12000 && within t.count 1 6 && t.offsets.length == t.count
    && increasing t.offsets && t.offsets.all (fun o => within o t.kingpin (t.kingpin + t.axle))
    && within t.axleLimit 1000 65535 && within t.kingpinLimit 1000 65535 && within t.payloadLimit 1000 65535
    && within t.planned 1 t.count

/-- R175: the status with which a Dock Truck is refused. -/
def dockRefusal (s : State) (q : DockRequest) : Option Status :=
  let c := s.conf
  let b := s.bay q.bay
  if s.node != .active then some .state
  else if c.bayCount ≤ q.bay then some .range
  else if b.state != .empty || b.unsure then some .state
  else if !bayCovered s q.bay then some .zone
  else if !(trailerOk q.trailer && q.trailer.offsets.all fun o => inBridgeRange c (cradleX c q.bay o)) then some .range
  else none

/-- R176: an accepted Dock Truck. -/
def dock (s : State) (q : DockRequest) : State :=
  ownBayChange s q.bay
    { s.bay q.bay with
      state := .docked
      load := some ⟨q.trailer, q.trailer.planned, List.replicate q.trailer.count .empty⟩ }

/-- R177: the status with which a Close Bay is refused. -/
def closeRefusal (s : State) (bay : Nat) : Option Status :=
  let b := s.bay bay
  if s.node != .active then some .state
  else if s.conf.bayCount ≤ bay then some .range
  else if !(b.state = .docked || b.state = .loading) || b.unsure then some .state
  else if !bayCovered s bay then some .zone
  else if reservedCount b != 0 then some .state
  else none

/-- R177: an accepted Close Bay. -/
def closeTheBay (s : State) (bay : Nat) : State := ownBayChange s bay { s.bay bay with state := .closed }

/-- R178: the status with which an Undock is refused. -/
def undockRefusal (s : State) (bay : Nat) : Option Status :=
  if s.node != .active then some .state
  else if s.conf.bayCount ≤ bay then some .range
  else if !bayCovered s bay then some .zone
  else if reservedCount (s.bay bay) != 0 then some .state
  else none

/-- R178: an accepted Undock. -/
def undockTheBay (s : State) (bay : Nat) : State :=
  if (s.bay bay).state = .empty && !(s.bay bay).unsure then s
  else ownBayChange s bay { s.bay bay with state := .empty, load := none, unsure := false }

/-! ## Bay Notices (section 10.5) -/

/-- R183: a cradle as a Bay Notice sends it. -/
def noticeCradle : CradleRecord → NoticeCradle
  | .empty => .empty
  | .reserved _ => .reserved
  | .loaded (some c) w => .loaded c (weightOnLine w)
  | .loaded none w => .unnamed (weightOnLine w)

/-- R183: the Bay Notice of a bay as its record stands. -/
def bayNoticeOf (s : State) (bay : Nat) : BayNoticeFrame :=
  let b := s.bay bay
  match b.state, b.load with
  | .empty, _ | _, none => ⟨bay, .empty, 0, none⟩
  | st, some l => ⟨bay, st, l.remaining.toNat, some ⟨l.trailer, l.cradles.map noticeCradle⟩⟩

/-- R184: a cradle record taken from a notice. -/
def takenCradle : NoticeCradle → CradleRecord
  | .empty => .empty
  | .reserved => .reserved .foreign
  | .loaded c w => .loaded (some c) w
  | .unnamed w => .loaded none w

/-- The coil of a notice's cradle. -/
def noticeCoil : NoticeCradle → Option Nat
  | .loaded c _ => some c
  | _ => none

/-- R184: the tests of a notice as a whole, the held bay apart. The remaining count of an EMPTY notice is not tested
(DESIGN CHOICE, notes/assumptions/46.md). -/
def bayNoticeOk (c : StartRecord) (f : BayNoticeFrame) : Bool :=
  f.bay < c.bayCount &&
  match f.state, f.load with
  | .empty, none => true
  | .empty, some _ => false
  | _, none => false
  | _, some l =>
    let ks := l.cradles.map takenCradle
    let loaded := ks.countP CradleRecord.isLoaded
    let coils := l.cradles.filterMap noticeCoil
    trailerOk l.trailer && l.cradles.length == l.trailer.count
      && f.remaining + loaded == l.trailer.planned
      && loaded + ks.countP CradleRecord.isReserved ≤ l.trailer.planned
      && coils.all (1 ≤ ·) && decide coils.Nodup

/-- Makes every cradle of a bay record that names the coil unnamed, its weight kept (R185). -/
def unnameIn (b : BayRecord) (coil : Nat) : BayRecord :=
  { b with load := b.load.map fun l => { l with cradles := l.cradles.map fun k =>
      match k with
      | .loaded (some c) w => if c = coil then .loaded none w else k
      | _ => k } }

/-- R185: makes the cradles of a bay that name the coil unnamed. -/
def unname (s : State) (coil bay : Nat) : State := s.withBay bay (unnameIn (s.bay bay) coil)

/-- R185: tests one named cradle's coil of an applied notice. -/
def nameCradle (sender bay : Nat) (s : State) (coil : Nat) : State :=
  if ownHolds s coil then unname s coil bay
  else match looseSlotWith s coil (fun _ => false) with
    | some n => markSuspect s (slotRow n) .coilClash (some sender)
    | none => ([0, 1, 2, 3].filter (· ≠ bay)).foldl (fun t b => if bayHoldsCoil t b coil then unname t coil b else t) s

/-- R184, R185: a peer's Bay Notice. -/
def applyBayNotice (s : State) (sender : Nat) (f : BayNoticeFrame) : State :=
  if !bayNoticeOk s.conf f then s
  else if heldBay (s.bay f.bay) then bayChanged s f.bay
  else
    let load := f.load.map fun l => ⟨l.trailer, f.remaining, l.cradles.map takenCradle⟩
    let s := s.withBay f.bay ⟨f.state, load, some (.peer sender), false⟩
    ((f.load.map fun l => l.cradles.filterMap noticeCoil).getD []).foldl (nameCradle sender f.bay) s

/-! ## Hand-overs (R186) -/

/-- R186: the unsure flags a peer region sets. -/
def unsureBays (s : State) (region : Interval) : State :=
  (List.range s.conf.bayCount).foldl
    (fun t b => if within (bayPoint t.conf b).x region.low region.high && !heldBay (t.bay b)
      then t.withBay b { t.bay b with unsure := true } else t) s

/-- R141, R186: the Peer Table hands over a peer region, when the rank has one. -/
def handRegion (s : State) (region : Option Interval) (rank : Nat) : State :=
  match region with
  | none => s
  | some i => unsureBays (markRegion s i rank) i

/-- A bay record with every cradle RESERVED by FOREIGN made EMPTY. -/
def withoutForeign (b : BayRecord) : BayRecord :=
  { b with load := b.load.map fun l => { l with cradles := l.cradles.map fun k =>
      if k.isForeign then .empty else k } }

/-- R186: at a Join from a rank, or its release, its FOREIGN reservations end. -/
def clearForeign (s : State) (rank : Nat) : State :=
  [0, 1, 2, 3].foldl
    (fun t b => if (t.bay b).announcer == some (.peer rank) then t.withBay b (withoutForeign (t.bay b)) else t) s

end Sys2Proof.Machine
end

