-- ==== Sys2Proof/Machine/Tasks.lean ====
section
/-! DEFINITION. The Task Engine (Chapter 9): the checks and acceptance of Begin Task, the settlement at a lift and at a
set-down, snag and load loss, and the unwinding of the nest. -/

namespace Sys2Proof.Machine

/-! ## Numbers and places -/

/-- The number after n: from 255 to 1 (R152). -/
def nextNumber (n : Nat) : Nat := if n < 255 then n + 1 else 1

/-- R152: the first number from n on that no task of the nest holds; at most three are passed over. -/
def freeNumber : Nat → List Task → Nat → Nat
  | 0, _, n => n
  | k + 1, nest, n => if nest.any (·.number == n) then freeNumber k nest (nextNumber n) else n

/-- R152, R173: the number the task counter will give next. DESIGN CHOICE (notes/assumptions/43.md): a number held by a task
of the nest is passed over when a number is given, not when the counter advances. -/
def numberToGive (t : Tasks) : Nat := freeNumber Config.nestCapacity t.nest t.counter

/-- R154 check 2: a source or destination lies in the ranges of its kind of place. -/
def placeInRange (c : StartRecord) : Place → Bool
  | .slot n => slotInUse c n
  | .intake i => i < c.intakeCount
  | .cradle b i => b < c.bayCount && (1 ≤ i && i ≤ 6)
  | .hook => true

/-- R151: the pair of places a kind allows. -/
def placesFit (kind : TaskKind) (source dest : Place) : Bool :=
  match kind, source, dest with
  | .store, .intake _, .slot _ => true
  | .shift, .slot _, .slot _ => true
  | .dispatch, .slot _, .cradle _ _ => true
  | .ret, .hook, .slot _ => true
  | .ret, .hook, .cradle _ _ => true
  | _, _, _ => false

/-- R154 check 2: the coil fields of a STORE lie in their ranges. -/
def storeCoilOk (q : BeginRequest) : Bool :=
  match q.kind, q.coil with
  | .store, some k => 1 ≤ k.coil && k.cls ≤ 7 && k.weight.all fun w => within w 1 65535
  | .store, none => false
  | _, _ => true

/-- R155: a coil is recorded anywhere in the node's tables. -/
def recordedAnywhere (s : State) (coil : Nat) : Bool :=
  onHook s coil || onTrailer s coil
    || (s.store.slots.any fun (_, r) => match r with
      | .occupied c _ _ | .reservedOut c _ _ _ | .reservedIn c _ _ _ => c == coil
      | _ => false)
    || ([0, 1, 2, 3].any fun b => (s.bay b).cradles.any fun k => match k with
      | .reserved (.own _ c _) => c == coil
      | _ => false)

/-- R151, R155: coil number, diameter class and known weight of the task a Begin asks for. -/
def taskCoil (s : State) (q : BeginRequest) : Nat × Nat × Option Int :=
  match q.kind, q.coil, q.source with
  | .store, some k, _ => (k.coil, k.cls, k.weight)
  | .ret, _, _ => match s.tasks.hookCoil with
    | some k => (k.coil, k.cls, some k.weight)
    | none => (0, 0, none)
  | _, _, .slot n => match slotAt s n with
    | .occupied c w k => (c, k, w)
    | _ => (0, 0, none)
  | _, _, _ => (0, 0, none)

/-- R156: how many slots the task would reserve. -/
def slotsToReserve (q : BeginRequest) : Int :=
  match q.kind, q.dest with
  | .shift, _ => 2
  | .store, _ | .dispatch, _ => 1
  | .ret, .slot _ => 1
  | .ret, _ => 0

/-- A status refuses and names nothing further. -/
def plainly (o : Option Status) : Option (Status × Result) := o.map (·, .none)

/-- R156 check 1: the source. -/
def sourceCheck (s : State) (q : BeginRequest) : Option (Status × Result) :=
  match q.source with
  | .slot n => plainly (sourceRefusal s n (s.tasks.nest.length + 1))
  | .intake i => if covers s (intakePoint s.conf i).x then none else some (.zone, .none)
  | _ => none

/-- R156 checks 2 and 3: the destination. -/
def destinationCheck (s : State) (q : BeginRequest) : Option (Status × Result) :=
  let k := taskCoil s q
  match q.dest with
  | .slot n => plainly (destinationRefusal s n k.2.1 k.2.2)
  | .cradle b i => cradleRefusal s b i k.2.2
  | _ => none

/-- R154 to R156: the status, and what it names, with which a Begin Task is refused. -/
def beginRefusal (s : State) (q : BeginRequest) : Option (Status × Result) :=
  let c := s.conf
  let t := s.tasks
  if s.node != .active then some (.state, .none)
  else if !(placesFit q.kind q.source q.dest && placeInRange c q.source && placeInRange c q.dest && storeCoilOk q) then
    some (.range, .none)
  else if t.loose then some (.state, .none)
  else if q.kind != .ret && t.hookCoil.isSome then some (.state, .none)
  else if q.kind == .ret && (t.hookCoil.isNone || !t.nest.isEmpty) then some (.state, .none)
  else if t.nest.getLast?.any (·.carrying) then some (.state, .none)
  else if Config.nestCapacity ≤ t.nest.length then some (.depth, .none)
  else if q.kind == .store && recordedAnywhere s (taskCoil s q).1 then some (.state, .none)
  else (sourceCheck s q).or
    ((if q.kind == .dispatch && (taskCoil s q).2.2.isNone then some (.weight, .none) else none).or
      ((destinationCheck s q).or
        (if freeRoom s < slotsToReserve q then some (.full, .none) else none)))

/-- R157 step 2: reserves a slot source and gives its journal entry. -/
def reserveTheSource (s : State) (q : BeginRequest) (number : Nat) : State × List JournalEntry :=
  match q.source with
  | .slot n => (reserveSource s n number, [.slot n (slotAt s n) false])
  | _ => (s, [])

/-- R157 step 3: reserves the destination and gives its journal entry. -/
def reserveTheDestination (s : State) (q : BeginRequest) (number : Nat) (k : Nat × Nat × Option Int) :
    State × List JournalEntry :=
  match q.dest with
  | .slot n => (reserveDestination s n k.1 k.2.2 k.2.1 number, [.slot n (slotAt s n) false])
  | .cradle b i => (reserveCradle s b i number k.1 (k.2.2.getD 0), [.cradle b i (cradleAt (s.bay b) i) false])
  | _ => (s, [])

/-- R157: an accepted Begin Task; the task joins the nest as its top. -/
def beginTheTask (s : State) (q : BeginRequest) : State :=
  let number := numberToGive s.tasks
  let k := taskCoil s q
  let (s1, j1) := reserveTheSource s q number
  let (s2, j2) := reserveTheDestination s1 q number k
  let task : Task :=
    { number := number, kind := q.kind, source := q.source, dest := q.dest, coil := k.1, cls := k.2.1
      expected := if q.kind = .ret then none else k.2.2
      carrying := q.kind == .ret, journal := j1 ++ j2 }
  { s2 with tasks := { s2.tasks with nest := s2.tasks.nest ++ [task], counter := nextNumber number } }

/-! ## Outcomes and unwinding (sections 9.6) -/

/-- R170: an entry joins the head of the outcome list. -/
def addOutcome (s : State) (o : TaskOutcome) : State :=
  { s with tasks := { s.tasks with outcomes := (o :: s.tasks.outcomes).take Config.outcomeCapacity } }

/-- R168 step 1: restores one unsettled journal entry: a slot to its prior record, a cradle to EMPTY (R181). -/
def restoreEntry (s : State) (e : JournalEntry) : State :=
  match e with
  | .slot n prior false => restoreSlot s n prior
  | .cradle b i _ false => restoreCradle s b i
  | _ => s

/-- R168: unwinds one task: its entries in reverse order, then its outcome. -/
def unwindTask (cause : AbortCause) (depth : Nat) (s : State) (t : Task) : State :=
  let s := t.journal.reverse.foldl restoreEntry s
  let s := addOutcome s ⟨t.number, t.kind, some (cause, depth)⟩
  { s with tasks := { s.tasks with nest := s.tasks.nest.dropLast } }

/-- R168: unwinds the whole nest, top first. -/
def unwind (s : State) (cause : AbortCause) (depth : Nat) : State :=
  s.tasks.nest.reverse.foldl (unwindTask cause depth) s

/-- R168: aborts the nest with a cause arising at a task and its depth; `hook` deals with the hook coil record, and
TASK_ABORTED is raised once. An empty nest is left alone. -/
def abortNest (s : State) (cause : AbortCause) (number depth : Nat) (extra : AbortDetail) (hook : State → State) :
    State :=
  let count := s.tasks.nest.length
  let s := hook (unwind s cause depth)
  raiseEvent s (.taskAborted cause number depth count s.tasks.hookCoil.isSome s.tasks.loose extra)

/-- The abort arises at the top task. -/
def abortAtTop (s : State) (cause : AbortCause) (extra : AbortDetail) (hook : State → State) : State :=
  match s.tasks.nest.getLast? with
  | none => s
  | some t => abortNest s cause t.number s.tasks.nest.length extra hook

/-- The hook coil record replaced. -/
def withHookCoil (s : State) (k : Option HookCoil) : State := { s with tasks := { s.tasks with hookCoil := k } }

/-- The loose-load flag replaced. -/
def withLoose (s : State) (b : Bool) : State := { s with tasks := { s.tasks with loose := b } }

/-- R153: the unplaced record is written with the position inputs as they stand. -/
def writeUnplaced (s : State) (way : UnplacedWay) (coil : Option Nat) (net : Option Int) : State :=
  { s with tasks := { s.tasks with
      unplaced := some ⟨way, coil, net, s.position .bridge, s.position .trolley⟩ } }

/-- Replaces the top task of the nest. -/
def putTop (s : State) (t : Task) : State :=
  { s with tasks := { s.tasks with nest := s.tasks.nest.dropLast ++ [t] } }

/-! ## The lift (section 9.3) -/

/-- R159 check 2: the first upper slot on a lower source that is not FREE. -/
def coveringSlot (s : State) (source : Place) : Option Nat :=
  match source with
  | .slot n => if isUpper n then none else (uppersOn s.conf n).find? fun u => slotAt s u != .free
  | _ => none

/-- R159 check 3: the allowed difference from an expected weight. -/
def weightTolerance (c : StartRecord) (e : Int) : Int := max (ceilDiv (e * c.tolPerMille) 1000) c.tolMin

/-- Marks the first journal entry settled. -/
def settleFirst : List JournalEntry → List JournalEntry
  | .slot n p _ :: t => .slot n p true :: t
  | j => j

/-- R160 step 3: the coil is recorded elsewhere, and the own hook prevails. -/
def liftClash (s : State) (coil : Nat) (source : Place) : State :=
  let skip (n : Nat) : Bool := source == .slot n
  let s := match findSlot s fun n r => r.isOccupied && r.coilIn == some coil && !skip n with
    | some n => markSuspect s (slotRow n) .coilClash none
    | none => s
  [0, 1, 2, 3].foldl (fun t b => if bayHoldsCoil t b coil then unname t coil b else t) s

/-- R160: settles the lift of the top task. -/
def settleLift (s : State) (t : Task) (net : Int) : State :=
  let s := match t.source with
    | .slot n => settleSource s n
    | _ => s
  let journal := match t.source with
    | .slot _ => settleFirst t.journal
    | _ => t.journal
  let s := withHookCoil s (some ⟨t.coil, net, t.cls⟩)
  let s := liftClash s t.coil t.source
  putTop s { t with carrying := true, journal := journal }

/-- R158 to R161: a LIFT from the Hook Weigher. -/
def taskLift (s : State) (net : Int) : State :=
  match s.tasks.nest.getLast? with
  | none => withLoose s true
  | some t =>
    if t.carrying then s
    else if !craneAt s t.source then
      abortAtTop s .place (.place false (s.position .bridge) (s.position .trolley)) fun u => withLoose u true
    else match coveringSlot s t.source with
      | some u => abortAtTop s .covered (.covered u) fun v => withLoose v true
      | none =>
        match t.expected with
        | none => settleLift s t net
        | some e =>
          if magnitude (net - e) ≤ weightTolerance s.conf e then settleLift s t net
          else abortAtTop s .weight (.weight net e) fun v => withLoose v true

/-! ## The set-down (section 9.4) -/

/-- R162: the top task commits. -/
def commitTask (s : State) (t : Task) : State :=
  let weight := (s.tasks.hookCoil.map (·.weight)).getD 0
  let depth := s.tasks.nest.length
  let s := match t.dest with
    | .slot n => settleDestination s n t.coil t.cls weight
    | .cradle b i => settleCradle s b i t.coil weight
    | _ => s
  let s := addOutcome (withHookCoil s none) ⟨t.number, t.kind, none⟩
  let s := raiseEvent s (.taskDone t.number t.kind depth t.coil t.dest weight)
  { s with tasks := { s.tasks with nest := s.tasks.nest.dropLast } }

/-- R164: a SET with the nest empty ends the load on the hook. -/
def setWithoutTask (s : State) (net : Int) : State :=
  match s.tasks.hookCoil with
  | some k => writeUnplaced (withHookCoil s none) .set (some k.coil) (some net)
  | none => if s.tasks.loose then writeUnplaced (withLoose s false) .set none (some net) else s

/-- R162 to R164: a SET from the Hook Weigher. -/
def taskSet (s : State) (net : Int) : State :=
  match s.tasks.nest.getLast? with
  | none => setWithoutTask s net
  | some t =>
    if !t.carrying then s
    else if craneAt s t.dest then commitTask s t
    else
      abortAtTop s .place (.place true (s.position .bridge) (s.position .trolley)) fun u =>
        withLoose (writeUnplaced (withHookCoil u none) .set (some t.coil) (some net)) false

/-! ## Snag, load loss and the host's abort -/

/-- R165: a SNAG from the Hook Weigher. -/
def taskSnag (s : State) : State := abortAtTop s .snag .none id

/-- R166: the hook records after a load loss. -/
def dropLoad (s : State) : State :=
  match s.tasks.hookCoil, s.tasks.loose with
  | some k, _ => writeUnplaced (withLoose (withHookCoil s none) false) .loadLost (some k.coil) none
  | none, true => writeUnplaced (withLoose s false) .loadLost none none
  | none, false => s

/-- R166: a LOAD_LOST from the Hook Weigher. -/
def taskLoadLost (s : State) : State :=
  if s.tasks.nest.isEmpty then dropLoad s else abortAtTop s .loadLost .none dropLoad

/-- R172: entry to VOIDED aborts the nest with cause VOIDED. -/
def taskVoided (s : State) : State := abortAtTop s .voided .none id

/-- R167: the depth of the task that holds a number. -/
def depthOf (nest : List Task) (number : Nat) : Option Nat :=
  (nest.findIdx? (·.number == number)).map (· + 1)

/-! ## The places a shrink keeps (R74, R157) -/

/-- R157: the coverage intervals of the rows and bays named by the unsettled journal entries of the nest. -/
def reservedCoverage (s : State) : List Interval :=
  (s.tasks.nest.flatMap (·.journal)).filterMap fun e => match e with
    | .slot n _ false => some (coverageOf s.conf (rowX s.conf (slotRow n)))
    | .cradle b _ _ false => some (bayCoverage s b)
    | _ => none

end Sys2Proof.Machine
end

