-- ==== Sys2Proof/Machine/Claims.lean ====
section
/-! DEFINITION. The Claim Controller's own claim (Chapter 4): the braking envelope, the admission test, the wanted edge
and the extension attempt, confirmation and shrink. What changes the node state stands in NodeStates.lean. -/

namespace Sys2Proof.Machine

/-! ## The braking envelope (R57, R58) -/

/-- R57, R88: the step in force of an axis. -/
def stepInForce (s : State) (a : Axis) : Int :=
  let p := axisParams s.conf a
  if (s.axis a).state = .stopping then p.emergency
  else if s.weigher.load ≠ .empty then p.decelLoaded
  else p.decel

/-- An interval clipped to another. -/
def clipTo (i j : Interval) : Interval := ⟨clamp j.low j.high i.low, clamp j.low j.high i.high⟩

/-- The whole runway [0, L]. -/
def wholeRunway (c : StartRecord) : Interval := ⟨0, c.runway⟩

/-- R57: the braking envelope at a bridge position. -/
def envelopeAt (s : State) (x : Int) : Interval :=
  let c := s.conf
  let v := s.travel.bridge.setpoint
  let stop := stopDistance (magnitude v) (stepInForce s .bridge)
  clipTo ⟨x - reach c - (if v < 0 then stop else 0), x + reach c + (if 0 < v then stop else 0)⟩ (wholeRunway c)

/-- R57: the braking envelope; none while the bridge position input is invalid. -/
def envelope (s : State) : Option Interval := (s.position .bridge).map (envelopeAt s)

/-- R58: the bridge limit of a direction of travel; none without a claim. -/
def bridgeLimit (s : State) (d : Side) : Option Int :=
  s.claim.confirmed.map fun k => match d with
    | .high => k.high - reach s.conf
    | .low => k.low + reach s.conf

/-! ## Regions and admission (R55, R59) -/

/-- An interval widened to an edge on one side. -/
def widen (i : Interval) (d : Side) (edge : Int) : Interval :=
  match d with
  | .high => ⟨i.low, edge⟩
  | .low => ⟨edge, i.high⟩

/-- R55: the region of a peer record. -/
def peerRegion (p : PeerRecord) : Option Interval :=
  p.claim.map fun k => match p.extension with
    | some e => widen k e.side e.edge
    | none => k

/-- R39: the peer region that is handed over, the claim of a record together with its pending extension. An extension whose
edge lies inside the claim takes nothing from it (DEDUCED, notes/assumptions/49.md). -/
def handedRegion (p : PeerRecord) : Option Interval :=
  p.claim.map fun k => match p.extension with
    | some ⟨.high, e, _, _⟩ => ⟨k.low, max k.high e⟩
    | some ⟨.low, e, _, _⟩ => ⟨min k.low e, k.high⟩
    | none => k

/-- R55: the own region. -/
def ownRegion (s : State) : Option Interval :=
  s.claim.confirmed.map fun k => match s.claim.pending with
    | some ⟨d, e, .window _ _⟩ => widen k d e
    | _ => k

/-- R59: the tested set for a frame sent by a rank. -/
def testedSet (s : State) (sender : Nat) : List Interval :=
  ((peerRanks s).filter (· ≠ sender)).filterMap (fun r => peerRegion (s.peer r))
    ++ (if sender = s.conf.ownRank then [] else (ownRegion s).toList)

/-- R59: an interval added by a rank overlaps an interval of the tested set. -/
def overlapsTested (s : State) (sender : Nat) (i : Interval) : Bool := (testedSet s sender).any fun j => overlaps i j

/-- R59, R68: the interval an extension adds to a claim. -/
def addedInterval (k : Interval) (d : Side) (edge : Int) : Interval :=
  match d with
  | .high => ⟨k.high, edge⟩
  | .low => ⟨edge, k.low⟩

/-! ## The own claim record -/

/-- The own claim record replaced. -/
def withClaim (s : State) (k : ClaimRecord) : State := { s with claim := k }

/-- The own confirmed claim replaced; a query scan falls due (R143). -/
def setConfirmed (s : State) (k : Option Interval) : State := scanLater (withClaim s { s.claim with confirmed := k })

/-- R79: raises CLAIM_CHANGED with the confirmed claim after the change. -/
def claimEvent (s : State) (o : ClaimOutcome) : State := raiseEvent s (.claimChanged o s.claim.confirmed)

/-- R64, R54: the retry timer starts. -/
def startRetry (s : State) : State := withClaim s { s.claim with retry := some (s.now + s.conf.reportInterval) }

/-- The retry timer starts if the wanted edge is still present (R65, R66, R69, R70). -/
def retryIfWanted (s : State) : State := if s.claim.wanted.isSome then startRetry s else s

/-- R63: the wanted edge is cleared, and the retry timer stops. -/
def clearWanted (s : State) : State := withClaim s { s.claim with wanted := none, retry := none }

/-! ## The extension attempt (R64) -/

/-- The ranks on a side, nearest first. -/
def ranksBeyond (c : StartRecord) : Side → List Nat
  | .high => ((List.range (c.craneCount + 1)).filter (c.ownRank < ·))
  | .low => ((List.range c.ownRank).filter (0 < ·)).reverse

/-- R64 step 1: the neighbour test of a side. -/
def neighbourAllows (s : State) (d : Side) : Bool :=
  match (ranksBeyond s.conf d).find? fun r => (s.peer r).presence != .released with
  | none => true
  | some r =>
    let p := s.peer r
    p.presence == .live && p.claim.isSome && p.releasePending.isNone && !s.peers.inFlight.any (·.rank == r)

/-- R64 step 2: the peers whose regions lie beyond the own claim on a side, each with the end that faces it. -/
def gapEnds (s : State) (k : Interval) (d : Side) : List (Nat × Int) :=
  (peerRanks s).filterMap fun r => (peerRegion (s.peer r)).bind fun i => match d with
    | .high => if k.high < i.high then some (r, i.low) else none
    | .low => if i.low < k.low then some (r, i.high) else none

/-- R64 step 2: the gap edge. -/
def gapEdge (s : State) (k : Interval) (d : Side) : Int :=
  match d with
  | .high => (gapEnds s k d).foldl (fun e g => min e g.2) s.conf.runway
  | .low => (gapEnds s k d).foldl (fun e g => max e g.2) 0

/-- R64 step 2: the limiting rank, the nearest of those whose region gives the gap edge; of two as near, the lower
(DESIGN CHOICE, notes/assumptions/47.md). -/
def limitingRank (s : State) (k : Interval) (d : Side) : Option Nat :=
  let ranks := ((gapEnds s k d).filter (·.2 == gapEdge s k d)).map (·.1)
  let distance (r : Nat) : Nat := max r s.conf.ownRank - min r s.conf.ownRank
  ranks.foldl (fun best r => match best with
    | none => some r
    | some b => if distance r < distance b then some r else some b) none

/-- R64 step 4: the rank whose last sequence is the view sequence of an Extend. -/
def viewRank (c : StartRecord) (d : Side) : Option Nat :=
  match d with
  | .high => if c.ownRank < c.craneCount then some (c.ownRank + 1) else none
  | .low => if 1 < c.ownRank then some (c.ownRank - 1) else none

/-- One edge lies beyond another in the direction of a side. -/
def beyond (d : Side) (a b : Int) : Bool :=
  match d with
  | .high => b < a
  | .low => a < b

/-- R64 steps 3 to 5: queues the Extend, or starts the retry timer where there is no room. -/
def proposeEdge (s : State) (k : Interval) (d : Side) (edge : Int) : State :=
  if beyond d edge (match d with | .high => k.high | .low => k.low) then
    let view := (viewRank s.conf d).bind fun r => (s.peer r).lastSeq
    withClaim (offer s (.extend ⟨d, edge, view⟩))
      { s.claim with pending := some ⟨d, edge, .queued⟩, retry := none }
  else startRetry s

/-- R64: an extension attempt. -/
def extensionAttempt (s : State) : State :=
  match s.node, s.claim.wanted, s.claim.pending, s.claim.confirmed with
  | .active, some w, none, some k =>
    if !neighbourAllows s w.side then startRetry s
    else
      let gap := gapEdge s k w.side
      let edge := if beyond w.side w.edge gap then gap else w.edge
      let asked := proposeEdge s k w.side edge
      if beyond w.side w.edge edge then
        match limitingRank s k w.side with
        | some r => if (s.peer r).presence = .live then offer asked (.makeWay ⟨r, w.edge⟩) else asked
        | none => asked
      else asked
  | _, _, _, _ => s

/-- R63: the wanted edge a bridge target asks for. DESIGN CHOICE (notes/assumptions/36.md): of a target beyond the claim on
both sides, the high side, which the rule tests first. -/
def wantedFor (c : StartRecord) (k : Interval) (target : Int) : Option WantedEdge :=
  if k.high < target + reach c then some ⟨.high, target + reach c⟩
  else if target - reach c < k.low then some ⟨.low, target - reach c⟩
  else none

/-- R63, R73: the Profiler reports an accepted bridge move: the shrink timer stops and the wanted edge is set afresh. -/
def reportMove (s : State) (target : Int) : State :=
  let s := withClaim s { s.claim with shrink := none }
  match s.claim.confirmed.bind fun k => wantedFor s.conf k target with
  | none => clearWanted s
  | some w => extensionAttempt (withClaim s { s.claim with wanted := some w })

/-! ## Shrink (R73, R74) -/

/-- R28: the own Extend, or Join, is withdrawn from the queue. -/
def withdrawClaimFrame (s : State) : State := withdraw s isClaimFrame

/-- R74: a shrink first ends any pending extension. -/
def abandonPending (s : State) : State :=
  match s.claim.pending with
  | none => s
  | some ⟨_, _, .queued⟩ => withClaim (withdrawClaimFrame s) { s.claim with pending := none }
  | some ⟨d, e, .window _ _⟩ => claimEvent (withClaim s { s.claim with pending := none }) (.abandoned d e)

/-- The smallest interval holding two. -/
def hull (i j : Interval) : Interval := ⟨min i.low j.low, max i.high j.high⟩

/-- R74: the shrink target within a claim, at a bridge position. -/
def shrinkTarget (s : State) (k : Interval) (x : Int) : Interval :=
  let c := s.conf
  let e := envelopeAt s x
  let kept := (reservedCoverage s).foldl hull ⟨e.low - c.restMargin, e.high + c.restMargin⟩
  clipTo (clipTo kept (wholeRunway c)) k

/-- R74: a shrink. -/
def shrink (s : State) : State :=
  let s := abandonPending s
  match s.claim.confirmed, s.position .bridge with
  | some k, some x =>
    let t := shrinkTarget s k x
    if t = k then s else claimEvent (offer (setConfirmed s (some t)) .report) .shrunk
  | _, _ => s

/-- R73: the shrink timer may run. -/
def shrinks (s : State) : Bool :=
  (s.node == .active || s.node == .isolated) && s.conf.craneCount != 1

/-- R73: a shrink is made if no bridge move is in hand. -/
def shrinkIfIdle (s : State) : State := if s.travel.bridge.move.isNone then shrink s else s

/-- R63, R73, R104: the Profiler reports the end of a bridge move. -/
def reportEnd (s : State) (o : MoveOutcome) : State :=
  if o = .replaced then s
  else
    let s := clearWanted s
    if !shrinks s then s
    else if s.conf.releaseDelay = 0 then shrinkIfIdle s
    else withClaim s { s.claim with shrink := some (s.now + 1000 * s.conf.releaseDelay) }

end Sys2Proof.Machine
end

