-- ==== Sys2Proof/Machine/Travel.lean ====
section
/-! DEFINITION. The Travel Profiler's axes (Chapter 5): entry to each axis state, the end of a move, the acceptance of a
Move, the quantities of a profile period, and the stops. What sets a halt reason stands in HaltLine.lean. -/

namespace Sys2Proof.Machine

/-! ## Entry to an axis state (section 5.1) -/

/-- R87: an axis enters HOLDING; its park timer starts and its commanded position becomes absent. -/
def enterHolding (s : State) (a : Axis) : State :=
  s.withAxis a
    { s.axis a with
      state := .holding, setpoint := 0, brake := true, commanded := none, brakeTimer := none, profileTimer := none
      settle := none, waitTimer := none, parkTimer := some (s.now + 1000 * s.conf.parkDelay) }

/-- R80: an axis enters PARKED. -/
def enterParked (s : State) (a : Axis) : State :=
  s.withAxis a
    { s.axis a with
      state := .parked, setpoint := 0, brake := false, commanded := none, brakeTimer := none, profileTimer := none
      settle := none, waitTimer := none, parkTimer := none }

/-- R96: an axis enters STOPPING, or HOLDING at once where its setpoint is already 0. -/
def enterStopping (s : State) (a : Axis) : State :=
  if (s.axis a).setpoint = 0 then enterHolding s a
  else s.withAxis a { s.axis a with state := .stopping, settle := none, waitTimer := none }

/-- R83, R86, R94: an axis enters MOVING; its profile timer starts where it does not run. -/
def enterMoving (s : State) (a : Axis) : State :=
  let r := s.axis a
  s.withAxis a
    { r with
      state := .moving, brakeTimer := none, parkTimer := none, settle := none, waitTimer := none
      profileTimer := some (r.profileTimer.getD (s.now + Config.profilePeriod)) }

/-! ## The end of a move (R104) -/

/-- R104: what an end leaves: the last outcome, MOVE_DONE for every outcome but REPLACED, and, for the bridge, the report
to the Claim Controller. -/
def recordEnd (s : State) (a : Axis) (o : MoveOutcome) (target : Int) : State :=
  let pos := s.position a
  let s := s.withAxis a { s.axis a with move := none, last := some ⟨o, target, pos⟩ }
  let s := if o = .replaced then s else raiseEvent s (.moveDone a o target pos)
  match a with
  | .bridge => reportEnd s o
  | .trolley => s

/-- R104: a move in hand ends. -/
def endMove (s : State) (a : Axis) (o : MoveOutcome) : State :=
  match (s.axis a).move with
  | none => s
  | some m => recordEnd s a o m.target

/-- R96: an axis is stopped with the emergency step. -/
def stopAxis (s : State) (a : Axis) (o : MoveOutcome) : State :=
  match (s.axis a).state with
  | .moving | .settling | .waiting => endMove (enterStopping s a) a o
  | .releasing => endMove (enterParked s a) a o
  | _ => s

/-- R95: sets a stop order, unless the move holds one already. -/
def orderStop (s : State) (a : Axis) (o : MoveOutcome) : State :=
  match (s.axis a).move with
  | some m => if m.stopOrder.isSome then s
    else s.withAxis a { s.axis a with move := some { m with stopOrder := some o } }
  | none => s

/-- R95: entry to ISOLATED, for one axis. -/
def isolateAxis (s : State) (a : Axis) : State :=
  match (s.axis a).state with
  | .moving => orderStop s a .isolated
  | .releasing => endMove (enterParked s a) a .isolated
  | .settling | .waiting => endMove (enterHolding s a) a .isolated
  | _ => s

/-- R102: low-hook travel arises, for one axis. -/
def lowHookAxis (s : State) (a : Axis) : State :=
  match (s.axis a).state with
  | .moving => orderStop s a .lowHook
  | .waiting => endMove (enterHolding s a) a .lowHook
  | .releasing => endMove (enterParked s a) a .lowHook
  | _ => s

/-- R86: Stop Move, for one named axis. -/
def stopMoveAxis (s : State) (a : Axis) : State :=
  match (s.axis a).state with
  | .releasing => endMove (enterParked s a) a .cancelled
  | .moving => orderStop s a .cancelled
  | .settling => endMove (enterHolding s a) a .cancelled
  | .waiting => endMove (enterHolding s a) a .blocked
  | _ => s

/-! ## The hoist and loaded travel (R3, R102) -/

/-- R3: the hook is below C. -/
def belowClear (s : State) : Bool := s.travel.hoist.referenced && s.travel.hoist.height < s.conf.clearHeight

/-- R81 test 5: the hook forbids travel. -/
def hookForbids (s : State) : Bool := s.weigher.load != .empty && (!s.travel.hoist.referenced || belowClear s)

/-- R102: the node is in low-hook travel. -/
def lowHookTravel (s : State) : Bool :=
  hookForbids s && (s.travel.bridge.move.isSome || s.travel.trolley.move.isSome)

/-- R102: acts on low-hook travel where the event from `before` to `s` made it arise. -/
def lowHookEdge (before s : State) : State :=
  if lowHookTravel s && !lowHookTravel before then lowHookAxis (lowHookAxis s .bridge) .trolley else s

/-! ## A Move (R81 to R83) -/

/-- R82: the target of an axis, clamped to its travel range. -/
def clampTarget (c : StartRecord) (a : Axis) (t : Int) : Int :=
  clamp (travelRange c a).low (travelRange c a).high t

/-- R82, R85: a speed clamped to [creep speed, maximum speed]. -/
def clampSpeed (c : StartRecord) (a : Axis) (v : Int) : Int :=
  clamp (axisParams c a).creepSpeed (axisParams c a).maxSpeed v

/-- The side of a target from a position; a target at the position lies on no side. -/
def sideOf (target position : Int) : Option Side :=
  if position < target then some .high else if target < position then some .low else none

/-- The axes a Move names, bridge first, each with its target and speed. -/
def namedMoves (q : MoveRequest) : List (Axis × AxisMove) :=
  (q.bridge.map (Axis.bridge, ·)).toList ++ (q.trolley.map (Axis.trolley, ·)).toList

/-- R81 test 6: the hold of the side toward which the clamped target lies is set. -/
def heldToward (s : State) (a : Axis) (target : Int) : Bool :=
  match s.position a with
  | none => false
  | some x =>
    if magnitude (target - x) ≤ (axisParams s.conf a).window then false
    else if x < target then (s.axis a).highHold else (s.axis a).lowHold

/-- R81: the status with which a Move is refused. -/
def moveRefusal (s : State) (q : MoveRequest) : Option Status :=
  let named := namedMoves q
  if s.node != .active then some .state
  else if s.halt.asserted then some .state
  else if named.any fun n => (s.axis n.1).state == .stopping || (s.axis n.1).state == .fault then some .state
  else if named.any fun n => (s.position n.1).isNone then some .state
  else if hookForbids s then some .lowHook
  else if named.any fun n => heldToward s n.1 (clampTarget s.conf n.1 n.2.target) then some .limit
  else none

/-- R82: the move completes at once. -/
def completesAtOnce (s : State) (a : Axis) (target : Int) : Bool :=
  ((s.axis a).state == .holding || (s.axis a).state == .parked) &&
    (s.position a).any fun x => magnitude (target - x) ≤ (axisParams s.conf a).window

/-- R83: the direction of travel of an accepted move: the side of the target, or as it was where the target is the
position itself. -/
def directionFor (s : State) (a : Axis) (target : Int) : Side :=
  ((s.position a).bind (sideOf target)).getD (((s.axis a).move.map (·.direction)).getD .high)

/-- R83: the hold of the side opposite to a direction of travel is cleared. -/
def clearHold (r : AxisRecord) (d : Side) : AxisRecord :=
  match d with
  | .low => { r with highHold := false }
  | .high => { r with lowHold := false }

/-- R83: what the axis state makes of an accepted move. -/
def startMove (s : State) (a : Axis) : State :=
  let r := s.axis a
  match r.state with
  | .parked =>
    s.withAxis a { r with state := .releasing, brake := true, brakeTimer := some (s.now + s.conf.brakeSettle) }
  | .holding => enterMoving (s.withAxis a { r with commanded := (s.position a).map (100 * ·) }) a
  | .settling | .waiting => enterMoving s a
  | _ => s

/-- R82, R83: an accepted move is taken up by one named axis. One that completes at once leaves the park timer of a HOLDING
axis running (notes/assumptions/37.md). -/
def takeUpMove (s : State) (a : Axis) (m : AxisMove) : State :=
  let c := s.conf
  let target := clampTarget c a m.target
  let report (t : State) : State := match a with | .bridge => reportMove t target | .trolley => t
  if completesAtOnce s a target then recordEnd (report s) a .done target
  else
    let d := directionFor s a target
    let v := clampSpeed c a m.speed
    let s := endMove s a .replaced
    let r := clearHold (s.axis a) d
    let mv : MoveRecord := ⟨target, v, max v (magnitude r.setpoint), d, none⟩
    report (startMove (s.withAxis a { r with move := some mv }) a)

/-- R82: either axis's target is replaced. -/
def clampsTarget (c : StartRecord) (q : MoveRequest) : Bool :=
  (namedMoves q).any fun n => clampTarget c n.1 n.2.target != n.2.target

/-- R81 to R83: an accepted Move, bridge first. -/
def acceptMove (s : State) (q : MoveRequest) : State := (namedMoves q).foldl (fun t n => takeUpMove t n.1 n.2) s

/-! ## Set Speed (R85) -/

/-- The axes a Set Speed names, each with its speed. -/
def namedSpeeds (q : SpeedRequest) : List (Axis × Int) :=
  (q.bridge.map (Axis.bridge, ·)).toList ++ (q.trolley.map (Axis.trolley, ·)).toList

/-- R85: Set Speed is refused with STATE. -/
def speedRefused (s : State) (q : SpeedRequest) : Bool :=
  s.node != .active || (namedSpeeds q).any fun n =>
    (s.axis n.1).move.isNone || (s.axis n.1).move.any (·.stopOrder.isSome)

/-- R85: the new requested speed of one axis, and its move speed. -/
def setAxisSpeed (s : State) (a : Axis) (v : Int) : State :=
  match (s.axis a).move with
  | none => s
  | some m =>
    let v := clampSpeed s.conf a v
    let m := { m with requested := v, speed := if magnitude (s.axis a).setpoint ≤ v then v else m.speed }
    s.withAxis a { s.axis a with move := some m }

/-! ## The profile period (R88 to R95) -/

/-- R88: the direction of travel at a setpoint: that of the setpoint, or the side of the target at setpoint 0. -/
def travelDirection (setpoint x : Int) (m : MoveRecord) : Side :=
  if 0 < setpoint then .high
  else if setpoint < 0 then .low
  else (sideOf m.target x).getD m.direction

/-- R88: the effective target of a direction of travel. -/
def effectiveTarget (s : State) (a : Axis) (target : Int) (d : Side) : Int :=
  match a with
  | .trolley => target
  | .bridge => match bridgeLimit s d, d with
    | none, _ => target
    | some l, .high => min target l
    | some l, .low => max target l

/-- R88: the distance to go, counted positive in the direction of travel. -/
def distanceToGo (effective x : Int) (d : Side) : Int :=
  match d with
  | .high => effective - x
  | .low => x - effective

/-- R89 step 1, R90: the speed cap c of a direction of travel. The move speed caps through the requested speed too, so that
a move speed above it falls by the step in force, as R85 says it does (DEDUCED, notes/assumptions/41.md). -/
def speedCap (s : State) (a : Axis) (m : MoveRecord) (d : Side) : Int :=
  let p := axisParams s.conf a
  let c := min (min m.speed m.requested) p.maxSpeed
  if slowActive s a d || (s.weigher.sensorLost && s.weigher.load != .empty) then min c p.creepSpeed else c

/-- R89: the new setpoint magnitude v′, with v the present one and g the distance to go. -/
def nextSpeed (p : AxisParams) (step cap v g : Int) : Int :=
  if g ≤ p.creepStop then (if v ≤ p.creepSpeed then 0 else max (v - step) 0)
  else
    let v1 := if v < cap then min (v + p.accel) cap else if cap < v then max (v - step) cap else v
    if ceilDiv v1 100 + creepDistance p.creepSpeed v1 step + p.creepLength > g then max (v - step) p.creepSpeed
    else v1

/-- A speed in a direction, as a signed setpoint. -/
def signed (d : Side) (v : Int) : Int :=
  match d with
  | .high => v
  | .low => -v

/-- R91: drives a new setpoint and advances the commanded position by it. -/
def driveSetpoint (r : AxisRecord) (setpoint : Int) : AxisRecord :=
  { r with setpoint := setpoint, commanded := r.commanded.map (· + setpoint) }

/-- R85, R88: the move record after a period: the direction found, and the move speed following the setpoint. -/
def followSpeed (m : MoveRecord) (d : Side) (v : Int) : MoveRecord :=
  { m with direction := d, speed := max m.requested v }

/-- R93: the bridge enters WAITING and an extension attempt is made. -/
def enterWaiting (s : State) (a : Axis) : State :=
  extensionAttempt
    (s.withAxis a { s.axis a with state := .waiting, waitTimer := some (s.now + 1000 * s.conf.waitTimeout) })

/-- R92: the axis enters SETTLING. -/
def enterSettling (s : State) (a : Axis) : State :=
  s.withAxis a { s.axis a with state := .settling, settle := some ⟨0, 0⟩ }

/-- R89: what follows a new setpoint of 0: the quantities of R88 are found anew at setpoint 0, and the move has arrived
where the distance to go is at most the creep stop distance (notes/assumptions/7.md). -/
def arrive (s : State) (a : Axis) (m : MoveRecord) (x : Int) : State :=
  let d := travelDirection 0 x m
  let e := effectiveTarget s a m.target d
  if distanceToGo e x d ≤ (axisParams s.conf a).creepStop then
    (if e = m.target then enterSettling s a else enterWaiting s a)
  else s

/-- R89: a profile period in MOVING without a stop order. -/
def profileMove (s : State) (a : Axis) (m : MoveRecord) (x : Int) : State :=
  let p := axisParams s.conf a
  let r := s.axis a
  let v := magnitude r.setpoint
  let d := travelDirection r.setpoint x m
  let g := distanceToGo (effectiveTarget s a m.target d) x d
  let v' := nextSpeed p (stepInForce s a) (speedCap s a m d) v g
  let s := s.withAxis a { driveSetpoint r (signed d v') with move := some (followSpeed m d v') }
  if v' = 0 then arrive s a (followSpeed m d v') x else s

/-- R95: a profile period in MOVING with a stop order. -/
def profileStop (s : State) (a : Axis) (m : MoveRecord) (x : Int) (o : MoveOutcome) : State :=
  let r := s.axis a
  let d := travelDirection r.setpoint x m
  let v' := max (magnitude r.setpoint - (axisParams s.conf a).decel) 0
  let s := s.withAxis a { driveSetpoint r (signed d v') with move := some (followSpeed m d v') }
  if v' = 0 then endMove (enterHolding s a) a o else s

/-- R96: a profile period in STOPPING. -/
def profileStopping (s : State) (a : Axis) : State :=
  let r := s.axis a
  let v' := max (magnitude r.setpoint - (axisParams s.conf a).emergency) 0
  if v' = 0 then enterHolding s a
  else s.withAxis a (driveSetpoint r (if r.setpoint < 0 then -v' else v'))

/-- R92: the axis is in position. -/
def inPosition (p : AxisParams) (target x : Int) : Bool := magnitude (target - x) ≤ p.window

/-- R92: a profile period in SETTLING measures the two times; the move ends where one of them is reached. -/
def profileSettling (s : State) (a : Axis) (m : MoveRecord) (x : Int) : State :=
  let p := axisParams s.conf a
  let t := (s.axis a).settle.getD ⟨0, 0⟩
  let t : SettleTimes :=
    ⟨if inPosition p m.target x then t.inWindow + Config.profilePeriod else 0, t.settling + Config.profilePeriod⟩
  let s := s.withAxis a
    { s.axis a with settle := some t, move := some { m with direction := travelDirection 0 x m } }
  if p.settleTime ≤ t.inWindow then endMove (enterHolding s a) a .done
  else if Config.settlingLimit ≤ t.settling then endMove (enterHolding s a) a .notInPosition
  else s

/-- R94: a profile period in WAITING. -/
def profileWaiting (s : State) (a : Axis) (m : MoveRecord) (x : Int) : State :=
  let d := travelDirection 0 x m
  let e := effectiveTarget s a m.target d
  if e = m.target || (axisParams s.conf a).creepStop < distanceToGo e x d then
    profileMove (enterMoving s a) a m x
  else s.withAxis a { s.axis a with move := some { m with direction := d } }

/-- R89 to R96: the work of a profile period after the following check, by the axis state. -/
def profileWork (s : State) (a : Axis) (x : Int) : State :=
  match (s.axis a).state, (s.axis a).move with
  | .stopping, _ => profileStopping s a
  | .moving, some m => match m.stopOrder with
    | some o => profileStop s a m x o
    | none => profileMove s a m x
  | .settling, some m => profileSettling s a m x
  | .waiting, some m => profileWaiting s a m x
  | _, _ => s

/-- R97: the cause for which the following check fails, if it does. -/
def followingFailure (s : State) (a : Axis) : Option FaultCause :=
  match s.position a with
  | none => some .invalidPosition
  | some x => match (s.axis a).commanded with
    | none => some .followingError
    | some k =>
      if magnitude (k - 100 * x) ≤ 100 * (axisParams s.conf a).following then none else some .followingError

/-! ## Slowdown and end-limit edges (R90, R100) -/

/-- R90: the cut of a slowdown edge: a setpoint toward the side above creep speed becomes creep speed. -/
def slowCut (creep : Int) (r : AxisRecord) (d : Side) : AxisRecord :=
  if creep < signed d r.setpoint then
    { r with setpoint := signed d creep, move := r.move.map fun m => { m with speed := creep } }
  else r

/-- The direction of travel an end-limit edge is judged by: that of a move in hand, or of a STOPPING axis's setpoint. -/
def limitDirection (r : AxisRecord) : Option Side :=
  match r.move with
  | some m => some m.direction
  | none => if r.state = .stopping then sideOf r.setpoint 0 else none

/-- R100: latches the end-limit hold of a side. -/
def latchHold (r : AxisRecord) (d : Side) : AxisRecord :=
  match d with
  | .low => { r with lowHold := true }
  | .high => { r with highHold := true }

/-- R100: an end-limit input of a side passes into its active level. -/
def endLimitEdge (s : State) (a : Axis) (d : Side) : State :=
  let r := s.axis a
  match limitDirection r with
  | some t =>
    if t = d then
      raiseEvent (stopAxis (s.withAxis a (latchHold r d)) a .limit) (.limit a d r.move.isSome)
    else s
  | none => raiseEvent (s.withAxis a (latchHold r d)) (.limit a d false)

end Sys2Proof.Machine
end

