-- ==== Sys2Proof/Machine/HaltLine.lean ====
section
/-! DEFINITION. The Halt Line Unit (Chapter 6): setting an own reason, the drive, the line state and its edges, and
Clear Halt; with the entry of an axis to FAULT (R97), which sets a reason. -/

namespace Sys2Proof.Machine

/-- R107: raises HALT_CHANGED with the unit as it stands. -/
def haltEvent (s : State) (cause : HaltCause) : State :=
  raiseEvent s (.haltChanged cause s.halt.asserted s.halt.drives s.halt.reasons)

/-- R106, R107: the drive, the line state and the drive-not-seen flag as the reasons, the node state and the level make
them. -/
def judgeLine (s : State) : State :=
  { s with halt := { s.halt with
      drives := driveDue s, asserted := lineDue s, notSeen := driveDue s && !s.inputs.haltLine } }

/-- R107 to R109: an edge of the line state since `before`. An asserted edge ends the moves of both axes HALTED. -/
def lineEdge (before s : State) : State :=
  if s.halt.asserted && !before.halt.asserted then
    stopAxis (stopAxis (haltEvent s .lineAsserted) .bridge .halted) .trolley .halted
  else if !s.halt.asserted && before.halt.asserted then haltEvent s .lineReleased
  else s

/-- R106, R107: brings drive and line state up to date and acts on the edge this makes. -/
def refreshLine (s : State) : State := lineEdge s (judgeLine s)

/-- R105: a cause sets an own reason; a reason that was clear raises HALT_CHANGED, and the drive follows. -/
def setReason (s : State) (r : HaltReason) : State :=
  if s.halt.reasons.get r then s
  else
    let t := judgeLine { s with halt := { s.halt with reasons := s.halt.reasons.put true r } }
    lineEdge s (haltEvent t (.reason r))

/-- Clears an own reason, and nothing else. -/
def clearReason (s : State) (r : HaltReason) : State :=
  { s with halt := { s.halt with reasons := s.halt.reasons.put false r } }

/-- R97: an axis enters FAULT. MOVE_DONE of the bridge precedes that of the trolley (R104). -/
def faultAxis (s : State) (a : Axis) (cause : FaultCause) : State :=
  let r := s.axis a
  let pos := s.position a
  let s := s.withAxis a
    { r with state := .fault, setpoint := 0, brake := true, profileTimer := none, settle := none, waitTimer := none }
  let s := match a with
    | .bridge => setReason (endMove s .bridge .fault) .following
    | .trolley => endMove (setReason s .following) .trolley .fault
  raiseEvent s (.axisFault a cause r.commanded pos)

/-- R89: a profile period of an axis: the following check of R97, then the work of its state. -/
def profileAxis (s : State) (a : Axis) : State :=
  match followingFailure s a, s.position a with
  | some cause, _ => faultAxis s a cause
  | none, some x => profileWork s a x
  | none, none => s

/-- R98, R111 step 1: an axis in FAULT with a valid position input enters HOLDING. -/
def recoverAxis (s : State) (a : Axis) : State :=
  if (s.axis a).state = .fault && (s.position a).isSome then enterHolding s a else s

/-- An axis is in FAULT. -/
def anyFault (s : State) : Bool := s.travel.bridge.state == .fault || s.travel.trolley.state == .fault

/-- R111: Clear Halt. -/
def clearHalts (s : State) : State :=
  let s := recoverAxis (recoverAxis s .bridge) .trolley
  let reasons : HaltReasons :=
    { HaltReasons.clear with following := s.halt.reasons.following && anyFault s, void := s.halt.reasons.void }
  refreshLine { s with halt := { s.halt with reasons := reasons } }

end Sys2Proof.Machine
end

