-- ==== Sys2Proof/Machine/NodeStates.lean ====
section
/-! DEFINITION. The node state (section 1.7, section 4.10): entry to each state with what the blocks do at it, the re-test
of an own Join or Extend that waits in the queue, and the handling of the node's own taken claim frames. -/

namespace Sys2Proof.Machine

/-! ## Change of node state -/

/-- R47: every release arming is cleared when the node leaves ACTIVE. -/
def clearArmings (t : PeerTable) : PeerTable :=
  { rank1 := { t.rank1 with arming := none }, rank2 := { t.rank2 with arming := none }
    rank3 := { t.rank3 with arming := none }, rank4 := { t.rank4 with arming := none }
    rank5 := { t.rank5 with arming := none }, rank6 := { t.rank6 with arming := none }
    rank7 := { t.rank7 with arming := none }, rank8 := { t.rank8 with arming := none } }

/-- R46, R47: the isolation timer and the armings at a change of node state. -/
def peersAtEntry (s : State) (n : NodeState) : Peers :=
  match n with
  | .active =>
    { s.peers with isolation := if s.conf.craneCount = 1 then none else some (s.now + silenceTimeoutOf s.conf) }
  | _ =>
    if s.node = .active then { s.peers with isolation := none, table := clearArmings s.peers.table } else s.peers

/-- R31: the report timer at a change of node state. -/
def reportTimerAtEntry (s : State) (n : NodeState) : Option Nat :=
  match n with
  | .joining => some (s.now + s.conf.reportInterval)
  | .active => match s.link.reportTimer with
    | some t => some t
    | none => some (s.now + s.conf.reportInterval)
  | .isolated | .voided => s.link.reportTimer
  | .unconfigured | .listening | .joinBlocked => none

/-- R14, R22, R61: the listen window runs in LISTENING alone, and stops when the node leaves it
(notes/assumptions/32.md). -/
def listenAtEntry (s : State) (n : NodeState) : Option Nat :=
  match n with
  | .listening => s.listen
  | .unconfigured | .joining | .joinBlocked | .active | .isolated | .voided => none

/-- R15: sets the node state with the timers that follow it, and raises NODE_STATE. -/
def changeNode (s : State) (n : NodeState) : State :=
  let left := s.node
  raiseEvent
    { s with
      node := n
      listen := listenAtEntry s n
      peers := peersAtEntry s n
      link := { s.link with reportTimer := reportTimerAtEntry s n } }
    (.nodeState n left)

/-- R142: entries left in the outbox with no Store Notice queued are announced. -/
def announceOutbox (s : State) : State :=
  if s.store.outbox.isEmpty || queued s isStoreNotice then s else offer s .storeNotice

/-- The node enters a state: the drive follows (R106), a Position Report is queued where R32 says so (R30 keeps it out
elsewhere), the outbox is announced (R142), a scan is made on entry to ACTIVE (R143), and an open query is closed where
the claim is lost (R143). -/
def enterNode (s : State) (n : NodeState) : State :=
  let s := refreshLine (changeNode s n)
  match n with
  | .joining | .isolated => announceOutbox (offer s .report)
  | .active => scanLater (announceOutbox (offer s .report))
  | .voided => announceOutbox (closeQuery (offer s .report))
  | .joinBlocked => announceOutbox (closeQuery (withdraw s isReport))
  | .listening => closeQuery s
  | .unconfigured => s

/-- R54, R61: entry to JOIN_BLOCKED; the own claim record holds nothing there. -/
def blockJoin (s : State) : State := enterNode (scanLater (withClaim s ClaimRecord.reset)) .joinBlocked

/-- R76: entry to ISOLATED: the wish, the motion, the shrink. -/
def isolateNode (s : State) : State :=
  shrink (isolateAxis (isolateAxis (clearWanted (enterNode s .isolated)) .bridge) .trolley)

/-- R77 step 2: the claim is removed with all that waits on it. -/
def removeClaim (s : State) : State :=
  scanLater (withClaim (withdrawClaimFrame s) ClaimRecord.reset)

/-- R77: entry to VOIDED. -/
def voidNode (s : State) : State :=
  let s := removeClaim (taskVoided s)
  let s := enterNode s .voided
  let s := stopAxis (stopAxis s .bridge .voided) .trolley .voided
  claimEvent (setReason s .void) .removed

/-- R45: the peers have removed the own claim. -/
def reportVoid (s : State) : State :=
  match s.node with
  | .joining | .active | .isolated => voidNode s
  | _ => s

/-- R46: a frame from any peer was delivered. -/
def heardAnyPeer (s : State) : State :=
  match s.node with
  | .active =>
    { s with peers := { s.peers with
        isolation := if s.conf.craneCount = 1 then none else some (s.now + silenceTimeoutOf s.conf) } }
  | .isolated => enterNode s .active
  | _ => s

/-! ## Re-tests of the own queued frames (R60, R65) -/

/-- R60: re-tests the own Join that waits in the queue. -/
def retestJoin (s : State) : State :=
  if s.node = .listening then
    match s.link.queue.find? fun e => isJoin e.content && !e.withdrawn with
    | some ⟨.join i, _, _, _, _, _⟩ =>
      if overlapsTested s s.conf.ownRank i then blockJoin (withdrawClaimFrame s) else s
    | _ => s
  else s

/-- R65: the own QUEUED Extend has become void. -/
def extendVoid (s : State) (k : Interval) (d : Side) (edge : Int) : Bool :=
  !neighbourAllows s d || overlapsTested s s.conf.ownRank (addedInterval k d edge)

/-- R65: re-tests the own Extend that waits in the queue. -/
def retestExtend (s : State) : State :=
  match s.claim.pending, s.claim.confirmed with
  | some ⟨d, e, .queued⟩, some k =>
    if extendVoid s k d e then retryIfWanted (withClaim (withdrawClaimFrame s) { s.claim with pending := none })
    else s
  | _, _ => s

/-- R60, R65: re-tests what waits in the queue after a change to a peer's records, at each change (DEDUCED for a frame that
makes two, notes/assumptions/48.md). -/
def retest (s : State) : State := retestExtend (retestJoin s)

/-! ## The listen window and the own Join (R14, R60, R61) -/

/-- R14, R22, R60: the Join is formed, tested, and queued or blocked. -/
def formJoin (s : State) (i : Interval) : State :=
  if overlapsTested s s.conf.ownRank i then blockJoin s
  else
    let s := offer s (.join i)
    { s with link := { s.link with seq := 0 } }

/-- R14: the listen window ends. A Join is placed in LISTENING alone (R22), and elsewhere no window runs
(notes/assumptions/32.md). -/
def endListening (s : State) : State :=
  if s.node ≠ .listening then { s with listen := none }
  else if s.conf.craneCount = 1 then
    enterNode (setConfirmed { s with listen := none } (some (wholeRunway s.conf))) .active
  else
    match s.position .bridge with
    | none => { s with listen := some (s.now + silenceTimeoutOf s.conf) }
    | some x => formJoin { s with listen := none }
        (clipTo (coverageOf s.conf x) (wholeRunway s.conf))

/-- R61: the node's own Join is taken. -/
def ownJoinTaken (s : State) (i : Interval) (withdrawn : Bool) : State :=
  let s := enterNode s .joining
  if withdrawn || overlapsTested s s.conf.ownRank i then blockJoin s
  else setConfirmed (withClaim s { s.claim with joinWindow := some (s.now + objectionWindowOf s.conf) }) (some i)

/-! ## The own Extend (R66, R69, R70) -/

/-- R66: the node's own Extend is taken. -/
def ownExtendTaken (s : State) (f : ExtendFrame) (seq : Nat) (withdrawn : Bool) : State :=
  match withdrawn, s.claim.pending, s.claim.confirmed with
  | false, some p, some k =>
    if overlapsTested s s.conf.ownRank (addedInterval k f.side f.edge) then
      retryIfWanted (claimEvent (withClaim s { s.claim with pending := none }) (.void p.side p.edge))
    else withClaim s { s.claim with
      pending := some { p with phase := .window seq (s.now + objectionWindowOf s.conf) } }
  | _, _, _ => s

/-- R70: the join window expires in JOINING. -/
def completeJoin (s : State) : State := enterNode (withClaim s { s.claim with joinWindow := none }) .active

/-- R63: the confirmed claim has reached the wanted edge. -/
def wantedReached (k : Interval) (w : WantedEdge) : Bool :=
  match w.side with
  | .high => w.edge ≤ k.high
  | .low => k.low ≤ w.edge

/-- R70: the own extension is confirmed. -/
def confirmExtension (s : State) (p : PendingExtension) (k : Interval) : State :=
  let k' := widen k p.side p.edge
  let s := setConfirmed (withClaim s { s.claim with pending := none }) (some k')
  let s := claimEvent (offer s .report) (.confirmed p.side p.edge)
  if s.claim.wanted.any (wantedReached k') then clearWanted s else retryIfWanted s

end Sys2Proof.Machine
end

