-- ==== Sys2Proof/Machine/Peers.lean ====
section
/-! DEFINITION. The Peer Table (Chapter 3) with the Claim Controller's handling of peers' frames (sections 4.4 to 4.7):
presence and gaps, Joins, Extends, Objections, reported claims, and the release of a STALE peer. -/

namespace Sys2Proof.Machine

/-! ## Presence -/

/-- The record of a rank changed by a function. -/
def State.mapPeer (s : State) (rank : Nat) (f : PeerRecord → PeerRecord) : State := s.withPeer rank (f (s.peer rank))

/-- R53: the release in flight ends. -/
def endFlight (s : State) (o : ReleaseOutcome) (denier : Option Nat) : State :=
  match s.peers.inFlight with
  | none => s
  | some f => raiseEvent { s with peers := { s.peers with inFlight := none } } (.releaseOutcome f.rank o denier)

/-- R49: the released rank's record leaves STALE because its peer is heard. A Release taken ends DENIED with its pending,
by no rank's denial (notes/assumptions/34.md); one still queued is withdrawn, and ends WITHDRAWN at once unless its attempt
runs. An attempt that runs is its own where no other Release waits behind it. -/
def flightLeavesStale (s : State) (rank : Nat) : State :=
  match s.peers.inFlight with
  | some ⟨r, t⟩ =>
    if r = rank then
      if t then endFlight s .denied none
      else
        let offered := s.link.queue.any fun e => isRelease e.content && e.offered
        let waits := s.link.queue.any fun e => isRelease e.content && !e.offered && !e.withdrawn
        let s := withdraw s isRelease
        if offered && !waits then s else endFlight s .withdrawn none
    else s
  | none => s

/-- R42, R43: a release pending ends because the peer is heard: each Release of another node in its list draws an
Objection RELEASE_DENIED. -/
def denyPending (s : State) (rank : Nat) : State :=
  match (s.peer rank).releasePending with
  | none => s
  | some p =>
    (p.releases.filter (·.1 ≠ s.conf.ownRank)).foldl
      (fun t r => offer t (.objection ⟨r.1, r.2, .releaseDenied⟩))
      (s.mapPeer rank fun q => { q with releasePending := none })

/-- R42, R47, R49: what ends when a record leaves STALE because its peer is heard. -/
def leaveStale (s : State) (rank : Nat) : State :=
  if (s.peer rank).presence = .stale then
    (flightLeavesStale (denyPending s rank) rank).mapPeer rank fun q => { q with arming := none }
  else s

/-- R53: sets the presence of a record, and raises PEER_CHANGED where it changes. -/
def setPresence (s : State) (rank : Nat) (p : Presence) : State :=
  let left := (s.peer rank).presence
  let s := s.mapPeer rank fun q => { q with presence := p }
  if left = p then s else raiseEvent s (.peerChanged rank left p)

/-- R40, R42: the presence after a frame that is not a Join. -/
def presenceAfter (p : Presence) (isReport gap : Bool) : Presence :=
  match p with
  | .absent => if isReport then .live else .doubtful
  | .live => if gap then .doubtful else .live
  | .doubtful => if isReport && !gap then .live else .doubtful
  | .stale => .doubtful
  | .released => .released

/-- R38: the frame's sender sequence shows a gap after the last one. -/
def showsGap (last : Option Nat) (seq : Nat) : Bool :=
  last.any fun l => seq != (l + 1) % Config.sequenceModulus

/-- R44: a frame of a RELEASED sender is withheld and draws an Objection VOID. -/
def withhold (s : State) (sender seq : Nat) : State :=
  heardAnyPeer (offer (s.mapPeer sender fun q => { q with lastSeq := some seq }) (.objection ⟨sender, seq, .void⟩))

/-- R38 steps 2 to 6: what the Peer Table does with a frame, not a Join, of a sender that is not RELEASED. -/
def noteFrame (s : State) (sender seq : Nat) (isReport : Bool) : State :=
  let p := s.peer sender
  let gap := showsGap p.lastSeq seq
  let s := s.mapPeer sender fun q => { q with silence := some (s.now + silenceTimeoutOf s.conf) }
  let s := if gap then handRegion s (handedRegion p) sender else s
  let s := s.mapPeer sender fun q => { q with lastSeq := some seq }
  let s := setPresence (leaveStale s sender) sender (presenceAfter p.presence isReport gap)
  heardAnyPeer (retest s)

/-- R38: a delivered frame that is not a Join, passed on to its owning block by `handle`. -/
def hearFrame (s : State) (sender seq : Nat) (isReport : Bool) (handle : State → State) : State :=
  if (s.peer sender).presence = .released then withhold s sender seq
  else handle (noteFrame s sender seq isReport)

/-- R41: the silence timer of a record expires. -/
def silencePeer (s : State) (rank : Nat) : State :=
  retest (setPresence (s.mapPeer rank fun q => { q with silence := none }) rank .stale)

/-! ## Joins (R43, R62) -/

/-- R43: the Peer Table resets the record of a Join's sender. -/
def resetForJoin (s : State) (sender seq : Nat) : State :=
  let p := s.peer sender
  let region := handedRegion p
  let s := leaveStale s sender
  let s := s.mapPeer sender fun q =>
    { q with
      lastSeq := some seq, silence := some (s.now + silenceTimeoutOf s.conf), lastReport := none
      extension := none, arming := none, releasePending := none }
  let s := setPresence s sender .live
  let s := if p.presence = .doubtful || p.presence = .stale then handRegion s region sender else s
  heardAnyPeer (clearForeign s sender)

/-- R62: a peer's Join interval is void. -/
def joinVoid (s : State) (sender : Nat) (i : Interval) : Bool :=
  i.high < i.low || !inside i (wholeRunway s.conf) || overlapsTested s sender i

/-- R62: the Claim Controller admits or voids a peer's Join. -/
def admitJoin (s : State) (sender : Nat) (i : Interval) : State :=
  let void := joinVoid s sender i
  let window : PeerJoinWindow := ⟨s.now + objectionWindowOf s.conf, !void⟩
  let s := s.mapPeer sender fun q => { q with claim := if void then none else some i, joinWindow := some window }
  retest (if void then offer s (.objection ⟨sender, 0, .overlap⟩) else s)

/-- R43, R62: a peer's Join. -/
def peerJoin (s : State) (sender seq : Nat) (i : Interval) : State :=
  admitJoin (retest (resetForJoin s sender seq)) sender i

/-! ## Extends (R67, R68) -/

/-- The rank adjacent to another on a side; 0 where there is none. -/
def adjacentRank (rank : Nat) : Side → Nat
  | .high => rank + 1
  | .low => rank - 1

/-- R67: the view sequence shows that a frame of rank a was discarded here. -/
def viewShowsGap (s : State) (a view : Nat) : Bool :=
  let p := s.peer a
  a != s.conf.ownRank && (p.presence == .live || p.presence == .doubtful) &&
    p.lastSeq.any fun l =>
      let d := (view + Config.sequenceModulus - l % Config.sequenceModulus) % Config.sequenceModulus
      1 ≤ d && d ≤ 32767

/-- R67: the comparison of an Extend's view sequence. -/
def compareView (s : State) (sender : Nat) (f : ExtendFrame) : State :=
  let a := adjacentRank sender f.side
  match f.view with
  | none => s
  | some view =>
    if viewShowsGap s a view then
      let s := handRegion s (handedRegion (s.peer a)) a
      retest (setPresence (s.mapPeer a fun q => { q with lastSeq := some view }) a .doubtful)
    else s

/-- R68: a peer's Extend is void here. -/
def peerExtendVoid (s : State) (sender : Nat) (f : ExtendFrame) : Bool :=
  match (s.peer sender).claim with
  | none => true
  | some k =>
    !within f.edge 0 s.conf.runway || overlapsTested s sender (addedInterval k f.side f.edge)

/-- R68: tests and records a peer's Extend. -/
def recordExtend (s : State) (sender seq : Nat) (f : ExtendFrame) : State :=
  let s := s.mapPeer sender fun q => { q with extension := none }
  if peerExtendVoid s sender f then retest (offer s (.objection ⟨sender, seq, .overlap⟩))
  else
    let e : PeerExtension := ⟨f.side, f.edge, seq, s.now + objectionWindowOf s.conf⟩
    retest (s.mapPeer sender fun q => { q with extension := some e })

/-- R67, R68: a peer's Extend. -/
def peerExtend (s : State) (sender seq : Nat) (f : ExtendFrame) : State :=
  recordExtend (compareView s sender f) sender seq f

/-! ## Claims from Position Reports (R71, R72) -/

/-- R69, R71: a peer's extension window has expired; at the very moment of expiry either order may hold. -/
def windowExpired (s : State) (expiry : Nat) : Bool :=
  expiry < s.now || (expiry == s.now && Config.windowTie s.now)

/-- R71 case 4, R72: what a reported claim, in conflict or not, makes of a pending extension: one whose new edge it includes
is confirmed. -/
def extensionAfter (s : State) (i : Interval) (e : PeerExtension) : Option PeerExtension :=
  if within e.edge i.low i.high || windowExpired s e.expiry then none else some e

/-- R72: the reported claim shows a claim conflict. -/
def claimConflict (s : State) (sender : Nat) (i : Interval) : Bool :=
  match peerRegion (s.peer sender) with
  | some region => !inside i region
  | none => overlapsTested s sender i

/-- R71, R72: a reported claim is recorded, with a conflict where it shows one. -/
def recordClaim (s : State) (sender : Nat) (i : Interval) : State :=
  let conflict := claimConflict s sender i
  let treat := conflict || (s.peer sender).claim.isSome
  let s := if conflict then setReason s .claimConflict else s
  retest (s.mapPeer sender fun q =>
    { q with claim := some i, extension := if treat then q.extension.bind (extensionAfter s i) else q.extension })

/-- R71: the Claim Controller's handling of a peer's Position Report. -/
def reportClaim (s : State) (sender : Nat) (f : ReportFrame) : State :=
  if (s.peer sender).joinWindow.any fun w => !w.valid then s
  else match f.claim with
    | none => retest (s.mapPeer sender fun q => { q with claim := none, extension := none, joinWindow := none })
    | some i => recordClaim s sender i

/-- R40, R71: a peer's Position Report, after the Peer Table has noted the frame. -/
def peerReport (sender : Nat) (f : ReportFrame) (s : State) : State :=
  let report : LastReport := ⟨f.nodeState, f.position, f.speed, f.hookLoad, f.hookCoil⟩
  reportClaim (s.mapPeer sender fun q => { q with lastReport := some report }) sender f

/-! ## Objections (R45, R52, R69) -/

/-- R69: an Objection OVERLAP that names the own rank. -/
def overlapOwn (s : State) (sender seq : Nat) : State :=
  if seq = 0 && s.node = .joining && s.claim.joinWindow.isSome then blockJoin s
  else match s.claim.pending with
    | some ⟨d, e, .window w _⟩ =>
      if w = seq then
        retryIfWanted (claimEvent (withClaim s { s.claim with pending := none }) (.objected d e sender))
      else s
    | _ => s

/-- R69: an Objection OVERLAP that names a peer's Join or Extend. -/
def overlapPeer (s : State) (rank seq : Nat) : State :=
  let p := s.peer rank
  if seq = 0 && p.joinWindow.any (·.valid) then
    retest (s.mapPeer rank fun q => { q with claim := none, joinWindow := none })
  else if p.extension.any fun e => e.seq == seq && !windowExpired s e.expiry then
    retest (s.mapPeer rank fun q => { q with extension := none })
  else s

/-- R51, R52: the release in flight that names a rank ends with that rank's pending. A Release of it that has not been
taken, because another node's came first, is withdrawn from the queue (R49, R28; notes/assumptions/33.md). -/
def endFlightOf (s : State) (rank : Nat) (o : ReleaseOutcome) (denier : Option Nat) : State :=
  match s.peers.inFlight with
  | some ⟨r, taken⟩ => if r = rank then endFlight (if taken then s else withdraw s isRelease) o denier else s
  | none => s

/-- R52: a record's release pending ends by a denial that names a Release in its list. -/
def denyAt (denier target seq : Nat) (s : State) (rank : Nat) : State :=
  if (s.peer rank).releasePending.any fun p => p.releases.contains (target, seq) then
    endFlightOf (s.mapPeer rank fun q => { q with releasePending := none }) rank .denied (some denier)
  else s

/-- R45, R52, R69: a taken Objection, own or a peer's. -/
def objectionTaken (sender : Nat) (f : ObjectionFrame) (s : State) : State :=
  match f.reason with
  | .overlap => if f.target = s.conf.ownRank then overlapOwn s sender f.targetSeq else overlapPeer s f.target f.targetSeq
  | .void => if f.target = s.conf.ownRank then reportVoid s else s
  | .releaseDenied => (peerRanks s).foldl (denyAt sender f.target f.targetSeq) s

/-! ## Releasing a STALE peer (R47 to R51) -/

/-- R50: a Release joins the list of a release pending; a second one of a sender replaces its first, and stands at the end of
the list (DESIGN CHOICE, notes/assumptions/44.md). -/
def joinPending (s : State) (p : PeerRecord) (sender seq : Nat) : ReleasePending :=
  match p.releasePending with
  | none => ⟨[(sender, seq)], s.now + objectionWindowOf s.conf⟩
  | some q => ⟨q.releases.filter (·.1 ≠ sender) ++ [(sender, seq)], q.expiry⟩

/-- R50: a Release taken with the released rank held STALE. -/
def holdPending (s : State) (sender seq : Nat) (f : ReleaseFrame) : State :=
  let p := s.peer f.rank
  let s := if p.lastSeq = some f.lastSeq then s else handRegion s (handedRegion p) f.rank
  s.mapPeer f.rank fun q => { q with releasePending := some (joinPending s p sender seq) }

/-- R45, R50: a peer's Release. -/
def peerRelease (sender seq : Nat) (f : ReleaseFrame) (s : State) : State :=
  if f.rank = s.conf.ownRank then reportVoid s
  else if f.rank = 0 || s.conf.craneCount < f.rank then s
  else match (s.peer f.rank).presence with
    | .live | .doubtful => offer s (.objection ⟨sender, seq, .releaseDenied⟩)
    | .stale => holdPending s sender seq f
    | .absent | .released => s

/-- R49, R50: the node's own Release is taken. It is that of the release in flight unless another, queued since, is
(notes/assumptions/33.md). -/
def ownReleaseTaken (s : State) (seq : Nat) (f : ReleaseFrame) : State :=
  let inFlight := !queued s isRelease
  if (s.peer f.rank).presence = .stale then
    let s := holdPending s s.conf.ownRank seq f
    if inFlight then
      { s with peers := { s.peers with inFlight := s.peers.inFlight.map fun g => { g with taken := true } } }
    else s
  else if inFlight then endFlight s .denied none else s

/-- R51: a release window expires with its pending still held. The release in flight that names the rank ends RELEASED,
its own Release taken or not (notes/assumptions/33.md). -/
def releasePeer (s : State) (rank : Nat) : State :=
  let region := handedRegion (s.peer rank)
  let s := s.mapPeer rank fun q =>
    { q with releasePending := none, arming := none, silence := none, claim := none, extension := none }
  let s := setPresence (handRegion s region rank) rank .released
  let s := clearForeign s rank
  retest (endFlightOf s rank .released none)

/-! ## Receiving a frame (section 2.2) -/

/-- R36: a received frame is discarded. -/
def countCheckError (s : State) : State :=
  { s with link := { s.link with counters := { s.link.counters with
      checkErrors := countUp s.link.counters.checkErrors } } }

/-- R36: a frame of another node passes R19 and R20. -/
def countReceived (s : State) : State :=
  { s with link := { s.link with counters := { s.link.counters with
      framesReceived := countUp s.link.counters.framesReceived } } }

/-- R20: the sender rank makes a frame malformed; before the start record is accepted only rank 0 can be told. -/
def senderMalformed (s : State) (sender : Nat) : Bool :=
  sender == 0 || (s.record.isSome && (s.conf.craneCount < sender || sender == s.conf.ownRank))

/-- R19 to R21: a frame of another node is received; a malformed one is discarded, and in UNCONFIGURED nothing is
delivered (R11). -/
def receive (s : State) (sender : Nat) (wellCoded : Bool) (deliver : State → State) : State :=
  if senderMalformed s sender || !wellCoded then countCheckError s
  else
    let s := countReceived s
    if s.record.isSome then finish (deliver s) else s

end Sys2Proof.Machine
end

