-- ==== Sys2Proof/Machine/Weigher.lean ====
section
/-! DEFINITION. The Hook Weigher (Chapter 7): acquisition, conversion and the weigh window, the hook load state, and what
a sample hands to the Halt Line Unit, the Task Engine and the Travel Profiler. -/

namespace Sys2Proof.Machine

/-! ## Values of the record -/

/-- The weigher record replaced. -/
def withWeigher (s : State) (w : Weigher) : State := { s with weigher := w }

/-- R114: the net weight, absent with filtered. -/
def netOf (w : Weigher) : Option Int := w.filtered.map (· - w.tare)

/-- R119: the largest value minus the smallest is at most the band. -/
def spreadWithin (band : Int) (window : List Int) : Bool :=
  window.all fun a => window.all fun b => decide (a - b ≤ band)

/-- R119, R116: the window is stable. -/
def stable (c : StartRecord) (w : Weigher) : Bool :=
  !w.sensorLost && w.window.length == Config.windowCapacity && spreadWithin c.band w.window

/-- R129: raises WEIGHT_FAULT with the weigher as it stands. -/
def weightFault (s : State) (cause : WeightCause) : State :=
  let w := s.weigher
  raiseEvent s (.weightFault cause w.sensorLost w.overrange w.overload w.raw (netOf w) (!w.sensorLost))

/-! ## Acquisition (R115) -/

/-- R115: three bytes, the first the most significant, as a signed 24-bit count. -/
def rawCount (b1 b2 b3 : Byte) : Int := (b1 ++ b2 ++ b3 : BitVec 24).toInt

/-- R114, R115: a transfer is under way, with the number of its byte. -/
def transferring : Converter → Option Nat
  | .byte1 => some 1
  | .byte2 _ => some 2
  | .byte3 _ _ => some 3
  | .idle | .armed => none

/-- R114, R115: the select output to the converter, asserted from the start of a read to its sample, and released in ARMED
and in IDLE, which is UNCONFIGURED. -/
def selectOutput (w : Weigher) : Bool := (transferring w.converter).isSome

/-- R114, R115: the clock output to the converter rests at its idle level; it clocks while a byte is in transfer. -/
def clockAtRest (w : Weigher) : Bool := (transferring w.converter).isNone

/-- R115: the data-ready input is at its active level. -/
def dataReadyActive (c : StartRecord) (level : Bool) : Bool := activeLevel c 8 level

/-- R115: the data-ready input passes into its active level. -/
def dataReady (w : Weigher) : Weigher :=
  match w.converter with
  | .idle => w
  | .armed => { w with converter := .byte1 }
  | .byte1 | .byte2 _ | .byte3 _ _ => { w with lost := countUp w.lost }

/-- R115: byte 1 or byte 2 of a transfer is complete. -/
def keepByte (w : Weigher) (b : Byte) : Weigher :=
  match w.converter with
  | .byte1 => { w with converter := .byte2 b }
  | .byte2 b1 => { w with converter := .byte3 b1 b }
  | .idle | .armed | .byte3 _ _ => w

/-- R114, R115: the record at acceptance of the start record; a data-ready input already active begins a read. -/
def armWeigher (s : State) : Weigher :=
  let active := dataReadyActive s.conf s.inputs.dataReady
  { Weigher.reset with
    converter := if active then .byte1 else .armed
    timer := some (s.now + Config.sampleTimeout), lost := s.weigher.lost }

/-! ## Conversion and the window (R117 to R119) -/

/-- R118: a saturation value. -/
def saturated (raw : Int) : Bool := raw == -8388608 || raw == 8388607

/-- R117: the gross weight of a raw count. -/
def grossOf (c : StartRecord) (raw : Int) : Int := roundDiv ((raw - c.zeroCount) * c.scale) 65536

/-- R119: a value joins the window; the oldest leaves a full one. -/
def joinWindow (window : List Int) (g : Int) : List Int :=
  (window ++ [g]).drop ((window.length + 1) - Config.windowCapacity)

/-- R119: the filtered value of a window that is not empty. -/
def filteredOf (window : List Int) : Int := roundDiv window.sum window.length

/-- R116, R117, R119: a gross weight enters the window. The overrange flag clears; a sensor loss ends with its window
emptied first and the settle counter at 0. -/
def enterGross (w : Weigher) (g : Int) : Weigher :=
  let window := joinWindow (if w.sensorLost then [] else w.window) g
  { w with
    window := window, filtered := some (filteredOf window), overrange := false, sensorLost := false
    settle := if w.sensorLost then 0 else w.settle }

/-! ## The hook load state (R121 to R125) -/

/-- R121: the three classes of the crane. -/
inductive CraneClass where
  | standing | travelling | inBetween
  deriving DecidableEq, Repr

/-- R121: both axes are HOLDING or PARKED; either is MOVING or WAITING; anything else. -/
def classOf (bridge trolley : AxisState) : CraneClass :=
  let stands (a : AxisState) : Bool := a == .holding || a == .parked
  let travels (a : AxisState) : Bool := a == .moving || a == .waiting
  if stands bridge && stands trolley then .standing
  else if travels bridge || travels trolley then .travelling
  else .inBetween

/-- What an evaluation hands on: R126 a lift or a set-down, R127 a snag or a load loss. -/
inductive HookAct where
  | lift | set | snag | loadLost
  deriving DecidableEq, Repr

/-- The outcome of an evaluation: the hook load state, the settle counter and what is handed on. -/
structure HookStep where
  load : HookLoad
  settle : Nat
  act : Option HookAct
  deriving DecidableEq, Repr

/-- R122, R124: the settle counter at the sample that begins a take or a give. -/
def firstCount (steady : Bool) : Nat := if steady then 1 else 0

/-- R122: an evaluation in EMPTY. -/
def evalEmpty (pick : Int) (net : Int) (steady : Bool) (k : CraneClass) (settle : Nat) : HookStep :=
  if net < pick then ⟨.empty, settle, none⟩
  else match k with
    | .standing => ⟨.taking, firstCount steady, none⟩
    | .travelling => ⟨.taking, 0, some .snag⟩
    | .inBetween => ⟨.empty, settle, none⟩

/-- R123: an evaluation in TAKING. -/
def evalTaking (pick : Int) (count : Nat) (net : Int) (steady : Bool) (k : CraneClass) (settle : Nat) : HookStep :=
  if net < pick then ⟨.empty, 0, none⟩
  else match k with
    | .standing =>
      if !steady then ⟨.taking, 0, none⟩
      else if count ≤ settle + 1 then ⟨.loaded, 0, some .lift⟩
      else ⟨.taking, settle + 1, none⟩
    | .travelling => ⟨.taking, 0, some .snag⟩
    | .inBetween => ⟨.taking, 0, none⟩

/-- R124: an evaluation in LOADED. -/
def evalLoaded (release : Int) (net : Int) (steady : Bool) (k : CraneClass) (settle : Nat) : HookStep :=
  if release < net then ⟨.loaded, settle, none⟩
  else match k with
    | .standing => ⟨.giving, firstCount steady, none⟩
    | .travelling => ⟨.empty, 0, some .loadLost⟩
    | .inBetween => ⟨.loaded, settle, none⟩

/-- R125: an evaluation in GIVING. -/
def evalGiving (release : Int) (count : Nat) (net : Int) (steady : Bool) (k : CraneClass) (settle : Nat) : HookStep :=
  if release < net then ⟨.loaded, 0, none⟩
  else match k with
    | .standing =>
      if !steady then ⟨.giving, 0, none⟩
      else if count ≤ settle + 1 then ⟨.empty, 0, some .set⟩
      else ⟨.giving, settle + 1, none⟩
    | .travelling => ⟨.empty, 0, some .loadLost⟩
    | .inBetween => ⟨.giving, 0, none⟩

/-- R121: the evaluation of the hook load state at a sample. -/
def evalHook (c : StartRecord) (load : HookLoad) (net : Int) (steady : Bool) (k : CraneClass) (settle : Nat) : HookStep :=
  match load with
  | .empty => evalEmpty c.pick net steady k settle
  | .taking => evalTaking c.pick c.settleCount net steady k settle
  | .loaded => evalLoaded c.releaseLevel net steady k settle
  | .giving => evalGiving c.releaseLevel c.settleCount net steady k settle

/-- R126, R127: what an evaluation hands on. The snag's halt reaches the axes before low-hook travel does
(notes/assumptions/14.md). -/
def handOn (s : State) (act : HookAct) (net filtered : Int) : State :=
  match act with
  | .lift => raiseEvent (taskLift s net) (.lift net filtered)
  | .set => raiseEvent (taskSet s net) (.set net filtered)
  | .snag => taskSnag (setReason s .snag)
  | .loadLost => taskLoadLost (setReason s .loadLost)

/-- R121: evaluates the hook load state, unless no Tare has been accepted; low-hook travel that arises is acted on. -/
def evaluateHook (s : State) (net filtered : Int) : State :=
  let w := s.weigher
  if !w.tared then s
  else
    let k := classOf s.travel.bridge.state s.travel.trolley.state
    let e := evalHook s.conf w.load net (stable s.conf w) k w.settle
    let t := withWeigher s { w with load := e.load, settle := e.settle }
    match e.act with
    | some a => lowHookEdge s (handOn t a net filtered)
    | none => lowHookEdge s t

/-! ## Overload (R128) -/

/-- R128: compares net with the safe working load. -/
def judgeOverload (s : State) (net : Int) : State :=
  if s.conf.swl < net then
    (if s.weigher.overload then s else weightFault (withWeigher s { s.weigher with overload := true }) .overload)
  else withWeigher s { s.weigher with overload := false }

/-! ## The sample (R115 to R128) -/

/-- R118: an overrange sample. -/
def overrangeSample (s : State) : State :=
  let first := !s.weigher.overrange
  let s := withWeigher s { s.weigher with overrange := true, settle := 0 }
  if first then weightFault s .overrange else s

/-- R117, R119, R121, R128: a sample in range. -/
def inRangeSample (s : State) (raw : Int) : State :=
  let w := enterGross s.weigher (grossOf s.conf raw)
  let filtered := w.filtered.getD 0
  let net := filtered - w.tare
  judgeOverload (evaluateHook (withWeigher s w) net filtered) net

/-- R115 to R118: a sample event with its raw count; the interface is ARMED again and the sample timer starts again. -/
def takeSample (s : State) (raw : Int) : State :=
  let s := withWeigher s
    { s.weigher with converter := .armed, raw := some raw, timer := some (s.now + Config.sampleTimeout) }
  if saturated raw then overrangeSample s else inRangeSample s raw

/-- R116: the sample timer expires and starts again. -/
def loseSensor (s : State) : State :=
  let first := !s.weigher.sensorLost
  let s := withWeigher s { s.weigher with sensorLost := true, timer := some (s.now + Config.sampleTimeout) }
  if first then weightFault s .sensorLost else s

/-! ## Tare (R120) -/

/-- R120: the filtered value a Tare would take, none where it is refused. -/
def tareValue (s : State) : Option Int :=
  if stable s.conf s.weigher && s.weigher.load == .empty && s.tasks.hookCoil.isNone then s.weigher.filtered else none

end Sys2Proof.Machine
end

