-- ==== Sys2Proof/Machine/Frames.lean ====
section
/-! DEFINITION. The commands of the Runway Link (Chapter 2): the node's own attempts, their loss and their taking, and the
frames received from peers. -/

namespace Sys2Proof.Machine

/-! ## The attempt (R16, R22, R23, R26, R33) -/

/-- R23: the Position Report as the node stands. -/
def reportOf (s : State) : ReportFrame :=
  { nodeState := s.node, position := s.position .bridge, speed := s.travel.bridge.setpoint
    claim := s.claim.confirmed, hookLoad := s.weigher.load, hookCoil := s.tasks.hookCoil.map (·.coil) }

/-- R33: how many outbox entries a Store Notice carries. -/
def carriedCount (s : State) : Nat := min Config.noticeEntries s.store.outbox.length

/-- R33: the Store Notice as the outbox stands. -/
def storeNoticeOf (s : State) : StoreNoticeFrame :=
  ⟨none, (s.store.outbox.take (carriedCount s)).map fun e => noticeEntry e.slot e.state⟩

/-- R26: the frame an entry offers: live content is read now, fixed content is sent as it is. -/
def frameOf (s : State) : Content → LinkFrame
  | .report => .report (reportOf s)
  | .storeNotice => .storeNotice (storeNoticeOf s)
  | .bayNotice b => .bayNotice (bayNoticeOf s b)
  | .join f => .join f
  | .extend f => .extend f
  | .objection f => .objection f
  | .release f => .release f
  | .makeWay f => .makeWay f
  | .slotQuery f => .slotQuery f
  | .answer _ tag es => .storeNotice ⟨some tag, es⟩

/-- R30: an attempt may offer the head in a node state. -/
def mayOffer (n : NodeState) (c : Content) : Bool :=
  match n with
  | .unconfigured => false
  | .listening => isJoin c
  | .joining | .joinBlocked | .active | .isolated | .voided => true

/-- R16: begins an attempt with the head of the queue. -/
def beginAttempt (s : State) : State :=
  match s.link.attempt, s.link.queue with
  | none, e :: q =>
    if mayOffer s.node e.content then
      { s with link := { s.link with
          queue := { e with offered := true } :: q
          attempt := some ⟨frameOf s e.content, s.link.seq, if e.content = .storeNotice then carriedCount s else 0⟩ } }
    else s
  | _, _ => s

/-- The command ATTEMPT. -/
def execAttempt (s : State) : Handled := .next (beginAttempt s)

/-! ## A lost attempt (R17, R27, R28) -/

/-- R27, R28: the entry offered, after its attempt is lost: a withdrawn one leaves; otherwise the renewal mark is cleared
and a successor's content is taken, the entry's place kept. -/
def lostEntry (e : Entry) : Option Entry :=
  if !e.offered then some e
  else if e.withdrawn then none
  else some { e with
    offered := false, renewed := false, successor := none
    content := (e.successor.map (·.1)).getD e.content }

/-- R49: the entry offered is the Release of the release in flight, and has been withdrawn: no other is queued
(notes/assumptions/33.md). -/
def offersWithdrawnRelease (s : State) : Bool :=
  (s.link.queue.any fun e => e.offered && e.withdrawn && isRelease e.content) && !queued s isRelease

/-- R36: the contention-loss counter goes from 65,535 to 0. -/
def countLoss (c : LineCounters) : LineCounters :=
  { c with contentionLosses := (c.contentionLosses + 1) % (Config.counterTop + 1) }

/-- R17: the attempt in progress is lost. -/
def loseAttempt (s : State) : State :=
  match s.link.attempt with
  | none => s
  | some _ =>
    let ends := offersWithdrawnRelease s && s.peers.inFlight.any (!·.taken)
    let s := { s with link := { s.link with
      queue := s.link.queue.filterMap lostEntry, attempt := none, counters := countLoss s.link.counters } }
    if ends then endFlight s .withdrawn none else s

/-- The command CONTENTION_LOSS. -/
def execContentionLoss (s : State) : Handled := .next (loseAttempt s)

/-! ## A taken attempt (R18, R21, R27, R33) -/

/-- R27, R28, R33: what remains in the queue of the entry that was offered, with its age: a withdrawn one leaves; a Store
Notice stays while the outbox holds entries; a renewed entry stays; a successor stays with the age of its arrival. -/
def remainder (e : Entry) (outboxLeft : Bool) (stamp : Nat) : Option Entry :=
  if e.withdrawn then none
  else match e.content, e.successor with
    | .storeNotice, _ => if outboxLeft then some ⟨.storeNotice, stamp, false, false, false, none⟩ else none
    | c, none => if e.renewed then some ⟨c, stamp, false, false, false, none⟩ else none
    | _, some (c, age) => some ⟨c, age, false, false, false, none⟩

/-- R18: the queue after the entry that was offered is taken. -/
def queueAfterTaken (q : List Entry) (outboxLeft : Bool) (stamp : Nat) : List Entry :=
  ((q.filter (·.offered)).filterMap fun e => remainder e outboxLeft stamp).foldl (fun t e => insertEntry e t)
    (q.filter (!·.offered))

/-- R18, R22, R33, R36: the Link Controller's own work at a taken frame. -/
def closeAttempt (s : State) (a : Attempt) : State :=
  let outbox := s.store.outbox.drop a.carried
  { s with
    store := { s.store with outbox := outbox }
    link := { s.link with
      queue := queueAfterTaken s.link.queue (!outbox.isEmpty) s.link.stamp
      attempt := none
      seq := (s.link.seq + 1) % Config.sequenceModulus
      stamp := s.link.stamp + 1
      counters := { s.link.counters with framesTaken := countUp s.link.counters.framesTaken } } }

/-- R144: the node's own Slot Query is taken. -/
def ownQueryTaken (s : State) (f : SlotQueryFrame) : State :=
  match s.store.query with
  | some q =>
    if q.row = f.row && q.tag = f.tag then
      { s with store := { s.store with query := some { q with expiry := some (s.now + 4 * s.conf.reportInterval) } } }
    else s
  | none => s

/-- R21: a taken frame of the node's own goes straight to its owning block. -/
def deliverOwn (s : State) (a : Attempt) (withdrawn : Bool) : State :=
  match a.frame with
  | .join i => ownJoinTaken s i withdrawn
  | .extend f => ownExtendTaken s f a.seq withdrawn
  | .objection f => objectionTaken s.conf.ownRank f s
  | .release f => ownReleaseTaken s a.seq f
  | .slotQuery f => ownQueryTaken s f
  | .report _ | .storeNotice _ | .bayNotice _ | .makeWay _ => s

/-- R18: the node's own frame is taken. -/
def takeAttempt (s : State) : State :=
  match s.link.attempt with
  | none => s
  | some a =>
    let withdrawn := s.link.queue.any fun e => e.offered && e.withdrawn
    finish (deliverOwn (closeAttempt s a) a withdrawn)

/-- The command TAKEN. -/
def execTaken (s : State) : Handled := .next (takeAttempt s)

/-! ## Frames from peers (R19 to R21) -/

/-- The command CHECK_ERROR: R19, R20. -/
def execCheckError (_cause : DiscardCause) (s : State) : Handled := .next (countCheckError s)

/-- R20: the node states a Position Report may carry. -/
def reportable : NodeState → Bool
  | .joining | .active | .isolated | .voided => true
  | .unconfigured | .listening | .joinBlocked => false

/-- The command POSITION_REPORT. -/
def execPositionReport (sender seq : Nat) (f : ReportFrame) (s : State) : Handled :=
  .next (receive s sender (reportable f.nodeState) fun t => hearFrame t sender seq true (peerReport sender f))

/-- The command JOIN: R43, R62. -/
def execJoin (sender seq : Nat) (f : Interval) (s : State) : Handled :=
  .next (receive s sender true fun t => peerJoin t sender seq f)

/-- The command EXTEND: R67, R68. -/
def execExtend (sender seq : Nat) (f : ExtendFrame) (s : State) : Handled :=
  .next (receive s sender true fun t => hearFrame t sender seq false fun u => peerExtend u sender seq f)

/-- The command OBJECTION: R45, R52, R69. -/
def execObjection (sender seq : Nat) (f : ObjectionFrame) (s : State) : Handled :=
  .next (receive s sender true fun t => hearFrame t sender seq false (objectionTaken sender f))

/-- The command RELEASE: R45, R50. -/
def execRelease (sender seq : Nat) (f : ReleaseFrame) (s : State) : Handled :=
  .next (receive s sender true fun t => hearFrame t sender seq false (peerRelease sender seq f))

/-- R75: a taken Make Way. -/
def makeWayTaken (sender : Nat) (f : MakeWayFrame) (s : State) : State :=
  if f.target = s.conf.ownRank then raiseEvent s (.makeWay sender f.edge) else s

/-- The command MAKE_WAY. -/
def execMakeWay (sender seq : Nat) (f : MakeWayFrame) (s : State) : Handled :=
  .next (receive s sender true fun t => hearFrame t sender seq false (makeWayTaken sender f))

/-- R20: the entry count of a Store Notice. -/
def noticeCounted (f : StoreNoticeFrame) : Bool := 1 ≤ f.entries.length && f.entries.length ≤ Config.noticeEntries

/-- The command STORE_NOTICE: R137. -/
def execStoreNotice (sender seq : Nat) (f : StoreNoticeFrame) (s : State) : Handled :=
  .next (receive s sender (noticeCounted f) fun t => hearFrame t sender seq false fun u => applyNotice u sender f)

/-- R145: the node states in which an answer plan is formed. -/
def plansAnswers : NodeState → Bool
  | .unconfigured | .listening => false
  | .joining | .joinBlocked | .active | .isolated | .voided => true

/-- R145: a peer's Slot Query. -/
def planAnswer (f : SlotQueryFrame) (s : State) : State :=
  if plansAnswers s.node && f.row < s.conf.rows && (rowAt s f.row).known then
    { s with store := { s.store with
        plan := some ⟨f.row, f.tag, s.now + s.conf.ownRank * Config.answerDelay⟩ } }
  else s

/-- The command SLOT_QUERY. -/
def execSlotQuery (sender seq : Nat) (f : SlotQueryFrame) (s : State) : Handled :=
  .next (receive s sender true fun t => hearFrame t sender seq false (planAnswer f))

/-- R184: a peer's Bay Notice; one whose codes or length do not fit is not applied. -/
def bayNoticeTaken (sender : Nat) (f : Body BayNoticeFrame) (s : State) : State :=
  match f with
  | .fields f => applyBayNotice s sender f
  | .misfit => s

/-- The command BAY_NOTICE. -/
def execBayNotice (sender seq : Nat) (f : Body BayNoticeFrame) (s : State) : Handled :=
  .next (receive s sender true fun t => hearFrame t sender seq false (bayNoticeTaken sender f))

end Sys2Proof.Machine
end

