-- ==== Sys2Proof/Machine/Port.lean ====
section
/-! DEFINITION. The Service Port (Chapter 11): the handling of a request from its completion to its response, what the
reading requests report, the failures of framing, and the reset. -/

namespace Sys2Proof.Machine

/-! ## Handling a request (R191, R192) -/

/-- What the handling of a request leaves: the state, the status of its response and what the response carries. -/
structure Reply where
  state : State
  status : Status
  result : Result

/-- A refusal changes nothing (R192). -/
def refuse (s : State) (st : Status) : Reply := ⟨s, st, .none⟩

/-- An acceptance with status OK and nothing further. -/
def accept (s : State) : Reply := ⟨s, .ok, .none⟩

/-- The request is accepted unless a status refuses it. -/
def unlessRefused (s : State) (refusal : Option Status) (accepted : State) : Reply :=
  match refusal with
  | some st => refuse s st
  | none => accept accepted

/-- R112: a well-formed request restarts the host silence timer, once a start record has been accepted. -/
def restartHostTimer (s : State) : State :=
  if s.record.isSome then { s with port := { s.port with hostTimer := some (s.now + s.conf.hostTimeout) } } else s

/-- R189, R191: a request is taken in hand; the receiver has returned to HUNT. -/
def takeInHand (s : State) (kind tag : Nat) : State :=
  { s with port := { s.port with inHand := some (kind, tag), receiver := .hunt } }

/-- R192 steps 2 to 4: the configuration, the length, and the request's own rules. `early` marks a request handled
before configuration, `unfit` is what a response to a wrong length names. -/
def replyTo {α : Type} (early : Bool) (unfit : Result) (body : Body α) (own : α → State → Reply) (s : State) : Reply :=
  if !early && s.record.isNone then refuse s .unconfigured
  else match body with
    | .misfit => ⟨s, .range, unfit⟩
    | .fields a => own a s

/-- R191: the response joins the transmitter's list. -/
def respond (kind tag : Nat) (r : Reply) : State := transmit (finish r.state) ⟨false, kind, tag, r.status, r.result⟩

/-- R191, R192: a well-formed request is complete. In RESYNC its bytes are discarded; while another is in hand it is
answered BUSY; otherwise it is handled whole. -/
def request {α : Type} (kind tag : Nat) (early : Bool) (unfit : Result) (body : Body α) (own : α → State → Reply)
    (s : State) : State :=
  if s.port.receiver = .resync then s
  else
    let s := restartHostTimer s
    if s.port.inHand.isSome then answerAtOnce s kind tag .busy .none
    else respond kind tag (replyTo early unfit body own (takeInHand s kind tag))

/-! ## What Read Status reports (R198) -/

/-- R88, R104: the effective target of a bridge move in hand, and whether the target is cut short. -/
def effectiveReport (s : State) (a : Axis) : Option (Int × Bool) :=
  match a, (s.axis a).move with
  | .bridge, some m =>
    let e := effectiveTarget s .bridge m.target m.direction
    some (e, e != m.target)
  | _, _ => none

/-- R104: what Read Status reports of one axis; the commanded position is rounded toward zero to the millimetre (R91). -/
def axisReport (s : State) (a : Axis) : AxisReport :=
  let r := s.axis a
  { state := r.state, setpoint := r.setpoint, position := s.position a, commanded := r.commanded.map (Int.tdiv · 100)
    move := r.move, lowHold := r.lowHold, highHold := r.highHold, last := r.last, effective := effectiveReport s a }

/-- R129: what Read Status reports of the weigher. -/
def weigherReport (s : State) : WeigherReport :=
  let w := s.weigher
  { load := w.load, settle := w.settle, raw := w.raw, valid := !w.sensorLost, filtered := w.filtered, net := netOf w
    tare := w.tare, samples := w.window.length, stable := stable s.conf w, sensorLost := w.sensorLost
    overrange := w.overrange, overload := w.overload, inhibit := w.overload, lost := w.lost }

/-- R79: the time left in the window of the own pending extension. -/
def pendingLeft (s : State) : Option Nat :=
  match s.claim.pending with
  | some ⟨_, _, .window _ expiry⟩ => some (timeLeft s expiry)
  | _ => none

/-- R198: Read Status. -/
def statusReport (s : State) : StatusReport :=
  { node := s.node, configured := s.record.isSome, claim := s.claim.confirmed, wanted := s.claim.wanted
    pending := s.claim.pending, pendingLeft := pendingLeft s, joinLeft := s.claim.joinWindow.map (timeLeft s)
    bridge := axisReport s .bridge, trolley := axisReport s .trolley, height := s.travel.hoist.height
    referenced := s.travel.hoist.referenced, belowClear := if s.record.isSome then some (belowClear s) else none
    reasons := s.halt.reasons, asserted := s.halt.asserted, drives := s.halt.drives, notSeen := s.halt.notSeen
    hostLeft := s.port.hostTimer.map (timeLeft s), weigher := weigherReport s, outbox := s.store.outbox.length
    freeRoom := freeRoom s, counters := s.link.counters, framing := s.port.framing, overrun := s.port.overrun
    mask := s.port.mask, pendingFlags := pendingFlags s.port }

/-! ## The other reading requests -/

/-- R196: the pending events in event number order. -/
def pendingEvents (p : Port) : List (Nat × EventRecord) := p.events.filter fun e => e.2.pending

/-- R196: the events returned are cleared, and Attention is judged again. -/
def clearReturned (s : State) : State :=
  { s with port := refreshAttention { s.port with events := s.port.events.filter fun e => !e.2.pending } }

/-- R173: Read Task. -/
def taskReport (s : State) : TaskReport :=
  let t := s.tasks
  { nest := t.nest, hookCoil := t.hookCoil, loose := t.loose, unplaced := t.unplaced, outcomes := t.outcomes
    next := numberToGive t }

/-- R150: Read Row. -/
def rowReport (s : State) (row : Nat) : RowReport :=
  let r := rowAt s row
  let q := s.store.query.bind fun q => if q.row = row then some q else none
  { known := r.known, spent := r.spent, covered := rowCovered s row, query := q
    queryLeft := (q.bind (·.expiry)).map (timeLeft s)
    slots := (rowSlots s.conf row).map fun n => ⟨n, slotAt s n, heldSlot s n⟩ }

/-- R187: Read Bay. Without a trailer there are no loads: committed and prospective loads are absent (DESIGN CHOICE,
notes/assumptions/39.md). -/
def bayReport (s : State) (bay : Nat) : BayReport :=
  let b := s.bay bay
  { state := b.state, announcer := b.announcer, unsure := b.unsure, covered := bayCovered s bay
    coverage := bayCoverage s bay, load := b.load
    cradleX := (b.load.map fun l => l.trailer.offsets.map (cradleX s.conf bay)).getD []
    loaded := loadedCount b, reserved := reservedCount b, committed := b.load.map committedLoads
    prospective := b.load.map fun l => prospectiveLoads s.conf l none }

/-- R53: what Read Peers returns of one rank. -/
def peerReportOf (s : State) (rank : Nat) : PeerReport :=
  let p := s.peer rank
  { rank := rank, presence := p.presence, releaseLeft := p.releasePending.map fun r => timeLeft s r.expiry
    lastSeq := p.lastSeq, lastReport := p.lastReport, claim := p.claim
    extension := p.extension.map fun e => { e with expiry := timeLeft s e.expiry }
    arming := p.arming.map fun a => { a with expiry := timeLeft s a.expiry } }

/-- R53: Read Peers. -/
def peersReport (s : State) : Result := .peers ((peerRanks s).map (peerReportOf s)) (s.peers.inFlight.map (·.rank))

/-! ## Failures of framing (R189, R190) -/

/-- R190: the framing-error counter increases, and the receiver takes its state after the failure. -/
def framingError (s : State) (after : Receiver) : State :=
  { s with port := { s.port with framing := countUp s.port.framing, receiver := after } }

/-- R190: a frame fails in FRAME; an ERROR answers it when its tag had arrived. Bytes in RESYNC are discarded. -/
def failFrame (s : State) (after : Receiver) (header : Option (Nat × Nat)) (reason : Result) : State :=
  if s.port.receiver = .resync then s
  else
    let s := framingError s after
    match header with
    | some (kind, tag) => answerAtOnce s kind tag .error reason
    | none => s

/-! ## Reset (R11, R113, R197, R198) -/

/-- R11: every block takes its values after reset. The inputs, the waiting commands and the model's clock are not the
node's own and stay (notes/assumptions/24.md). -/
def resetNode (s : State) : State := { State.reset with inputs := s.inputs, pending := s.pending, now := s.now }

/-- R191, R197: the last byte of the frame being sent has gone out. A response ends the request in hand, and that of an
accepted Restart resets the node. -/
def frameSent (s : State) : State :=
  match s.port.transmit with
  | [] => s
  | f :: rest =>
    if f.immediate then { s with port := { s.port with transmit := rest } }
    else if f.kind = 27 && f.status = .ok then resetNode s
    else { s with port := { s.port with transmit := rest, inHand := none } }

/-! ## Acceptance of the start record (R12) -/

/-- R99: the end-limit holds latched at acceptance. -/
def latchAtAcceptance (s : State) (a : Axis) : State :=
  s.withAxis a
    { s.axis a with
      lowHold := (s.axis a).lowHold || limitActive s.conf s.inputs a .low
      highHold := (s.axis a).highHold || limitActive s.conf s.inputs a .high }

/-- R13: the listen window starts. -/
def startListening (s : State) : State :=
  enterNode { s with listen := some (s.now + silenceTimeoutOf s.conf) } .listening

/-- R12, R99, R107, R114: the node takes up an accepted start record. -/
def takeUpRecord (s : State) (c : StartRecord) : State :=
  let s := { s with record := some c }
  let s := withWeigher s (armWeigher s)
  let s := latchAtAcceptance (latchAtAcceptance s .bridge) .trolley
  startListening (restartHostTimer s)

end Sys2Proof.Machine
end

