-- ==== Sys2Proof/Machine/Requests.lean ====
section
/-! DEFINITION. The commands of the Service Port: the requests of section 11.3 in the order of their codes, and the
events of the port's line. Each request is handled whole (R191). -/

namespace Sys2Proof.Machine

/-! ## The port itself -/

/-- The command POWER_ON: R11. -/
def execPowerOn (s : State) : Handled := .next (resetNode s)

/-- R8: Configure. -/
def handleConfigure (c : StartRecord) (s : State) : Reply :=
  if s.node != .unconfigured then refuse s .locked
  else match startRecordFailure c with
    | some n => ⟨s, .range, .field n⟩
    | none => accept (takeUpRecord s c)

/-- The command CONFIGURE. -/
def execConfigure (tag : Nat) (body : Body StartRecord) (s : State) : Handled :=
  .next (request 1 tag true (.field 0) body handleConfigure s)

/-- R198: Read Status. -/
def handleReadStatus (_ : Unit) (s : State) : Reply := ⟨s, .ok, .status (statusReport s)⟩

/-- The command READ_STATUS. -/
def execReadStatus (tag : Nat) (body : Body Unit) (s : State) : Handled :=
  .next (request 2 tag true .none body handleReadStatus s)

/-- R196: Read Events. -/
def handleReadEvents (_ : Unit) (s : State) : Reply := ⟨clearReturned s, .ok, .events (pendingEvents s.port)⟩

/-- The command READ_EVENTS. -/
def execReadEvents (tag : Nat) (body : Body Unit) (s : State) : Handled :=
  .next (request 3 tag true .none body handleReadEvents s)

/-- R195: Set Event Mask. -/
def handleSetEventMask (m : BitVec 16) (s : State) : Reply :=
  ⟨{ s with port := refreshAttention { s.port with mask := m } }, .ok, .mask m (pendingFlags s.port)⟩

/-- The command SET_EVENT_MASK. -/
def execSetEventMask (tag : Nat) (body : Body (BitVec 16)) (s : State) : Handled :=
  .next (request 4 tag false .none body handleSetEventMask s)

/-! ## Travel requests -/

/-- R81 to R83: Move. -/
def handleMove (q : MoveRequest) (s : State) : Reply :=
  match moveRefusal s q with
  | some st => refuse s st
  | none => ⟨acceptMove s q, if clampsTarget s.conf q then .clamped else .ok, .none⟩

/-- The command MOVE. -/
def execMove (tag : Nat) (body : Body MoveRequest) (s : State) : Handled :=
  .next (request 5 tag false .none body handleMove s)

/-- R84: Go To is a Move of both axes to the point its place resolves to. -/
def handleGoTo (q : GoToRequest) (s : State) : Reply :=
  match resolvePlace s q.place with
  | .error st => refuse s st
  | .ok p => handleMove ⟨some ⟨p.x, q.bridgeSpeed⟩, some ⟨p.y, q.trolleySpeed⟩⟩ s

/-- The command GO_TO. -/
def execGoTo (tag : Nat) (body : Body GoToRequest) (s : State) : Handled :=
  .next (request 6 tag false .none body handleGoTo s)

/-- R85: Set Speed. -/
def handleSetSpeed (q : SpeedRequest) (s : State) : Reply :=
  if speedRefused s q then refuse s .state
  else accept ((namedSpeeds q).foldl (fun t n => setAxisSpeed t n.1 n.2) s)

/-- The command SET_SPEED. -/
def execSetSpeed (tag : Nat) (body : Body SpeedRequest) (s : State) : Handled :=
  .next (request 7 tag false .none body handleSetSpeed s)

/-- R86: Stop Move. -/
def handleStopMove (q : AxesRequest) (s : State) : Reply :=
  let s := if q.bridge then stopMoveAxis s .bridge else s
  accept (if q.trolley then stopMoveAxis s .trolley else s)

/-- The command STOP_MOVE. -/
def execStopMove (tag : Nat) (body : Body AxesRequest) (s : State) : Handled :=
  .next (request 8 tag false .none body handleStopMove s)

/-! ## Weighing -/

/-- R120: Tare. -/
def handleTare (_ : Unit) (s : State) : Reply :=
  match tareValue s with
  | none => refuse s .state
  | some v => ⟨withWeigher s { s.weigher with tare := v, tared := true }, .ok, .tare v⟩

/-- The command TARE. -/
def execTare (tag : Nat) (body : Body Unit) (s : State) : Handled :=
  .next (request 9 tag false .none body handleTare s)

/-! ## Tasks -/

/-- R154 to R157: Begin Task. -/
def handleBeginTask (q : BeginRequest) (s : State) : Reply :=
  match beginRefusal s q with
  | some (st, r) => ⟨s, st, r⟩
  | none => ⟨beginTheTask s q, .ok, .begun (numberToGive s.tasks) (s.tasks.nest.length + 1)⟩

/-- The command BEGIN_TASK. -/
def execBeginTask (tag : Nat) (body : Body BeginRequest) (s : State) : Handled :=
  .next (request 10 tag false .none body handleBeginTask s)

/-- R167: Abort Task. -/
def handleAbortTask (number : Nat) (s : State) : Reply :=
  match depthOf s.tasks.nest number with
  | none => refuse s .notFound
  | some d => ⟨abortNest s .host number d .none id, .ok, .unwound s.tasks.nest.length⟩

/-- The command ABORT_TASK. -/
def execAbortTask (tag : Nat) (body : Body Nat) (s : State) : Handled :=
  .next (request 11 tag false .none body handleAbortTask s)

/-- R173: Read Task. -/
def handleReadTask (_ : Unit) (s : State) : Reply := ⟨s, .ok, .task (taskReport s)⟩

/-- The command READ_TASK. -/
def execReadTask (tag : Nat) (body : Body Unit) (s : State) : Handled :=
  .next (request 12 tag true .none body handleReadTask s)

/-! ## The store -/

/-- R150: Read Row. -/
def handleReadRow (row : Nat) (s : State) : Reply :=
  if s.record.isNone || s.conf.rows ≤ row then refuse s .range else ⟨s, .ok, .row (rowReport s row)⟩

/-- The command READ_ROW. -/
def execReadRow (tag : Nat) (body : Body Nat) (s : State) : Handled :=
  .next (request 13 tag true .none body handleReadRow s)

/-- R147, R148: Survey Row. -/
def handleSurveyRow (q : SurveyRequest) (s : State) : Reply := unlessRefused s (surveyRefusal s q) (applySurvey s q)

/-- The command SURVEY_ROW. -/
def execSurveyRow (tag : Nat) (body : Body SurveyRequest) (s : State) : Handled :=
  .next (request 14 tag false .none body handleSurveyRow s)

/-- R149: Block Slot. -/
def handleBlockSlot (n : Nat) (s : State) : Reply :=
  unlessRefused s (blockRefusal s n .free) (joinOutbox (changeSlot s n .blocked) ⟨n, .blocked⟩)

/-- The command BLOCK_SLOT. -/
def execBlockSlot (tag : Nat) (body : Body Nat) (s : State) : Handled :=
  .next (request 15 tag false .none body handleBlockSlot s)

/-- R149: Unblock Slot. -/
def handleUnblockSlot (n : Nat) (s : State) : Reply :=
  unlessRefused s (blockRefusal s n .blocked) (joinOutbox (changeSlot s n .free) ⟨n, .free⟩)

/-- The command UNBLOCK_SLOT. -/
def execUnblockSlot (tag : Nat) (body : Body Nat) (s : State) : Handled :=
  .next (request 16 tag false .none body handleUnblockSlot s)

/-! ## The bays -/

/-- R175, R176: Dock Truck. -/
def handleDockTruck (q : DockRequest) (s : State) : Reply := unlessRefused s (dockRefusal s q) (dock s q)

/-- The command DOCK_TRUCK. -/
def execDockTruck (tag : Nat) (body : Body DockRequest) (s : State) : Handled :=
  .next (request 17 tag false .none body handleDockTruck s)

/-- R177: Close Bay. -/
def handleCloseBay (bay : Nat) (s : State) : Reply := unlessRefused s (closeRefusal s bay) (closeTheBay s bay)

/-- The command CLOSE_BAY. -/
def execCloseBay (tag : Nat) (body : Body Nat) (s : State) : Handled :=
  .next (request 18 tag false .none body handleCloseBay s)

/-- R178: Undock. -/
def handleUndock (bay : Nat) (s : State) : Reply := unlessRefused s (undockRefusal s bay) (undockTheBay s bay)

/-- The command UNDOCK. -/
def execUndock (tag : Nat) (body : Body Nat) (s : State) : Handled :=
  .next (request 19 tag false .none body handleUndock s)

/-- R187: Read Bay. -/
def handleReadBay (bay : Nat) (s : State) : Reply :=
  if s.record.isNone || s.conf.bayCount ≤ bay then refuse s .range else ⟨s, .ok, .bay (bayReport s bay)⟩

/-- The command READ_BAY. -/
def execReadBay (tag : Nat) (body : Body Nat) (s : State) : Handled :=
  .next (request 20 tag true .none body handleReadBay s)

/-! ## Peers and the claim -/

/-- R53: Read Peers. -/
def handleReadPeers (_ : Unit) (s : State) : Reply := ⟨s, .ok, peersReport s⟩

/-- The command READ_PEERS. -/
def execReadPeers (tag : Nat) (body : Body Unit) (s : State) : Handled :=
  .next (request 21 tag true .none body handleReadPeers s)

/-- R47, R48: a rank that names no peer. -/
def noPeer (c : StartRecord) (rank : Nat) : Bool := rank == 0 || c.craneCount < rank || rank == c.ownRank

/-- R47: the status with which a Prepare Release is refused. -/
def prepareRefusal (s : State) (q : PrepareRequest) : Option Status :=
  let p := s.peer q.rank
  if noPeer s.conf q.rank then some .range
  else if s.node != .active then some .state
  else if p.presence != .stale || p.releasePending.isSome || p.lastSeq != some q.lastSeq then some .state
  else none

/-- R47: Prepare Release. -/
def handlePrepareRelease (q : PrepareRequest) (s : State) : Reply :=
  unlessRefused s (prepareRefusal s q)
    (s.mapPeer q.rank fun p => { p with arming := some ⟨q.lastSeq, s.now + Config.armingTime⟩ })

/-- The command PREPARE_RELEASE. -/
def execPrepareRelease (tag : Nat) (body : Body PrepareRequest) (s : State) : Handled :=
  .next (request 22 tag false .none body handlePrepareRelease s)

/-- R48: the status with which a Confirm Release is refused. -/
def confirmRefusal (s : State) (rank : Nat) : Option Status :=
  let p := s.peer rank
  if noPeer s.conf rank then some .range
  else if s.node != .active || p.arming.isNone || p.presence != .stale || p.releasePending.isSome
    || s.peers.inFlight.isSome then some .state
  else none

/-- R48: an accepted Confirm Release. -/
def confirmTheRelease (s : State) (rank : Nat) : State :=
  let seq := ((s.peer rank).arming.map (·.seq)).getD 0
  let s := offer (s.mapPeer rank fun p => { p with arming := none }) (.release ⟨rank, seq⟩)
  { s with peers := { s.peers with inFlight := some ⟨rank, false⟩ } }

/-- R48: Confirm Release. -/
def handleConfirmRelease (rank : Nat) (s : State) : Reply :=
  unlessRefused s (confirmRefusal s rank) (confirmTheRelease s rank)

/-- The command CONFIRM_RELEASE. -/
def execConfirmRelease (tag : Nat) (body : Body Nat) (s : State) : Handled :=
  .next (request 23 tag false .none body handleConfirmRelease s)

/-- R78: the axis stands, HOLDING or PARKED. -/
def stands (r : AxisRecord) : Bool := r.state == .holding || r.state == .parked

/-- R78: a Rejoin is accepted. -/
def mayRejoin (s : State) : Bool :=
  s.node == .joinBlocked || (s.node == .voided && stands s.travel.bridge && stands s.travel.trolley)

/-- R30, R49, R78: an accepted Rejoin. -/
def rejoinNode (s : State) : State :=
  let s := withClaim (clearReason s .void) ClaimRecord.reset
  let s := withdraw s fun _ => true
  let s := if s.peers.inFlight.any (!·.taken) then endFlight s .withdrawn none else s
  startListening s

/-- R78: Rejoin. -/
def handleRejoin (_ : Unit) (s : State) : Reply := if mayRejoin s then accept (rejoinNode s) else refuse s .state

/-- The command REJOIN. -/
def execRejoin (tag : Nat) (body : Body Unit) (s : State) : Handled :=
  .next (request 24 tag false .none body handleRejoin s)

/-! ## The halt and Restart -/

/-- R110: Halt. -/
def handleHalt (_ : Unit) (s : State) : Reply := accept (setReason s .host)

/-- The command HALT. -/
def execHalt (tag : Nat) (body : Body Unit) (s : State) : Handled :=
  .next (request 25 tag false .none body handleHalt s)

/-- R111: Clear Halt. -/
def handleClearHalt (_ : Unit) (s : State) : Reply :=
  let s := clearHalts s
  ⟨s, .ok, .halts s.halt.reasons s.halt.asserted⟩

/-- The command CLEAR_HALT. -/
def execClearHalt (tag : Nat) (body : Body Unit) (s : State) : Handled :=
  .next (request 26 tag false .none body handleClearHalt s)

/-- R197: Restart is answered OK; the reset follows its response (RESPONSE_SENT). -/
def handleRestart (_ : Unit) (s : State) : Reply := accept s

/-- The command RESTART. -/
def execRestart (tag : Nat) (body : Body Unit) (s : State) : Handled :=
  .next (request 27 tag true .none body handleRestart s)

/-! ## Other frames and the line of the port -/

/-- R192 step 1: a kind outside 1..27. -/
def handleUnknown (_ : Unit) (s : State) : Reply := refuse s .unknown

/-- The command UNKNOWN_REQUEST. -/
def execUnknownRequest (kind tag : Nat) (s : State) : Handled :=
  .next (request kind tag true .none (.fields ()) handleUnknown s)

/-- The command IMPOSSIBLE_LENGTH: R190. -/
def execImpossibleLength (s : State) : Handled := .next (failFrame s .resync none .none)

/-- The command INCOMPLETE: R190; `header` holds kind and tag when the tag byte had arrived. -/
def execIncomplete (header : Option (Nat × Nat)) (s : State) : Handled := .next (failFrame s .hunt header .incomplete)

/-- The command BAD_CHECK: R190. -/
def execBadCheck (kind tag : Nat) (s : State) : Handled := .next (failFrame s .hunt (some (kind, tag)) .badCheck)

/-- The command RESYNC_SILENCE: R189. -/
def execResyncSilence (s : State) : Handled :=
  .next (if s.port.receiver = .resync then { s with port := { s.port with receiver := .hunt } } else s)

/-- The command BUSY: R191, a well-formed request completes while another is in hand. -/
def execBusy (kind tag : Nat) (s : State) : Handled :=
  .next (if s.port.receiver = .resync || s.port.inHand.isNone then s
    else answerAtOnce (restartHostTimer s) kind tag .busy .none)

/-- The command RESPONSE_SENT: R191, R197. -/
def execResponseSent (s : State) : Handled := .next (frameSent s)

end Sys2Proof.Machine
end

