-- ==== Sys2Proof/Machine/Timers.lean ====
section
/-! DEFINITION. The commands that are expiries of the node's timers. An expiry takes place only while its timer runs; the
clock then stands at the timer's deadline or later (notes/assumptions/2.md). -/

namespace Sys2Proof.Machine

/-- The expiry of a timer: nothing happens while the timer is stopped. -/
def expire (deadline : Option Nat) (act : State → State) (s : State) : State :=
  match deadline with
  | none => s
  | some d => finish (act (elapse s d))

/-! ## Host, listen window and link -/

/-- R112: the host silence timer expires and stays stopped. -/
def hostSilent (s : State) : State := setReason { s with port := { s.port with hostTimer := none } } .hostLost

/-- The command HOST_SILENCE_EXPIRY. -/
def execHostSilenceExpiry (s : State) : Handled := .next (expire s.port.hostTimer hostSilent s)

/-- The command LISTEN_WINDOW_END: R14. -/
def execListenWindowEnd (s : State) : Handled := .next (expire s.listen endListening s)

/-- R31: the report timer queues a Position Report and starts again. -/
def reportDue (s : State) : State :=
  offer { s with link := { s.link with reportTimer := some (s.now + s.conf.reportInterval) } } .report

/-- The command REPORT_TIMER_EXPIRY. -/
def execReportTimerExpiry (s : State) : Handled := .next (expire s.link.reportTimer reportDue s)

/-! ## Peer Table -/

/-- The command SILENCE_TIMEOUT: R41. -/
def execSilenceTimeout (rank : Nat) (s : State) : Handled :=
  .next (expire (s.peer rank).silence (fun t => silencePeer t rank) s)

/-- R46: the isolation timer expires in ACTIVE. -/
def isolationDue (s : State) : State :=
  let s := { s with peers := { s.peers with isolation := none } }
  if s.node = .active then isolateNode s else s

/-- The command ISOLATION_TIMEOUT. -/
def execIsolationTimeout (s : State) : Handled := .next (expire s.peers.isolation isolationDue s)

/-- R47: an arming expires. -/
def armingDue (rank : Nat) (s : State) : State := s.mapPeer rank fun p => { p with arming := none }

/-- The command ARMING_EXPIRY. -/
def execArmingExpiry (rank : Nat) (s : State) : Handled :=
  .next (expire ((s.peer rank).arming.map (·.expiry)) (armingDue rank) s)

/-- The command RELEASE_WINDOW_EXPIRY: R51. -/
def execReleaseWindowExpiry (rank : Nat) (s : State) : Handled :=
  .next (expire ((s.peer rank).releasePending.map (·.expiry)) (fun t => releasePeer t rank) s)

/-! ## Claim Controller -/

/-- R70: the join window completes the own Join in JOINING. -/
def joinDue (s : State) : State :=
  if s.node = .joining then completeJoin s else withClaim s { s.claim with joinWindow := none }

/-- The command JOIN_WINDOW_EXPIRY. -/
def execJoinWindowExpiry (s : State) : Handled := .next (expire s.claim.joinWindow joinDue s)

/-- R70: the expiry of the own extension's window, while it is in phase WINDOW. -/
def extensionDeadline (s : State) : Option Nat :=
  match s.claim.pending with
  | some ⟨_, _, .window _ expiry⟩ => some expiry
  | _ => none

/-- R70: the own extension completes. -/
def extensionDue (s : State) : State :=
  match s.claim.pending, s.claim.confirmed with
  | some p, some k => confirmExtension s p k
  | _, _ => s

/-- The command EXTENSION_WINDOW_EXPIRY. -/
def execExtensionWindowExpiry (s : State) : Handled := .next (expire (extensionDeadline s) extensionDue s)

/-- R62: a peer's join window is cleared; a claim recorded stays. -/
def peerJoinDue (rank : Nat) (s : State) : State := retest (s.mapPeer rank fun p => { p with joinWindow := none })

/-- The command PEER_JOIN_WINDOW_EXPIRY. -/
def execPeerJoinWindowExpiry (rank : Nat) (s : State) : Handled :=
  .next (expire ((s.peer rank).joinWindow.map (·.expiry)) (peerJoinDue rank) s)

/-- R64: the retry timer makes an extension attempt. -/
def retryDue (s : State) : State := extensionAttempt (withClaim s { s.claim with retry := none })

/-- The command RETRY_TIMER_EXPIRY. -/
def execRetryTimerExpiry (s : State) : Handled := .next (expire s.claim.retry retryDue s)

/-- R73: the shrink timer makes a shrink if no bridge move is in hand. -/
def shrinkDue (s : State) : State := shrinkIfIdle (withClaim s { s.claim with shrink := none })

/-- The command SHRINK_TIMER_EXPIRY. -/
def execShrinkTimerExpiry (s : State) : Handled := .next (expire s.claim.shrink shrinkDue s)

/-! ## Store Map -/

/-- R144: an open query ends unanswered. -/
def queryUnanswered (q : OpenQuery) (s : State) : State :=
  let s := putRow s q.row { rowAt s q.row with spent := true }
  scanLater (suspect (closeQuery s) .unanswered (some q.row) 0 none)

/-- R144: the expiry of the open query, with its row UNKNOWN. -/
def queryDue (s : State) : State :=
  match s.store.query with
  | some q => queryUnanswered q s
  | none => s

/-- The command QUERY_EXPIRY. -/
def execQueryExpiry (s : State) : Handled := .next (expire (s.store.query.bind (·.expiry)) queryDue s)

/-- R145, R146: the answer plan falls due. -/
def planDue (s : State) : State :=
  match s.store.plan with
  | some p => placeAnswers { s with store := { s.store with plan := none } } p.row p.tag
  | none => s

/-- The command ANSWER_PLAN_DUE. -/
def execAnswerPlanDue (s : State) : Handled := .next (expire (s.store.plan.map (·.due)) planDue s)

/-! ## Travel Profiler -/

/-- R86: the brake settle time is over; an invalid position input gives a commanded position of 0. -/
def brakeDue (a : Axis) (s : State) : State :=
  enterMoving (s.withAxis a { s.axis a with commanded := some (((s.position a).map (100 * ·)).getD 0) }) a

/-- The command BRAKE_SETTLE_EXPIRY. -/
def execBrakeSettleExpiry (a : Axis) (s : State) : Handled := .next (expire (s.axis a).brakeTimer (brakeDue a) s)

/-- The command PARK_TIMER_EXPIRY: R87. -/
def execParkTimerExpiry (a : Axis) (s : State) : Handled :=
  .next (expire (s.axis a).parkTimer (fun t => enterParked t a) s)

/-- R89: a profile period; the profile timer starts again. -/
def periodDue (a : Axis) (s : State) : State :=
  profileAxis (s.withAxis a { s.axis a with profileTimer := some (s.now + Config.profilePeriod) }) a

/-- The command PROFILE_PERIOD. -/
def execProfilePeriod (a : Axis) (s : State) : Handled := .next (expire (s.axis a).profileTimer (periodDue a) s)

/-- R92: which of the two times the settle timer reaches first, from the times as the last profile period left them: the
in-window time, which grows where that period found the axis in position, or the settling time; both together end the move
DONE (notes/assumptions/8.md). -/
def settleOutcome (p : AxisParams) (t : SettleTimes) : MoveOutcome :=
  if 0 < t.inWindow && p.settleTime - t.inWindow ≤ Config.settlingLimit - t.settling then .done else .notInPosition

/-- R92: the settle timer ends the move. -/
def settleDue (a : Axis) (s : State) : State :=
  match (s.axis a).state, (s.axis a).settle with
  | .settling, some t => endMove (enterHolding s a) a (settleOutcome (axisParams s.conf a) t)
  | _, _ => s

/-- The command SETTLE_TIMER_EXPIRY. -/
def execSettleTimerExpiry (a : Axis) (s : State) : Handled := .next (finish (settleDue a s))

/-- R94: the wait timer ends a bridge move in WAITING. -/
def waitDue (s : State) : State :=
  if s.travel.bridge.state = .waiting then endMove (enterHolding s .bridge) .bridge .blocked else s

/-- The command WAIT_TIMEOUT. -/
def execWaitTimeout (s : State) : Handled := .next (expire s.travel.bridge.waitTimer waitDue s)

/-! ## Hook Weigher -/

/-- The command SAMPLE_TIMER_EXPIRY: R116. -/
def execSampleTimerExpiry (s : State) : Handled := .next (expire s.weigher.timer loseSensor s)

end Sys2Proof.Machine
end

