-- ==== Sys2Proof/Machine/Inputs.lean ====
section
/-! DEFINITION. The commands that are changes of the node's field inputs. The level is kept in every node state; a rule
acts on it once the start record has fixed its polarity. -/

namespace Sys2Proof.Machine

/-- The input pins replaced. -/
def withInputs (s : State) (i : Inputs) : State := { s with inputs := i }

/-! ## Position -/

/-- R98: in FAULT the commanded position follows a valid position input. -/
def followInFault (a : Axis) (x : Int) (s : State) : State :=
  if (s.axis a).state = .fault then s.withAxis a { s.axis a with commanded := some (100 * x) } else s

/-- The position input of an axis changes. -/
def changePosition (a : Axis) (x : Option Int) (s : State) : State :=
  let s := withInputs s (s.inputs.withAxis a { s.inputs.axis a with position := x })
  match x with
  | some x => followInFault a x s
  | none => s

/-- The command POSITION_INPUT_CHANGE. -/
def execPositionInputChange (a : Axis) (x : Option Int) (s : State) : Handled := .next (changePosition a x s)

/-! ## Slowdown and end-limit inputs -/

/-- The pins of an axis with a slowdown level replaced. -/
def AxisInputs.withSlow (i : AxisInputs) (d : Side) (level : Bool) : AxisInputs :=
  match d with
  | .low => { i with slowLow := level }
  | .high => { i with slowHigh := level }

/-- The pins of an axis with an end-limit level replaced. -/
def AxisInputs.withLimit (i : AxisInputs) (d : Side) (level : Bool) : AxisInputs :=
  match d with
  | .low => { i with limitLow := level }
  | .high => { i with limitHigh := level }

/-- R90: the cut of a slowdown edge, in MOVING and in STOPPING. -/
def cutSpeed (a : Axis) (d : Side) (s : State) : State :=
  let r := s.axis a
  if r.state = .moving || r.state = .stopping then s.withAxis a (slowCut (axisParams s.conf a).creepSpeed r d) else s

/-- R90: a slowdown input changes to a level. -/
def changeSlow (a : Axis) (d : Side) (level : Bool) (s : State) : State :=
  let s := withInputs s (s.inputs.withAxis a ((s.inputs.axis a).withSlow d level))
  if s.record.isSome && slowActive s a d then cutSpeed a d s else s

/-- The command SLOWDOWN_EDGE. -/
def execSlowdownEdge (a : Axis) (d : Side) (level : Bool) (s : State) : Handled := .next (changeSlow a d level s)

/-- R99, R100: an end-limit input changes to a level. -/
def changeLimit (a : Axis) (d : Side) (level : Bool) (s : State) : State :=
  let s := withInputs s (s.inputs.withAxis a ((s.inputs.axis a).withLimit d level))
  if s.record.isSome && limitActive s.conf s.inputs a d then finish (endLimitEdge s a d) else s

/-- The command END_LIMIT_EDGE. -/
def execEndLimitEdge (a : Axis) (d : Side) (level : Bool) (s : State) : Handled := .next (changeLimit a d level s)

/-! ## The hoist -/

/-- The hoist tracker replaced, with low-hook travel judged again (R101, R102). -/
def withHoist (s : State) (h : Hoist) : State := lowHookEdge s { s with travel := { s.travel with hoist := h } }

/-- R101: one count of the hoist encoder. -/
def countHoist (up : Bool) (s : State) : State :=
  if s.record.isSome then
    let h := s.travel.hoist
    finish (withHoist s { h with height := if up then h.height + 1 else h.height - 1 })
  else s

/-- The command HOIST_COUNT. -/
def execHoistCount (up : Bool) (s : State) : Handled := .next (countHoist up s)

/-- R3: the top-reference input changes to a level; its place among the polarities is 9. -/
def changeTopReference (level : Bool) (s : State) : State :=
  let s := withInputs s { s.inputs with topReference := level }
  if s.record.isSome && activeLevel s.conf 9 level then finish (withHoist s ⟨s.conf.hoistTop, true⟩) else s

/-- The command TOP_REFERENCE_EDGE. -/
def execTopReferenceEdge (level : Bool) (s : State) : Handled := .next (changeTopReference level s)

/-! ## The Halt Line -/

/-- R107: the level of the Halt Line changes. -/
def changeHaltLine (asserted : Bool) (s : State) : State :=
  finish (refreshLine (withInputs s { s.inputs with haltLine := asserted }))

/-- The command HALT_LINE_LEVEL_CHANGE. -/
def execHaltLineLevelChange (asserted : Bool) (s : State) : Handled := .next (changeHaltLine asserted s)

/-! ## The converter -/

/-- R115: the data-ready input changes to a level. -/
def changeDataReady (level : Bool) (s : State) : State :=
  let s := withInputs s { s.inputs with dataReady := level }
  if s.record.isSome && dataReadyActive s.conf level then withWeigher s (dataReady s.weigher) else s

/-- The command DATA_READY_EDGE. -/
def execDataReadyEdge (level : Bool) (s : State) : Handled := .next (changeDataReady level s)

/-- R115, R117: byte 3 completes, which is the sample event. -/
def completeSample (b : Byte) (s : State) : State :=
  match s.weigher.converter with
  | .byte3 b1 b2 => finish (takeSample s (rawCount b1 b2 b))
  | .idle | .armed | .byte1 | .byte2 _ => s

/-- The command SAMPLE. -/
def execSample (b : Byte) (s : State) : Handled := .next (completeSample b s)

/-- The command CONVERTER_BYTE_COMPLETE: R115. -/
def execConverterByteComplete (b : Byte) (s : State) : Handled := .next (withWeigher s (keepByte s.weigher b))

end Sys2Proof.Machine
end

