-- ==== Sys2Proof/Machine/Dispatch.lean ====
section
/-! DEFINITION. The dispatch: one arm for each command, each one direct call of its meaning. -/

namespace Sys2Proof.Machine

def exec (i : Instr) (s : State) : Host.Outcome State Fault Refusal :=
  match i with
  | .powerOn => Sys2Proof.Machine.execPowerOn s
  | .configure tag body => Sys2Proof.Machine.execConfigure tag body s
  | .readStatus tag body => Sys2Proof.Machine.execReadStatus tag body s
  | .readEvents tag body => Sys2Proof.Machine.execReadEvents tag body s
  | .setEventMask tag body => Sys2Proof.Machine.execSetEventMask tag body s
  | .move tag body => Sys2Proof.Machine.execMove tag body s
  | .goTo tag body => Sys2Proof.Machine.execGoTo tag body s
  | .setSpeed tag body => Sys2Proof.Machine.execSetSpeed tag body s
  | .stopMove tag body => Sys2Proof.Machine.execStopMove tag body s
  | .tare tag body => Sys2Proof.Machine.execTare tag body s
  | .beginTask tag body => Sys2Proof.Machine.execBeginTask tag body s
  | .abortTask tag body => Sys2Proof.Machine.execAbortTask tag body s
  | .readTask tag body => Sys2Proof.Machine.execReadTask tag body s
  | .readRow tag body => Sys2Proof.Machine.execReadRow tag body s
  | .surveyRow tag body => Sys2Proof.Machine.execSurveyRow tag body s
  | .blockSlot tag body => Sys2Proof.Machine.execBlockSlot tag body s
  | .unblockSlot tag body => Sys2Proof.Machine.execUnblockSlot tag body s
  | .dockTruck tag body => Sys2Proof.Machine.execDockTruck tag body s
  | .closeBay tag body => Sys2Proof.Machine.execCloseBay tag body s
  | .undock tag body => Sys2Proof.Machine.execUndock tag body s
  | .readBay tag body => Sys2Proof.Machine.execReadBay tag body s
  | .readPeers tag body => Sys2Proof.Machine.execReadPeers tag body s
  | .prepareRelease tag body => Sys2Proof.Machine.execPrepareRelease tag body s
  | .confirmRelease tag body => Sys2Proof.Machine.execConfirmRelease tag body s
  | .rejoin tag body => Sys2Proof.Machine.execRejoin tag body s
  | .halt tag body => Sys2Proof.Machine.execHalt tag body s
  | .clearHalt tag body => Sys2Proof.Machine.execClearHalt tag body s
  | .restart tag body => Sys2Proof.Machine.execRestart tag body s
  | .unknownRequest kind tag => Sys2Proof.Machine.execUnknownRequest kind tag s
  | .impossibleLength => Sys2Proof.Machine.execImpossibleLength s
  | .incomplete header => Sys2Proof.Machine.execIncomplete header s
  | .badCheck kind tag => Sys2Proof.Machine.execBadCheck kind tag s
  | .resyncSilence => Sys2Proof.Machine.execResyncSilence s
  | .busy kind tag => Sys2Proof.Machine.execBusy kind tag s
  | .responseSent => Sys2Proof.Machine.execResponseSent s
  | .hostSilenceExpiry => Sys2Proof.Machine.execHostSilenceExpiry s
  | .attempt => Sys2Proof.Machine.execAttempt s
  | .contentionLoss => Sys2Proof.Machine.execContentionLoss s
  | .taken => Sys2Proof.Machine.execTaken s
  | .checkError cause => Sys2Proof.Machine.execCheckError cause s
  | .positionReport sender seq f => Sys2Proof.Machine.execPositionReport sender seq f s
  | .join sender seq f => Sys2Proof.Machine.execJoin sender seq f s
  | .extend sender seq f => Sys2Proof.Machine.execExtend sender seq f s
  | .objection sender seq f => Sys2Proof.Machine.execObjection sender seq f s
  | .release sender seq f => Sys2Proof.Machine.execRelease sender seq f s
  | .makeWay sender seq f => Sys2Proof.Machine.execMakeWay sender seq f s
  | .storeNotice sender seq f => Sys2Proof.Machine.execStoreNotice sender seq f s
  | .slotQuery sender seq f => Sys2Proof.Machine.execSlotQuery sender seq f s
  | .bayNotice sender seq f => Sys2Proof.Machine.execBayNotice sender seq f s
  | .listenWindowEnd => Sys2Proof.Machine.execListenWindowEnd s
  | .reportTimerExpiry => Sys2Proof.Machine.execReportTimerExpiry s
  | .silenceTimeout rank => Sys2Proof.Machine.execSilenceTimeout rank s
  | .isolationTimeout => Sys2Proof.Machine.execIsolationTimeout s
  | .armingExpiry rank => Sys2Proof.Machine.execArmingExpiry rank s
  | .releaseWindowExpiry rank => Sys2Proof.Machine.execReleaseWindowExpiry rank s
  | .joinWindowExpiry => Sys2Proof.Machine.execJoinWindowExpiry s
  | .extensionWindowExpiry => Sys2Proof.Machine.execExtensionWindowExpiry s
  | .peerJoinWindowExpiry rank => Sys2Proof.Machine.execPeerJoinWindowExpiry rank s
  | .retryTimerExpiry => Sys2Proof.Machine.execRetryTimerExpiry s
  | .shrinkTimerExpiry => Sys2Proof.Machine.execShrinkTimerExpiry s
  | .queryExpiry => Sys2Proof.Machine.execQueryExpiry s
  | .answerPlanDue => Sys2Proof.Machine.execAnswerPlanDue s
  | .brakeSettleExpiry axis => Sys2Proof.Machine.execBrakeSettleExpiry axis s
  | .parkTimerExpiry axis => Sys2Proof.Machine.execParkTimerExpiry axis s
  | .profilePeriod axis => Sys2Proof.Machine.execProfilePeriod axis s
  | .settleTimerExpiry axis => Sys2Proof.Machine.execSettleTimerExpiry axis s
  | .waitTimeout => Sys2Proof.Machine.execWaitTimeout s
  | .positionInputChange axis position => Sys2Proof.Machine.execPositionInputChange axis position s
  | .slowdownEdge axis side level => Sys2Proof.Machine.execSlowdownEdge axis side level s
  | .endLimitEdge axis side level => Sys2Proof.Machine.execEndLimitEdge axis side level s
  | .hoistCount up => Sys2Proof.Machine.execHoistCount up s
  | .topReferenceEdge level => Sys2Proof.Machine.execTopReferenceEdge level s
  | .haltLineLevelChange asserted => Sys2Proof.Machine.execHaltLineLevelChange asserted s
  | .dataReadyEdge level => Sys2Proof.Machine.execDataReadyEdge level s
  | .sample byte => Sys2Proof.Machine.execSample byte s
  | .sampleTimerExpiry => Sys2Proof.Machine.execSampleTimerExpiry s
  | .converterByteComplete byte => Sys2Proof.Machine.execConverterByteComplete byte s

end Sys2Proof.Machine
end

