-- ==== Sys2Proof/Machine/Bytes.lean ====
section
/-! DEFINITION. Bytes on the two lines: fields sent most significant byte first, and the check of both lines' frames. -/

namespace Sys2Proof.Machine

/-- The low n bytes of a number, most significant first. -/
def beBytes : Nat → Nat → List Byte
  | 0, _ => []
  | n + 1, x => BitVec.ofNat 8 (x / 256 ^ n) :: beBytes n x

/-- A number of n bytes, most significant first, after `acc`; and the bytes that follow it. -/
def takeNumber : Nat → Nat → List Byte → Option (Nat × List Byte)
  | 0, acc, bs => some (acc, bs)
  | _ + 1, _, [] => none
  | n + 1, acc, b :: bs => takeNumber n (acc * 256 + b.toNat) bs

/-- An unsigned field of n bytes. -/
def takeU (n : Nat) (bs : List Byte) : Option (Nat × List Byte) := takeNumber n 0 bs

/-- A two's complement field of n bytes (sections 2.3 and 11.1). -/
def takeS (n : Nat) (bs : List Byte) : Option (Int × List Byte) :=
  (takeU n bs).map fun (u, rest) => (if u < 256 ^ n / 2 then (u : Int) else (u : Int) - 256 ^ n, rest)

/-- What is parsed, when it takes all the bytes. -/
def whole {α : Type} (o : Option (α × List Byte)) : Option α :=
  match o with
  | some (a, []) => some a
  | _ => none

/-- A field of n bytes for a value in low..high; a value outside it is sent as free bytes (notes/assumptions/13.md). -/
def fieldBytes (n : Nat) (low high x : Int) : List Byte :=
  if low ≤ x && x ≤ high then beBytes n (x % 256 ^ n).toNat else (List.range n).map (Config.fieldByte x)

/-- An unsigned field of n bytes. -/
def uBytes (n : Nat) (x : Int) : List Byte := fieldBytes n 0 (256 ^ n - 1) x

/-- A two's complement field of n bytes. -/
def sBytes (n : Nat) (x : Int) : List Byte := fieldBytes n (-(256 ^ n / 2)) (256 ^ n / 2 - 1) x

/-- One bit of the check: R19 and section 11.1, generator 0x1021. -/
def crcBit (c : BitVec 16) : BitVec 16 := if c.getMsbD 0 then (c <<< 1) ^^^ 0x1021#16 else c <<< 1

/-- The check after one more byte. -/
def crcByte (c : BitVec 16) (b : Byte) : BitVec 16 :=
  crcBit (crcBit (crcBit (crcBit (crcBit (crcBit (crcBit (crcBit (c ^^^ (b.zeroExtend 16 <<< 8)))))))))

/-- R19, section 11.1: the check of a run of bytes, initial value 0xFFFF. -/
def crc (bs : List Byte) : BitVec 16 := bs.foldl crcByte 0xFFFF#16

/-- The check as it is sent, most significant byte first. -/
def crcBytes (bs : List Byte) : List Byte := beBytes 2 (crc bs).toNat

end Sys2Proof.Machine
end

