-- ==== Sys2Proof/Machine/PortWire.lean ====
section
/-! DEFINITION. The Service Port's frames as bytes (section 11.1, R188): the command that the bytes of a received frame
are (R189, R190, R192), and the responses as they are sent. A named value is coded by its place in the list or table that
defines it, which is the order of its constructors. Where R188 leaves a place open, notes/assumptions/26.md says what is
taken. -/

namespace Sys2Proof.Machine

/-! ## Fields received -/

/-- A named value, by its place in a list. -/
def takeNamed {α : Type} (names : List α) (bs : List Byte) : Option (α × List Byte) :=
  (takeU 1 bs).bind fun p => names[p.1]?.map (·, p.2)

/-- An optional field of n bytes, preceded by its presence byte. -/
def takeOptional {α : Type} (n : Nat) (take : List Byte → Option (α × List Byte)) (bs : List Byte) :
    Option (Option α × List Byte) :=
  match takeU 1 bs with
  | some (1, bs) => (take bs).map fun p => (some p.1, p.2)
  | some (0, bs) => (takeU n bs).map fun p => (none, p.2)
  | _ => none

/-- An unsigned length, speed or weight of n bytes. -/
def takeLengthOf (n : Nat) (bs : List Byte) : Option (Int × List Byte) := (takeU n bs).map fun p => ((p.1 : Int), p.2)

/-- A landing point: X of four bytes, Y of two. -/
def takePoint (bs : List Byte) : Option (Point × List Byte) := do
  let (x, bs) ← takeLengthOf 4 bs
  let (y, bs) ← takeLengthOf 2 bs
  some (⟨x, y⟩, bs)

/-- R9: the eleven fields of an axis. -/
def takeAxisParams (bs : List Byte) : Option (AxisParams × List Byte) := do
  let (maxSpeed, bs) ← takeLengthOf 2 bs
  let (creepSpeed, bs) ← takeLengthOf 1 bs
  let (accel, bs) ← takeLengthOf 1 bs
  let (decel, bs) ← takeLengthOf 1 bs
  let (decelLoaded, bs) ← takeLengthOf 1 bs
  let (emergency, bs) ← takeLengthOf 1 bs
  let (creepLength, bs) ← takeLengthOf 2 bs
  let (creepStop, bs) ← takeLengthOf 1 bs
  let (window, bs) ← takeLengthOf 1 bs
  let (settleTime, bs) ← takeU 2 bs
  let (following, bs) ← takeLengthOf 2 bs
  some (⟨maxSpeed, creepSpeed, accel, decel, decelLoaded, emergency, creepLength, creepStop, window, settleTime,
    following⟩, bs)

/-- n values of one byte each. -/
def takeBytes : Nat → List Byte → Option (List Nat × List Byte)
  | 0, bs => some ([], bs)
  | n + 1, bs => do
    let (b, bs) ← takeU 1 bs
    let (t, bs) ← takeBytes n bs
    some (b :: t, bs)

/-- A set of flags in two bytes, the first at the least significant bit of the first byte. The spare bits above the w flags
are ignored (DESIGN CHOICE, notes/assumptions/26.md). -/
def takeFlags (w : Nat) (bs : List Byte) : Option (BitVec w × List Byte) := do
  let (low, bs) ← takeU 1 bs
  let (high, bs) ← takeU 1 bs
  some (BitVec.ofNat w (low + 256 * high), bs)

/-- Fields 1 to 36 of the start record up to the hoist. -/
def takeCrane (c : StartRecord) (bs : List Byte) : Option (StartRecord × List Byte) := do
  let (ownRank, bs) ← takeU 1 bs
  let (craneCount, bs) ← takeU 1 bs
  let (runway, bs) ← takeLengthOf 4 bs
  let (halfLength, bs) ← takeLengthOf 2 bs
  let (margin, bs) ← takeLengthOf 2 bs
  let (restMargin, bs) ← takeLengthOf 2 bs
  let (bridge, bs) ← takeAxisParams bs
  let (span, bs) ← takeLengthOf 2 bs
  let (trolley, bs) ← takeAxisParams bs
  let (brakeSettle, bs) ← takeU 2 bs
  let (parkDelay, bs) ← takeU 1 bs
  let (waitTimeout, bs) ← takeU 1 bs
  let (releaseDelay, bs) ← takeU 1 bs
  let (polarities, bs) ← takeFlags 10 bs
  let (hoistTop, bs) ← takeLengthOf 2 bs
  let (clearHeight, bs) ← takeLengthOf 2 bs
  some ({ c with
    ownRank := ownRank, craneCount := craneCount, runway := runway, halfLength := halfLength, margin := margin
    restMargin := restMargin, bridge := bridge, span := span, trolley := trolley, brakeSettle := brakeSettle
    parkDelay := parkDelay, waitTimeout := waitTimeout, releaseDelay := releaseDelay, polarities := polarities
    hoistTop := hoistTop, clearHeight := clearHeight }, bs)

/-- Fields 37 to 51, the store grid and the landing points. -/
def takeYard (c : StartRecord) (bs : List Byte) : Option (StartRecord × List Byte) := do
  let (rowBase, bs) ← takeLengthOf 4 bs
  let (rowPitch, bs) ← takeLengthOf 2 bs
  let (rows, bs) ← takeU 1 bs
  let (lateralBase, bs) ← takeLengthOf 2 bs
  let (lateralPitch, bs) ← takeLengthOf 2 bs
  let (lowers, bs) ← takeU 1 bs
  let (saddle, bs) ← takeBytes 8 bs
  let (intakeCount, bs) ← takeU 1 bs
  let (intake0, bs) ← takePoint bs
  let (intake1, bs) ← takePoint bs
  let (bayCount, bs) ← takeU 1 bs
  let (bay0, bs) ← takePoint bs
  let (bay1, bs) ← takePoint bs
  let (bay2, bs) ← takePoint bs
  let (bay3, bs) ← takePoint bs
  some ({ c with
    rowBase := rowBase, rowPitch := rowPitch, rows := rows, lateralBase := lateralBase, lateralPitch := lateralPitch
    lowers := lowers, saddle := saddle, intakeCount := intakeCount, intake0 := intake0, intake1 := intake1
    bayCount := bayCount, bay0 := bay0, bay1 := bay1, bay2 := bay2, bay3 := bay3 }, bs)

/-- Fields 52 to 64, the weigher and the times of link and port. -/
def takeWeighing (c : StartRecord) (bs : List Byte) : Option (StartRecord × List Byte) := do
  let (zeroCount, bs) ← takeS 4 bs
  let (scale, bs) ← takeLengthOf 2 bs
  let (pick, bs) ← takeLengthOf 2 bs
  let (releaseLevel, bs) ← takeLengthOf 2 bs
  let (band, bs) ← takeLengthOf 2 bs
  let (settleCount, bs) ← takeU 1 bs
  let (swl, bs) ← takeLengthOf 2 bs
  let (tolPerMille, bs) ← takeLengthOf 1 bs
  let (tolMin, bs) ← takeLengthOf 2 bs
  let (liftWindow, bs) ← takeLengthOf 1 bs
  let (reportInterval, bs) ← takeU 1 bs
  let (silenceCount, bs) ← takeU 1 bs
  let (hostTimeout, bs) ← takeU 2 bs
  some ({ c with
    zeroCount := zeroCount, scale := scale, pick := pick, releaseLevel := releaseLevel, band := band
    settleCount := settleCount, swl := swl, tolPerMille := tolPerMille, tolMin := tolMin, liftWindow := liftWindow
    reportInterval := reportInterval, silenceCount := silenceCount, hostTimeout := hostTimeout }, bs)

/-- R188: the start record, its fields in order of field number. -/
def takeStartRecord (bs : List Byte) : Option (StartRecord × List Byte) := do
  let (c, bs) ← takeCrane State.reset.conf bs
  let (c, bs) ← takeYard c bs
  takeWeighing c bs

/-- R188: the axes named by a request, which are one or both. -/
def takeAxes (bs : List Byte) : Option (AxesRequest × List Byte) :=
  match takeU 1 bs with
  | some (1, bs) => some (⟨true, false⟩, bs)
  | some (2, bs) => some (⟨false, true⟩, bs)
  | some (3, bs) => some (⟨true, true⟩, bs)
  | _ => none

/-- The fields of an axis, sent when the axis is named. -/
def takeWhen {α : Type} (named : Bool) (take : List Byte → Option (α × List Byte)) (bs : List Byte) :
    Option (Option α × List Byte) :=
  if named then (take bs).map fun p => (some p.1, p.2) else some (none, bs)

/-- A target and a speed, four bytes each. -/
def takeAxisMove (bs : List Byte) : Option (AxisMove × List Byte) := do
  let (target, bs) ← takeS 4 bs
  let (speed, bs) ← takeS 4 bs
  some (⟨target, speed⟩, bs)

/-- R81: Move. -/
def takeMove (bs : List Byte) : Option (MoveRequest × List Byte) := do
  let (axes, bs) ← takeAxes bs
  let (bridge, bs) ← takeWhen axes.bridge takeAxisMove bs
  let (trolley, bs) ← takeWhen axes.trolley takeAxisMove bs
  some (⟨bridge, trolley⟩, bs)

/-- R85: Set Speed. -/
def takeSetSpeed (bs : List Byte) : Option (SpeedRequest × List Byte) := do
  let (axes, bs) ← takeAxes bs
  let (bridge, bs) ← takeWhen axes.bridge (takeS 4) bs
  let (trolley, bs) ← takeWhen axes.trolley (takeS 4) bs
  some (⟨bridge, trolley⟩, bs)

/-- R188: a place. -/
def takePlace (bs : List Byte) : Option (Place × List Byte) :=
  match takeU 1 bs with
  | some (0, bs) => (takeU 2 bs).map fun p => (.slot p.1, p.2)
  | some (1, bs) => (takeU 1 bs).map fun p => (.intake p.1, p.2)
  | some (2, bs) => (takeU 1 bs).bind fun b => (takeU 1 b.2).map fun i => (.cradle b.1 i.1, i.2)
  | some (3, bs) => some (.hook, bs)
  | _ => none

/-- R84: Go To. -/
def takeGoTo (bs : List Byte) : Option (GoToRequest × List Byte) := do
  let (place, bs) ← takePlace bs
  let (bridgeSpeed, bs) ← takeS 4 bs
  let (trolleySpeed, bs) ← takeS 4 bs
  some (⟨place, bridgeSpeed, trolleySpeed⟩, bs)

/-- R154: the coil of a STORE. -/
def takeStoreCoil (bs : List Byte) : Option (StoreCoil × List Byte) := do
  let (coil, bs) ← takeU 4 bs
  let (cls, bs) ← takeU 1 bs
  let (weight, bs) ← takeOptional 2 (takeLengthOf 2) bs
  some (⟨coil, cls, weight⟩, bs)

/-- R154: Begin Task. -/
def takeBegin (bs : List Byte) : Option (BeginRequest × List Byte) := do
  let (kind, bs) ← takeNamed [TaskKind.store, .shift, .dispatch, .ret] bs
  let (source, bs) ← takePlace bs
  let (dest, bs) ← takePlace bs
  let (coil, bs) ← takeWhen (kind == .store) takeStoreCoil bs
  some (⟨kind, source, dest, coil⟩, bs)

/-- R147: a survey entry; its state is coded as R130's table gives it. No rule bounds the weight. -/
def takeSurveyEntry (bs : List Byte) : Option (SlotState × List Byte) :=
  match takeU 1 bs with
  | some (1, bs) => some (.free, bs)
  | some (2, bs) => some (.blocked, bs)
  | some (3, bs) => do
    let (coil, bs) ← takeU 4 bs
    let (cls, bs) ← takeU 1 bs
    let (weight, bs) ← takeOptional 4 (takeS 4) bs
    some (.occupied coil weight cls, bs)
  | _ => none

/-- n survey entries. -/
def takeSurveyEntries : Nat → List Byte → Option (List SlotState × List Byte)
  | 0, bs => some ([], bs)
  | n + 1, bs => do
    let (e, bs) ← takeSurveyEntry bs
    let (es, bs) ← takeSurveyEntries n bs
    some (e :: es, bs)

/-- R147: Survey Row. -/
def takeSurvey (bs : List Byte) : Option (SurveyRequest × List Byte) := do
  let (row, bs) ← takeU 1 bs
  let (count, bs) ← takeU 1 bs
  let (slots, bs) ← takeSurveyEntries count bs
  some (⟨row, slots⟩, bs)

/-- n lengths of two bytes. -/
def takeLengths : Nat → List Byte → Option (List Int × List Byte)
  | 0, bs => some ([], bs)
  | n + 1, bs => do
    let (x, bs) ← takeLengthOf 2 bs
    let (xs, bs) ← takeLengths n bs
    some (x :: xs, bs)

/-- R174: the trailer geometry; its cradle count counts the offsets that follow it. -/
def takeTrailer (bs : List Byte) : Option (Trailer × List Byte) := do
  let (kingpin, bs) ← takeLengthOf 2 bs
  let (axle, bs) ← takeLengthOf 2 bs
  let (count, bs) ← takeU 1 bs
  let (offsets, bs) ← takeLengths count bs
  let (axleLimit, bs) ← takeLengthOf 2 bs
  let (kingpinLimit, bs) ← takeLengthOf 2 bs
  let (payloadLimit, bs) ← takeLengthOf 2 bs
  let (planned, bs) ← takeU 1 bs
  some (⟨kingpin, axle, count, offsets, axleLimit, kingpinLimit, payloadLimit, planned⟩, bs)

/-- R175: Dock Truck. -/
def takeDock (bs : List Byte) : Option (DockRequest × List Byte) := do
  let (bay, bs) ← takeU 1 bs
  let (trailer, bs) ← takeTrailer bs
  some (⟨bay, trailer⟩, bs)

/-- R47: Prepare Release. -/
def takePrepare (bs : List Byte) : Option (PrepareRequest × List Byte) := do
  let (rank, bs) ← takeU 1 bs
  let (lastSeq, bs) ← takeU 2 bs
  some (⟨rank, lastSeq⟩, bs)

/-- A request without fields. -/
def takeNothing (bs : List Byte) : Option (Unit × List Byte) := some ((), bs)

/-- R192 step 3: a payload that is the fields of its kind, or is not. -/
def bodyOf {α : Type} (take : List Byte → Option (α × List Byte)) (payload : List Byte) : Body α :=
  match whole (take payload) with
  | some a => .fields a
  | none => .misfit

/-! ## Frames received (R189, R190, R192) -/

/-- R192: the command that a well-formed request is. -/
def requestCommand (kind tag : Nat) (p : List Byte) : Instr :=
  match kind with
  | 1 => .configure tag (bodyOf takeStartRecord p)
  | 2 => .readStatus tag (bodyOf takeNothing p)
  | 3 => .readEvents tag (bodyOf takeNothing p)
  | 4 => .setEventMask tag (bodyOf (takeFlags 16) p)
  | 5 => .move tag (bodyOf takeMove p)
  | 6 => .goTo tag (bodyOf takeGoTo p)
  | 7 => .setSpeed tag (bodyOf takeSetSpeed p)
  | 8 => .stopMove tag (bodyOf takeAxes p)
  | 9 => .tare tag (bodyOf takeNothing p)
  | 10 => .beginTask tag (bodyOf takeBegin p)
  | 11 => .abortTask tag (bodyOf (takeU 1) p)
  | 12 => .readTask tag (bodyOf takeNothing p)
  | 13 => .readRow tag (bodyOf (takeU 1) p)
  | 14 => .surveyRow tag (bodyOf takeSurvey p)
  | 15 => .blockSlot tag (bodyOf (takeU 2) p)
  | 16 => .unblockSlot tag (bodyOf (takeU 2) p)
  | 17 => .dockTruck tag (bodyOf takeDock p)
  | 18 => .closeBay tag (bodyOf (takeU 1) p)
  | 19 => .undock tag (bodyOf (takeU 1) p)
  | 20 => .readBay tag (bodyOf (takeU 1) p)
  | 21 => .readPeers tag (bodyOf takeNothing p)
  | 22 => .prepareRelease tag (bodyOf takePrepare p)
  | 23 => .confirmRelease tag (bodyOf (takeU 1) p)
  | 24 => .rejoin tag (bodyOf takeNothing p)
  | 25 => .halt tag (bodyOf takeNothing p)
  | 26 => .clearHalt tag (bodyOf takeNothing p)
  | 27 => .restart tag (bodyOf takeNothing p)
  | _ => .unknownRequest kind tag

/-- R189, R190: the command that the bytes collected in FRAME are, up to the CRC or to a gap of more than 2 ms. -/
def portCommand (bs : List Byte) : Instr :=
  match takeU 2 bs with
  | none => .incomplete none
  | some (length, rest) =>
    if 512 < length then .impossibleLength
    else match takeU 1 rest with
      | none => .incomplete none
      | some (kind, rest) =>
        match takeU 1 rest with
        | none => .incomplete none
        | some (tag, rest) =>
          if rest.length < length + 2 then .incomplete (some (kind, tag))
          else if rest.drop length ≠ crcBytes (bs.take (4 + length)) then .badCheck kind tag
          else requestCommand kind tag (rest.take length)

/-! ## The receiver of the line (R189, R190) -/

/-- R189: the receiver between two bytes of the line: its state, and in FRAME the bytes collected since the start byte. A
request is one command, handled at its last byte, so the node's own `receiver` is never in FRAME between two commands
(notes/assumptions/5.md). -/
structure LineReceiver where
  state : Receiver
  frame : List Byte
  deriving DecidableEq, Repr

/-- R189: the receiver after reset. -/
def LineReceiver.reset : LineReceiver := ⟨.hunt, []⟩

/-- R189, R190: the bytes collected make a complete frame, or show an impossible length. -/
def frameEnds (bs : List Byte) : Bool :=
  match takeU 2 bs with
  | none => false
  | some (length, rest) => 512 < length || length + 4 ≤ rest.length

/-- R189, R190: one byte arrives. HUNT discards bytes until a start byte; FRAME collects until the frame is complete, which
is the command the frame is, or its length is impossible; RESYNC discards. -/
def receiveByte (r : LineReceiver) (b : Byte) : LineReceiver × Option Instr :=
  match r.state with
  | .hunt => if b = 0xA5#8 then (⟨.frame, []⟩, none) else (r, none)
  | .frame =>
    let bs := r.frame ++ [b]
    if frameEnds bs then
      (⟨if portCommand bs = .impossibleLength then .resync else .hunt, []⟩, some (portCommand bs))
    else (⟨.frame, bs⟩, none)
  | .resync => (r, none)

/-- R189, R190: the line has been silent for 2 ms: a frame under way is incomplete, and RESYNC ends. -/
def receiveSilence (r : LineReceiver) : LineReceiver × Option Instr :=
  match r.state with
  | .hunt => (r, none)
  | .frame => (⟨.hunt, []⟩, some (portCommand r.frame))
  | .resync => (⟨.hunt, []⟩, some .resyncSilence)

/-- R189: bytes arrive without a break; the commands they make, in order. -/
def receiveBytes (r : LineReceiver) : List Byte → LineReceiver × List Instr
  | [] => (r, [])
  | b :: bs =>
    let (r, c) := receiveByte r b
    let (r, cs) := receiveBytes r bs
    (r, c.toList ++ cs)

/-! ## Fields sent -/

/-- A named value or a number of one byte. -/
def codeByte (n : Nat) : List Byte := uBytes 1 n

/-- A single flag. -/
def flagByte (b : Bool) : List Byte := codeByte (if b then 1 else 0)

/-- An optional field of n bytes behind its presence byte. -/
def optBytes {α : Type} (n : Nat) (f : α → List Byte) : Option α → List Byte
  | none => codeByte 0 ++ List.replicate n 0
  | some a => codeByte 1 ++ f a

/-- A list of varying length behind its count. -/
def listBytes {α : Type} (f : α → List Byte) (l : List α) : List Byte := codeByte l.length ++ l.flatMap f

/-- A number whose range is not bounded. -/
def wide (x : Int) : List Byte := sBytes 4 x

/-- A remaining time in milliseconds. The longest, an arming's 10 s, fits two bytes, and so do the windows, the query time
and the host timeout of every start record (R9). -/
def timeBytes (t : Nat) : List Byte := uBytes 2 t

/-- A set of sixteen flags. -/
def flagBytes (b : BitVec 16) : List Byte := codeByte (b.toNat % 256) ++ codeByte (b.toNat / 256)

/-- The seven own halt reasons, in R105's order. -/
def reasonsByte (r : HaltReasons) : List Byte :=
  codeByte ([(r.host, 1), (r.following, 2), (r.loadLost, 4), (r.snag, 8), (r.void, 16), (r.claimConflict, 32),
    (r.hostLost, 64)].map fun p => if p.1 then p.2 else 0).sum

/-- R107: the line state, ASSERTED or RELEASED. -/
def lineByte (asserted : Bool) : List Byte := codeByte (if asserted then 0 else 1)

/-- An interval of runway. -/
def intervalBytes (i : Interval) : List Byte := uBytes 4 i.low ++ uBytes 4 i.high

/-- The width of a position of an axis: 0..500,000 mm or 0..45,000 mm. -/
def positionWidth : Axis → Nat
  | .bridge => 4
  | .trolley => 2

/-- A place. -/
def placeBytes : Place → List Byte
  | .slot n => codeByte 0 ++ uBytes 2 n
  | .intake i => codeByte 1 ++ codeByte i
  | .cradle b i => codeByte 2 ++ codeByte b ++ codeByte i
  | .hook => codeByte 3

/-! ## What Read Status sends -/

/-- R80: a move record of an axis. -/
def moveBytes (a : Axis) (m : MoveRecord) : List Byte :=
  uBytes (positionWidth a) m.target ++ uBytes 2 m.requested ++ uBytes 2 m.speed ++ codeByte m.direction.ctorIdx
    ++ optBytes 1 (fun o : MoveOutcome => codeByte o.ctorIdx) m.stopOrder

/-- R80: the last outcome of an axis. -/
def lastBytes (a : Axis) (l : LastOutcome) : List Byte :=
  codeByte l.outcome.ctorIdx ++ uBytes (positionWidth a) l.target
    ++ optBytes (positionWidth a) (uBytes (positionWidth a)) l.position

/-- R91, R104, R188: one axis; the position input carries its validity, and the commanded position, rounded to the
millimetre, is sent in hundredths. The two holds are two single flags (notes/assumptions/26.md). -/
def axisBytes (a : Axis) (r : AxisReport) : List Byte :=
  codeByte r.state.ctorIdx ++ sBytes 2 r.setpoint ++ optBytes (positionWidth a) (uBytes (positionWidth a)) r.position
    ++ optBytes 4 (fun k => wide (100 * k)) r.commanded ++ optBytes (positionWidth a + 7) (moveBytes a) r.move
    ++ flagByte r.lowHold ++ flagByte r.highHold ++ optBytes (2 * positionWidth a + 2) (lastBytes a) r.last
    ++ (match a with
      | .bridge => optBytes 5 (fun e : Int × Bool => uBytes 4 e.1 ++ flagByte e.2) r.effective
      | .trolley => [])

/-- A value that is absent, or present and marked valid or invalid. -/
def markedBytes (valid : Bool) (x : Option Int) : List Byte := optBytes 5 (fun v => flagByte valid ++ wide v) x

/-- R129: the weigher. The sensor status is sent as 1 while lost, and the state of the inhibit output as 1 while asserted
(notes/assumptions/26.md). -/
def weigherBytes (w : WeigherReport) : List Byte :=
  codeByte w.load.ctorIdx ++ codeByte w.settle ++ optBytes 4 wide w.raw ++ markedBytes w.valid w.filtered
    ++ markedBytes w.valid w.net ++ wide w.tare ++ codeByte w.samples ++ flagByte w.stable ++ flagByte w.sensorLost
    ++ flagByte w.overrange ++ flagByte w.overload ++ flagByte w.inhibit ++ uBytes 2 w.lost

/-- R79: the own pending extension, its record of R54 whole (notes/assumptions/26.md); in WINDOW the sequence and the time left
follow. -/
def pendingBytes (left : Option Nat) (p : PendingExtension) : List Byte :=
  codeByte p.side.ctorIdx ++ uBytes 4 p.edge ++ codeByte p.phase.ctorIdx
    ++ (match p.phase with
      | .queued => []
      | .window seq _ => uBytes 2 seq ++ timeBytes (left.getD 0))

/-- R36: the four line counters. -/
def counterBytes (c : LineCounters) : List Byte :=
  uBytes 2 c.checkErrors ++ uBytes 2 c.framesTaken ++ uBytes 2 c.framesReceived ++ uBytes 2 c.contentionLosses

/-- R198: Read Status. -/
def statusBytes (r : StatusReport) : List Byte :=
  codeByte r.node.ctorIdx ++ flagByte r.configured ++ optBytes 8 intervalBytes r.claim
    ++ optBytes 5 (fun w : WantedEdge => codeByte w.side.ctorIdx ++ uBytes 4 w.edge) r.wanted
    ++ optBytes 6 (pendingBytes r.pendingLeft) r.pending ++ optBytes 2 timeBytes r.joinLeft
    ++ axisBytes .bridge r.bridge ++ axisBytes .trolley r.trolley ++ wide r.height ++ flagByte r.referenced
    ++ optBytes 1 flagByte r.belowClear ++ reasonsByte r.reasons ++ lineByte r.asserted ++ flagByte r.drives
    ++ flagByte r.notSeen ++ optBytes 2 timeBytes r.hostLeft ++ weigherBytes r.weigher
    ++ codeByte r.outbox ++ codeByte r.freeRoom.toNat ++ counterBytes r.counters ++ uBytes 2 r.framing
    ++ uBytes 2 r.overrun ++ flagBytes r.mask ++ flagBytes r.pendingFlags

/-! ## What Read Events sends -/

/-- R79: what an outcome of the own claim adds. -/
def claimDetail : ClaimOutcome → List Byte
  | .confirmed d e | .void d e | .abandoned d e => codeByte d.ctorIdx ++ uBytes 4 e
  | .objected d e r => codeByte d.ctorIdx ++ uBytes 4 e ++ codeByte r
  | .shrunk | .removed => []

/-- R169: what TASK_ABORTED adds by cause. -/
def abortDetail : AbortDetail → List Byte
  | .none => []
  | .place atSet x y => flagByte atSet ++ optBytes 4 (uBytes 4) x ++ optBytes 2 (uBytes 2) y
  | .covered slot => uBytes 2 slot
  | .weight net expected => wide net ++ wide expected

/-- R105, R107: the cause of a HALT_CHANGED: the seven reasons in their order, then the two edges. -/
def haltCauseCode : HaltCause → Nat
  | .reason r => r.ctorIdx
  | .lineAsserted => 7
  | .lineReleased => 8

/-- R53: what an outcome of a release in flight adds: the denier of a DENIED, where one is named (notes/assumptions/26.md). -/
def denierBytes (denier : Option Nat) : ReleaseOutcome → List Byte
  | .denied => optBytes 1 codeByte denier
  | .released | .withdrawn => []

/-- Section 11.4: the detail record of an event. -/
def detailBytes : Detail → List Byte
  | .moveDone a o target x => codeByte a.ctorIdx ++ codeByte o.ctorIdx ++ uBytes 4 target ++ optBytes 4 (uBytes 4) x
  | .taskDone n k d coil dest w =>
    codeByte n ++ codeByte k.ctorIdx ++ codeByte d ++ uBytes 4 coil ++ placeBytes dest ++ wide w
  | .taskAborted c n d u hook loose extra =>
    codeByte c.ctorIdx ++ codeByte n ++ codeByte d ++ codeByte u ++ flagByte hook ++ flagByte loose ++ abortDetail extra
  | .lift net filtered => wide net ++ wide filtered
  | .set net filtered => wide net ++ wide filtered
  | .haltChanged c asserted drives reasons =>
    codeByte (haltCauseCode c) ++ lineByte asserted ++ flagByte drives ++ reasonsByte reasons
  | .peerChanged r left entered => codeByte r ++ codeByte left.ctorIdx ++ codeByte entered.ctorIdx
  | .claimChanged o k => codeByte o.ctorIdx ++ optBytes 8 intervalBytes k ++ claimDetail o
  | .makeWay r e => codeByte r ++ uBytes 4 e
  | .bayComplete b n axle kingpin payload => codeByte b ++ codeByte n ++ wide axle ++ wide kingpin ++ wide payload
  | .weightFault c lost range load raw net valid =>
    codeByte c.ctorIdx ++ flagByte lost ++ flagByte range ++ flagByte load ++ optBytes 4 wide raw ++ markedBytes valid net
  | .limit a d ended => codeByte a.ctorIdx ++ codeByte d.ctorIdx ++ flagByte ended
  | .axisFault a c k x => codeByte a.ctorIdx ++ codeByte c.ctorIdx ++ optBytes 4 wide k ++ optBytes 4 (uBytes 4) x
  | .storeSuspect c row n r => codeByte c.ctorIdx ++ optBytes 1 codeByte row ++ codeByte n ++ optBytes 1 codeByte r
  | .nodeState entered left => codeByte entered.ctorIdx ++ codeByte left.ctorIdx
  | .releaseOutcome r o d => codeByte r ++ codeByte o.ctorIdx ++ denierBytes d o

/-- R196: one event; the count of events returned is the count ahead of their list (notes/assumptions/26.md). -/
def eventBytes (e : Nat × EventRecord) : List Byte :=
  codeByte e.1 ++ codeByte e.2.count ++ (e.2.detail.map detailBytes).getD []

/-! ## What the other reading requests send -/

/-- R130: a slot record's fields by its state. -/
def slotBytes (r : SlotRecord) : List Byte :=
  let coilBytes (c : Nat) (w : Option Int) (k : Nat) : List Byte := uBytes 4 c ++ optBytes 4 wide w ++ codeByte k
  codeByte r.ctorIdx ++ match r with
    | .unknown | .free | .blocked => []
    | .occupied c w k => coilBytes c w k
    | .reservedOut c w k o | .reservedIn c w k o => coilBytes c w k ++ codeByte o

/-- R150: the open query of the row, its record of R143 whole with row and tag (notes/assumptions/26.md); in WAITING the time
left follows its phase. -/
def queryBytes (left : Option Nat) (q : OpenQuery) : List Byte :=
  codeByte q.row ++ codeByte q.tag ++ (match left with
    | none => codeByte 0
    | some n => codeByte 1 ++ timeBytes n)

/-- R150: Read Row; a row's status is KNOWN or UNKNOWN. The slots follow in slot-index order, unnumbered. -/
def rowBytes (r : RowReport) : List Byte :=
  codeByte (if r.known then 0 else 1) ++ flagByte r.spent ++ flagByte r.covered
    ++ optBytes 3 (queryBytes r.queryLeft) r.query
    ++ listBytes (fun t : SlotReport => slotBytes t.record ++ flagByte t.held) r.slots

/-- R174: the trailer geometry. -/
def trailerBytes (t : Trailer) : List Byte :=
  uBytes 2 t.kingpin ++ uBytes 2 t.axle ++ listBytes (uBytes 2) t.offsets ++ uBytes 2 t.axleLimit
    ++ uBytes 2 t.kingpinLimit ++ uBytes 2 t.payloadLimit ++ codeByte t.planned

/-- R174: the owner of a cradle, 0 for FOREIGN, else the task number with its coil and weight. -/
def ownerBytes : CradleOwner → List Byte
  | .foreign => codeByte 0
  | .own task coil w => codeByte task ++ uBytes 4 coil ++ wide w

/-- R174: a cradle record's fields by its state. -/
def cradleRecordBytes (r : CradleRecord) : List Byte :=
  codeByte r.ctorIdx ++ match r with
    | .empty => []
    | .reserved o => ownerBytes o
    | .loaded coil w => optBytes 4 (fun k : Nat => uBytes 4 k) coil ++ wide w

/-- R187: a cradle with its X. -/
def cradleReportBytes (c : Int × CradleRecord) : List Byte := uBytes 4 c.1 ++ cradleRecordBytes c.2

/-- R179: the three loads of a trailer. -/
def loadsBytes (l : Loads) : List Byte := wide l.axle ++ wide l.kingpin ++ wide l.payload

/-- R174: the announcer, 0 for OWN. -/
def announcerByte : Announcer → List Byte
  | .own => codeByte 0
  | .peer r => codeByte r

/-- R187: Read Bay. -/
def bayBytes (r : BayReport) : List Byte :=
  codeByte r.state.ctorIdx ++ optBytes 1 announcerByte r.announcer ++ flagByte r.unsure ++ flagByte r.covered
    ++ wide r.coverage.low ++ wide r.coverage.high
    ++ optBytes 12 (fun l : BayLoad => trailerBytes l.trailer) r.load
    ++ optBytes 1 (fun l : BayLoad => codeByte l.remaining.toNat) r.load
    ++ listBytes cradleReportBytes (r.cradleX.zip ((r.load.map (·.cradles)).getD [])) ++ codeByte r.loaded
    ++ codeByte r.reserved ++ optBytes 12 loadsBytes r.committed ++ optBytes 12 loadsBytes r.prospective

/-- R37: the last report of a peer record. -/
def lastReportBytes (r : LastReport) : List Byte :=
  codeByte r.nodeState.ctorIdx ++ optBytes 4 (uBytes 4) r.position ++ sBytes 2 r.speed ++ codeByte r.hookLoad.ctorIdx
    ++ optBytes 4 (fun k : Nat => uBytes 4 k) r.hookCoil

/-- R55: a peer's pending extension; its expiry stands as the time left. -/
def extensionBytes (e : PeerExtension) : List Byte :=
  codeByte e.side.ctorIdx ++ uBytes 4 e.edge ++ uBytes 2 e.seq ++ timeBytes e.expiry

/-- R47: a release arming; its expiry stands as the time left. -/
def armingBytes (a : Arming) : List Byte := uBytes 2 a.seq ++ timeBytes a.expiry

/-- R53: one rank of Read Peers. The ranks follow in rising order, unnumbered. -/
def peerBytes (p : PeerReport) : List Byte :=
  codeByte p.presence.ctorIdx ++ optBytes 2 timeBytes p.releaseLeft
    ++ optBytes 2 (fun n : Nat => uBytes 2 n) p.lastSeq ++ optBytes 14 lastReportBytes p.lastReport
    ++ optBytes 8 intervalBytes p.claim ++ optBytes 9 extensionBytes p.extension
    ++ optBytes 4 armingBytes p.arming

/-- R151: a journal entry: its place, its prior record and the settled flag. -/
def journalBytes : JournalEntry → List Byte
  | .slot n prior settled => placeBytes (.slot n) ++ slotBytes prior ++ flagByte settled
  | .cradle b i prior settled => placeBytes (.cradle b i) ++ cradleRecordBytes prior ++ flagByte settled

/-- R151: a task record at its depth. -/
def taskBytes (t : Task × Nat) : List Byte :=
  codeByte t.1.number ++ codeByte t.1.kind.ctorIdx ++ placeBytes t.1.source ++ placeBytes t.1.dest
    ++ uBytes 4 t.1.coil ++ codeByte t.1.cls ++ optBytes 4 wide t.1.expected ++ codeByte (t.2 + 1)
    ++ codeByte (if t.1.carrying then 1 else 0) ++ listBytes journalBytes t.1.journal

/-- R153: the unplaced record. The net is an optional field for either way (notes/assumptions/26.md). -/
def unplacedBytes (u : Unplaced) : List Byte :=
  codeByte u.way.ctorIdx ++ optBytes 4 (fun k : Nat => uBytes 4 k) u.coil ++ optBytes 4 wide u.net
    ++ optBytes 4 (uBytes 4) u.bridge ++ optBytes 2 (uBytes 2) u.trolley

/-- R170: an outcome, DONE or ABORTED with its cause and depth. -/
def outcomeBytes (o : TaskOutcome) : List Byte :=
  codeByte o.number ++ codeByte o.kind.ctorIdx ++ match o.aborted with
    | none => codeByte 0
    | some (cause, depth) => codeByte 1 ++ codeByte cause.ctorIdx ++ codeByte depth

/-- R173: Read Task. -/
def taskReportBytes (r : TaskReport) : List Byte :=
  listBytes taskBytes r.nest.zipIdx
    ++ optBytes 9 (fun k : HookCoil => uBytes 4 k.coil ++ wide k.weight ++ codeByte k.cls) r.hookCoil
    ++ flagByte r.loose ++ optBytes 19 unplacedBytes r.unplaced ++ listBytes outcomeBytes r.outcomes ++ codeByte r.next

/-! ## Frames sent -/

/-- R188: what follows the status byte of a response. -/
def resultBytes : Result → List Byte
  | .none => []
  | .field n => codeByte n
  | .overload what value limit => codeByte what.ctorIdx ++ wide value ++ uBytes 2 limit
  | .incomplete => codeByte 0
  | .badCheck => codeByte 1
  | .tare v => wide v
  | .begun n d => codeByte n ++ codeByte d
  | .unwound n => codeByte n
  | .halts r asserted => reasonsByte r ++ lineByte asserted
  | .mask m p => flagBytes m ++ flagBytes p
  | .status r => statusBytes r
  | .events l => listBytes eventBytes l
  | .task r => taskReportBytes r
  | .row r => rowBytes r
  | .bay r => bayBytes r
  | .peers l f => listBytes peerBytes l ++ optBytes 1 codeByte f

/-- Section 11.1: the status and result of a response. -/
def responsePayload (f : PortFrame) : List Byte := codeByte f.status.ctorIdx ++ resultBytes f.result

/-- Section 11.1: the bytes over which the CRC of a frame is computed. -/
def portChecked (kind tag : Nat) (payload : List Byte) : List Byte :=
  uBytes 2 payload.length ++ codeByte kind ++ codeByte tag ++ payload

/-- Section 11.1: a whole frame of either direction, from its start byte to its CRC. -/
def frameBytes (kind tag : Nat) (payload : List Byte) : List Byte :=
  0xA5#8 :: portChecked kind tag payload ++ crcBytes (portChecked kind tag payload)

/-- Section 11.1: a frame that the transmitter sends. -/
def portBytes (f : PortFrame) : List Byte := frameBytes f.kind f.tag (responsePayload f)

end Sys2Proof.Machine
end

