-- ==== Sys2Proof/Machine/LinkWire.lean ====
section
/-! DEFINITION. The Runway Link's frames as bytes (sections 2.3 and 2.4, R183): what the node sends in an attempt, and the
command that the bytes of a received frame are (R19, R20). -/

namespace Sys2Proof.Machine

/-! ## Codes -/

/-- Section 2.4: the code of a node state in a Position Report. -/
def nodeCode : NodeState → Nat
  | .unconfigured => 0 | .listening => 1 | .joining => 2 | .joinBlocked => 3
  | .active => 4 | .isolated => 5 | .voided => 6

/-- R20: the node state of a code that a Position Report may carry. -/
def nodeOfCode : Nat → Option NodeState
  | 2 => some .joining | 4 => some .active | 5 => some .isolated | 6 => some .voided
  | _ => none

/-- Section 2.4: the hook load state's code. -/
def hookCode : HookLoad → Nat
  | .empty => 0 | .taking => 1 | .loaded => 2 | .giving => 3

/-- The hook load state of a code. -/
def hookOfCode : Nat → Option HookLoad
  | 0 => some .empty | 1 => some .taking | 2 => some .loaded | 3 => some .giving
  | _ => none

/-- Section 2.4: the side of an Extend. -/
def sideCode : Side → Nat
  | .low => 0 | .high => 1

/-- The side of a code. -/
def sideOfCode : Nat → Option Side
  | 0 => some .low | 1 => some .high
  | _ => none

/-- Section 2.4: the reason of an Objection. -/
def reasonCode : ObjectionReason → Nat
  | .overlap => 1 | .void => 2 | .releaseDenied => 3

/-- The reason of a code. -/
def reasonOfCode : Nat → Option ObjectionReason
  | 1 => some .overlap | 2 => some .void | 3 => some .releaseDenied
  | _ => none

/-- Section 2.4: the state of a Store Notice entry. -/
def noticeCode : NoticeState → Nat
  | .free => 1 | .occupied => 2 | .blocked => 3

/-- The entry state of a code. -/
def noticeOfCode : Nat → Option NoticeState
  | 1 => some .free | 2 => some .occupied | 3 => some .blocked
  | _ => none

/-- R183: the bay state's code. -/
def bayCode : BayState → Nat
  | .empty => 0 | .docked => 1 | .loading => 2 | .closed => 3

/-- The bay state of a code. -/
def bayOfCode : Nat → Option BayState
  | 0 => some .empty | 1 => some .docked | 2 => some .loading | 3 => some .closed
  | _ => none

/-- R183: the two bits of a cradle. -/
def cradleCode : NoticeCradle → Nat
  | .empty => 0 | .reserved => 1 | .loaded _ _ => 2 | .unnamed _ => 3

/-- A presence flag as the bit of a weight. -/
def flagBit (b : Bool) (weight : Nat) : Nat := if b then weight else 0

/-! ## Payloads sent -/

/-- An optional field of n bytes, sent as zero when absent (section 2.4). -/
def optionalBytes (n : Nat) (o : Option Int) : List Byte := uBytes n (o.getD 0)

/-- R23: the Position Report's payload. -/
def reportBytes (f : ReportFrame) : List Byte :=
  uBytes 1 (nodeCode f.nodeState)
    ++ uBytes 1 (flagBit f.claim.isSome 1 + flagBit f.hookCoil.isSome 2 + flagBit f.position.isSome 4 : Nat)
    ++ optionalBytes 4 f.position ++ sBytes 2 f.speed ++ optionalBytes 4 (f.claim.map (·.low))
    ++ optionalBytes 4 (f.claim.map (·.high)) ++ uBytes 1 (hookCode f.hookLoad)
    ++ optionalBytes 4 (f.hookCoil.map (Int.ofNat ·))

/-- The Extend's payload. -/
def extendBytes (f : ExtendFrame) : List Byte :=
  uBytes 1 (sideCode f.side) ++ uBytes 1 (flagBit f.view.isSome 1) ++ uBytes 4 f.edge
    ++ optionalBytes 2 (f.view.map (Int.ofNat ·))

/-- One Store Notice entry of ten bytes. -/
def entryBytes (e : NoticeEntry) : List Byte :=
  uBytes 2 e.slot ++ uBytes 1 (noticeCode e.state)
    ++ uBytes 1 (e.cls % 8 + flagBit e.coil.isSome 64 + flagBit e.weight.isSome 128 : Nat)
    ++ optionalBytes 4 (e.coil.map (Int.ofNat ·)) ++ optionalBytes 2 e.weight

/-- The Store Notice's payload. -/
def storeNoticeBytes (f : StoreNoticeFrame) : List Byte :=
  uBytes 1 (flagBit f.answer.isSome 1) ++ optionalBytes 1 (f.answer.map (Int.ofNat ·)) ++ uBytes 1 f.entries.length
    ++ f.entries.flatMap entryBytes

/-- R183: the states of the cradles, two bits each, cradle 1 lowest. -/
def cradleCodes : List NoticeCradle → Nat
  | [] => 0
  | k :: ks => cradleCode k + 4 * cradleCodes ks

/-- R183: the six bytes of a loaded cradle. -/
def cradleBytes : NoticeCradle → List Byte
  | .empty | .reserved => []
  | .loaded c w => uBytes 4 c ++ uBytes 2 w
  | .unnamed w => uBytes 4 0 ++ uBytes 2 w

/-- R183: what follows bytes 0 to 2 of a bay with a trailer. -/
def loadBytes (l : NoticeLoad) : List Byte :=
  let t := l.trailer
  uBytes 1 (t.count + 16 * t.planned : Nat) ++ uBytes 2 t.kingpin ++ uBytes 2 t.axle ++ uBytes 2 t.axleLimit
    ++ uBytes 2 t.kingpinLimit ++ uBytes 2 t.payloadLimit ++ uBytes 2 (cradleCodes l.cradles)
    ++ t.offsets.flatMap (uBytes 2) ++ l.cradles.flatMap cradleBytes

/-- R183: the Bay Notice's payload. -/
def bayNoticeBytes (f : BayNoticeFrame) : List Byte :=
  uBytes 1 f.bay ++ uBytes 1 (bayCode f.state) ++ uBytes 1 f.remaining ++ (f.load.map loadBytes).getD []

/-- Section 2.4: the kind code of a frame. -/
def frameKind : LinkFrame → Nat
  | .report _ => 1 | .join _ => 2 | .extend _ => 3 | .objection _ => 4 | .release _ => 5 | .makeWay _ => 6
  | .storeNotice _ => 7 | .bayNotice _ => 8 | .slotQuery _ => 9

/-- Section 2.4: the payload of a frame. -/
def payloadBytes : LinkFrame → List Byte
  | .report f => reportBytes f
  | .join f => uBytes 4 f.low ++ uBytes 4 f.high
  | .extend f => extendBytes f
  | .objection f => uBytes 1 f.target ++ uBytes 2 f.targetSeq ++ uBytes 1 (reasonCode f.reason)
  | .release f => uBytes 1 f.rank ++ uBytes 2 f.lastSeq
  | .makeWay f => uBytes 1 f.target ++ uBytes 4 f.edge
  | .storeNotice f => storeNoticeBytes f
  | .bayNotice f => bayNoticeBytes f
  | .slotQuery f => uBytes 1 f.row ++ uBytes 1 f.tag

/-- Section 2.3: the header and payload, over which the check is computed. -/
def checkedBytes (sender seq : Nat) (f : LinkFrame) : List Byte :=
  uBytes 1 sender ++ uBytes 1 (frameKind f) ++ uBytes 2 seq ++ uBytes 1 (payloadBytes f).length ++ payloadBytes f

/-- Section 2.3: a whole frame. -/
def linkBytes (sender seq : Nat) (f : LinkFrame) : List Byte :=
  checkedBytes sender seq f ++ crcBytes (checkedBytes sender seq f)

/-- R16, R22: the bytes of the attempt in progress. -/
def attemptBytes (s : State) : Option (List Byte) :=
  s.link.attempt.map fun a => linkBytes s.conf.ownRank a.seq a.frame

/-! ## Payloads received -/

/-- A value that a presence flag marks absent, or present. -/
def flagged {α : Type} (flags weight : Nat) (x : α) : Option α := if flags / weight % 2 = 1 then some x else none

/-- The Position Report. -/
def takeReport (bs : List Byte) : Option (ReportFrame × List Byte) := do
  let (node, bs) ← takeU 1 bs
  let (flags, bs) ← takeU 1 bs
  let (x, bs) ← takeU 4 bs
  let (speed, bs) ← takeS 2 bs
  let (low, bs) ← takeU 4 bs
  let (high, bs) ← takeU 4 bs
  let (hook, bs) ← takeU 1 bs
  let (coil, bs) ← takeU 4 bs
  let nodeState ← nodeOfCode node
  let hookLoad ← hookOfCode hook
  if flags < 8 then
    some (⟨nodeState, flagged flags 4 (x : Int), speed, flagged flags 1 ⟨low, high⟩, hookLoad, flagged flags 2 coil⟩, bs)
  else none

/-- The Join. -/
def takeJoin (bs : List Byte) : Option (Interval × List Byte) := do
  let (low, bs) ← takeU 4 bs
  let (high, bs) ← takeU 4 bs
  some (⟨low, high⟩, bs)

/-- The Extend. -/
def takeExtend (bs : List Byte) : Option (ExtendFrame × List Byte) := do
  let (code, bs) ← takeU 1 bs
  let (flags, bs) ← takeU 1 bs
  let (edge, bs) ← takeU 4 bs
  let (view, bs) ← takeU 2 bs
  let side ← sideOfCode code
  if flags < 2 then some (⟨side, edge, flagged flags 1 view⟩, bs) else none

/-- The Objection. -/
def takeObjection (bs : List Byte) : Option (ObjectionFrame × List Byte) := do
  let (target, bs) ← takeU 1 bs
  let (seq, bs) ← takeU 2 bs
  let (code, bs) ← takeU 1 bs
  let reason ← reasonOfCode code
  some (⟨target, seq, reason⟩, bs)

/-- The Release. -/
def takeRelease (bs : List Byte) : Option (ReleaseFrame × List Byte) := do
  let (rank, bs) ← takeU 1 bs
  let (seq, bs) ← takeU 2 bs
  some (⟨rank, seq⟩, bs)

/-- The Make Way. -/
def takeMakeWay (bs : List Byte) : Option (MakeWayFrame × List Byte) := do
  let (target, bs) ← takeU 1 bs
  let (edge, bs) ← takeU 4 bs
  some (⟨target, edge⟩, bs)

/-- The Slot Query. -/
def takeSlotQuery (bs : List Byte) : Option (SlotQueryFrame × List Byte) := do
  let (row, bs) ← takeU 1 bs
  let (tag, bs) ← takeU 1 bs
  some (⟨row, tag⟩, bs)

/-- One Store Notice entry. -/
def takeEntry (bs : List Byte) : Option (NoticeEntry × List Byte) := do
  let (slot, bs) ← takeU 2 bs
  let (code, bs) ← takeU 1 bs
  let (flags, bs) ← takeU 1 bs
  let (coil, bs) ← takeU 4 bs
  let (weight, bs) ← takeU 2 bs
  let state ← noticeOfCode code
  some (⟨slot, state, flags % 8, flagged flags 64 coil, flagged flags 128 (weight : Int)⟩, bs)

/-- A run of n items. -/
def takeMany {α : Type} (take : List Byte → Option (α × List Byte)) : Nat → List Byte → Option (List α × List Byte)
  | 0, bs => some ([], bs)
  | n + 1, bs => do
    let (a, bs) ← take bs
    let (as, bs) ← takeMany take n bs
    some (a :: as, bs)

/-- The Store Notice. -/
def takeStoreNotice (bs : List Byte) : Option (StoreNoticeFrame × List Byte) := do
  let (answer, bs) ← takeU 1 bs
  let (tag, bs) ← takeU 1 bs
  let (count, bs) ← takeU 1 bs
  let (entries, bs) ← takeMany takeEntry count bs
  if answer < 2 && 1 ≤ count && count ≤ Config.noticeEntries then some (⟨flagged answer 1 tag, entries⟩, bs) else none

/-- R183: a cradle by its two bits; a loaded one takes its six bytes. -/
def takeCradle (code : Nat) (bs : List Byte) : Option (NoticeCradle × List Byte) :=
  match code with
  | 0 => some (.empty, bs)
  | 1 => some (.reserved, bs)
  | _ => do
    let (coil, bs) ← takeU 4 bs
    let (weight, bs) ← takeU 2 bs
    some (if code = 2 then .loaded coil weight else .unnamed weight, bs)

/-- R183: n cradles, cradle 1 in the lowest two bits. -/
def takeCradles : Nat → Nat → List Byte → Option (List NoticeCradle × List Byte)
  | 0, _, bs => some ([], bs)
  | n + 1, codes, bs => do
    let (k, bs) ← takeCradle (codes % 4) bs
    let (ks, bs) ← takeCradles n (codes / 4) bs
    some (k :: ks, bs)

/-- A length in millimetres or a limit in kilograms, two bytes. -/
def takeLength (bs : List Byte) : Option (Int × List Byte) := (takeU 2 bs).map fun p => ((p.1 : Int), p.2)

/-- R183: what follows bytes 0 to 2 of a bay with a trailer. -/
def takeLoad (bs : List Byte) : Option (NoticeLoad × List Byte) := do
  let (counts, bs) ← takeU 1 bs
  let (kingpin, bs) ← takeLength bs
  let (axle, bs) ← takeLength bs
  let (axleLimit, bs) ← takeLength bs
  let (kingpinLimit, bs) ← takeLength bs
  let (payloadLimit, bs) ← takeLength bs
  let (codes, bs) ← takeU 2 bs
  let count := counts % 8
  let (offsets, bs) ← takeMany takeLength count bs
  let (cradles, bs) ← takeCradles count codes bs
  some (⟨⟨kingpin, axle, count, offsets, axleLimit, kingpinLimit, payloadLimit, counts / 16 % 8⟩, cradles⟩, bs)

/-- R183: the Bay Notice; an EMPTY bay ends after byte 2. -/
def takeBayNotice (bs : List Byte) : Option (BayNoticeFrame × List Byte) := do
  let (bay, bs) ← takeU 1 bs
  let (code, bs) ← takeU 1 bs
  let (remaining, bs) ← takeU 1 bs
  let state ← bayOfCode code
  if state = .empty then some (⟨bay, state, remaining, none⟩, bs)
  else do
    let (load, bs) ← takeLoad bs
    some (⟨bay, state, remaining, some load⟩, bs)

/-- R20, R184: the length of a Bay Notice is 3..64; what does not fit beyond that is not applied. -/
def bayNoticeBody (payload : List Byte) : Option (Body BayNoticeFrame) :=
  if 3 ≤ payload.length && payload.length ≤ 64 then
    some (match whole (takeBayNotice payload) with
      | some f => .fields f
      | none => .misfit)
  else none

/-! ## Frames received (R19, R20) -/

/-- R20: the command a frame's kind and payload are, none where the frame is malformed. -/
def payloadCommand (kind sender seq : Nat) (payload : List Byte) : Option Instr :=
  match kind with
  | 1 => (whole (takeReport payload)).map (.positionReport sender seq)
  | 2 => (whole (takeJoin payload)).map (.join sender seq)
  | 3 => (whole (takeExtend payload)).map (.extend sender seq)
  | 4 => (whole (takeObjection payload)).map (.objection sender seq)
  | 5 => (whole (takeRelease payload)).map (.release sender seq)
  | 6 => (whole (takeMakeWay payload)).map (.makeWay sender seq)
  | 7 => (whole (takeStoreNotice payload)).map (.storeNotice sender seq)
  | 8 => (bayNoticeBody payload).map (.bayNotice sender seq)
  | 9 => (whole (takeSlotQuery payload)).map (.slotQuery sender seq)
  | _ => none

/-- Section 2.3: sender rank, kind, sequence, length, and the bytes after the header. -/
def takeHeader (bs : List Byte) : Option ((Nat × Nat × Nat × Nat) × List Byte) := do
  let (sender, bs) ← takeU 1 bs
  let (kind, bs) ← takeU 1 bs
  let (seq, bs) ← takeU 2 bs
  let (length, bs) ← takeU 1 bs
  some ((sender, kind, seq, length), bs)

/-- R19, R20: the command that the bytes of a frame of another node are. -/
def linkCommand (bs : List Byte) : Instr :=
  match takeHeader bs with
  | none => .checkError .endsEarly
  | some ((sender, kind, seq, length), rest) =>
    if rest.length < length + 2 then .checkError .endsEarly
    else if rest.drop length ≠ crcBytes (bs.take (5 + length)) then .checkError .badCheck
    else (payloadCommand kind sender seq (rest.take length)).getD (.checkError .malformed)

/-- The command that a frame of another node is, once received. -/
def commandOf (sender seq : Nat) : LinkFrame → Instr
  | .report f => .positionReport sender seq f
  | .join f => .join sender seq f
  | .extend f => .extend sender seq f
  | .objection f => .objection sender seq f
  | .release f => .release sender seq f
  | .makeWay f => .makeWay sender seq f
  | .storeNotice f => .storeNotice sender seq f
  | .bayNotice f => .bayNotice sender seq (.fields f)
  | .slotQuery f => .slotQuery sender seq f

end Sys2Proof.Machine
end

