-- ==== Sys2Proof/Safety.lean ====
section
/-! DEFINITION. What the manual promises of every state the node reaches, as tests of a state; and the words the claims
use of a command: which request it is, which timer it ends, who sent it. -/

namespace Sys2Proof.Machine

/-! ## Promises kept by every step -/

/-- R193: an event that is listed is pending, with the detail of its own number and a repeat count of 1 to 255. -/
def eventOk (e : Nat × EventRecord) : Bool :=
  e.2.pending && e.2.detail.any (fun d => d.number == e.1) && 1 ≤ e.2.count && e.2.count ≤ Config.repeatTop

/-- R193, R194: the events are well kept, and Attention is asserted exactly while one pending event is unmasked. -/
def eventsOk (p : Port) : Bool :=
  tableWf .reset p.events && p.events.all eventOk && p.attention == attentionDue p.events p.mask

/-- R191: one response for the request in hand and none without one; at most one immediate answer waits behind the frame
being sent. -/
def transmitterOk (p : Port) : Bool :=
  p.transmit.countP (fun f => !f.immediate) == (if p.inHand.isSome then 1 else 0)
    && p.transmit.tail.countP (·.immediate) ≤ 1

/-- R106, R107: the drive, the line state and the drive-not-seen flag are what reasons, node state and level make them. -/
def lineOk (s : State) : Bool :=
  s.halt.drives == driveDue s && s.halt.asserted == lineDue s && s.halt.notSeen == (driveDue s && !s.inputs.haltLine)

/-- R108: while the line is asserted no axis has a move in hand. -/
def haltedOk (s : State) : Bool := !s.halt.asserted || (s.travel.bridge.move.isNone && s.travel.trolley.move.isNone)

/-- R80: what each axis state drives, which timers run in it, and whether a move is in hand. -/
def axisOk (r : AxisRecord) : Bool :=
  let timers (brake park profile settle wait : Bool) : Bool :=
    r.brakeTimer.isSome == brake && r.parkTimer.isSome == park && r.profileTimer.isSome == profile
      && r.settle.isSome == settle && r.waitTimer.isSome == wait
  match r.state with
  | .parked => r.setpoint == 0 && !r.brake && timers false false false false false && r.move.isNone
  | .releasing => r.setpoint == 0 && r.brake && timers true false false false false && r.move.isSome
  | .holding => r.setpoint == 0 && r.brake && timers false true false false false && r.move.isNone
  | .moving => r.brake && timers false false true false false && r.move.isSome
  | .settling => r.setpoint == 0 && r.brake && timers false false true true false && r.move.isSome
  | .waiting => r.setpoint == 0 && r.brake && timers false false true false true && r.move.isSome
  | .stopping => r.brake && timers false false true false false && r.move.isNone
  | .fault => r.setpoint == 0 && r.brake && timers false false false false false && r.move.isNone

/-- R80: both axes are as their states say, and the trolley is never WAITING. -/
def axesOk (s : State) : Bool := axisOk s.travel.bridge && axisOk s.travel.trolley && s.travel.trolley.state != .waiting

/-- R54: the node states in which the own claim record holds nothing. -/
def claimless : NodeState → Bool
  | .unconfigured | .listening | .joinBlocked | .voided => true
  | .joining | .active | .isolated => false

/-- R54: the own claim record is empty where the node state holds no claim. -/
def claimOk (s : State) : Bool := !claimless s.node || s.claim == ClaimRecord.reset

/-- R36, R115, R119, R142, R152, R170, R190, R191: counters and lists stay within their bounds. -/
def boundsOk (s : State) : Bool :=
  let c := s.link.counters
  c.checkErrors ≤ Config.counterTop && c.framesTaken ≤ Config.counterTop && c.framesReceived ≤ Config.counterTop
    && c.contentionLosses ≤ Config.counterTop && s.link.seq < Config.sequenceModulus
    && s.port.framing ≤ Config.counterTop && s.port.overrun ≤ Config.counterTop
    && s.weigher.lost ≤ Config.counterTop && s.weigher.window.length ≤ Config.windowCapacity
    && s.tasks.nest.length ≤ Config.nestCapacity && s.tasks.outcomes.length ≤ Config.outcomeCapacity
    && s.store.counter < 256

/-- The store tables are in canonical form. -/
def tablesOk (s : State) : Bool := tableWf .unknown s.store.slots && tableWf .reset s.store.rows

/-- R174: a bay has a load exactly outside EMPTY, with an offset and a cradle record for each cradle of its trailer. -/
def bayOk (b : BayRecord) : Bool :=
  b.load.isSome == (b.state != .empty)
    && b.load.all fun l => l.trailer.offsets.length == l.trailer.count && l.cradles.length == l.trailer.count

/-- R174: every bay record holds what its state says. -/
def baysOk (s : State) : Bool := [0, 1, 2, 3].all fun b => bayOk (s.bay b)

/-- R8, R11, R14: a configured node has a start record that passes both passes of its check, and an unconfigured one has
none; without one no attempt runs, and the listen window runs in LISTENING alone (notes/assumptions/32.md). -/
def configuredOk (s : State) : Bool :=
  s.record.isSome == (s.node != .unconfigured) && s.record.all (fun c => (startRecordFailure c).isNone)
    && (s.record.isSome || s.link.attempt.isNone) && (s.listen.isNone || s.node == .listening)

/-- R37, R41, R47: what the presence of a peer record allows: release pending and arming only while STALE, a claim not while
ABSENT or RELEASED, and the silence timer exactly while LIVE or DOUBTFUL. -/
def peerOk (p : PeerRecord) : Bool :=
  (p.releasePending.isNone || p.presence == .stale) && (p.arming.isNone || p.presence == .stale)
    && (p.claim.isNone || (p.presence != .absent && p.presence != .released))
    && p.silence.isSome == (p.presence == .live || p.presence == .doubtful)

/-- R37: every peer record is as its presence allows. -/
def peersOk (s : State) : Bool := [1, 2, 3, 4, 5, 6, 7, 8].all fun r => peerOk (s.peer r)

/-- R143: between two commands no query scan is owed. -/
def settled (s : State) : Bool := !s.scanDue

/-- R24: an entry stands before another: by class, and within a class by age. -/
def standsBefore (e f : Entry) : Bool :=
  e.content.cls < f.content.cls || (e.content.cls == f.content.cls && e.age ≤ f.age)

/-- R24: the queue stands in order of class, and of age within each class. -/
def ordered : List Entry → Bool
  | [] => true
  | e :: q => q.all (standsBefore e) && ordered q

/-- R25: no two entries that are not withdrawn would merge. -/
def merged : List Entry → Bool
  | [] => true
  | e :: q => (e.withdrawn || q.all fun f => f.withdrawn || !(e.content.merges f.content)) && merged q

/-- R16, R24, R25, R28: the queue is ordered and merged; an entry is being offered exactly while an attempt runs, and
only that one can be withdrawn and still queued. A successor is of its entry's own class and merges with it (R27). -/
def queueOk (l : Link) : Bool :=
  ordered l.queue && merged l.queue && l.queue.countP (·.offered) == (if l.attempt.isSome then 1 else 0)
    && l.queue.all fun e => (!e.withdrawn || e.offered) && e.successor.all fun c =>
      e.offered && c.1.cls == e.content.cls && c.1.merges e.content && !c.1.live && !e.content.live

/-- R82, R85, R90: the bounds of a speed setpoint: the axis maximum; creep speed while the slowdown input on the side of
travel is active; and the move speed of a move in hand, whose requested speed lies in the range of R82. -/
def speedOk (s : State) (a : Axis) : Bool :=
  let r := s.axis a
  let p := axisParams s.conf a
  let v := magnitude r.setpoint
  v == 0 && r.move.isNone || s.record.isSome && v ≤ p.maxSpeed
    && (v ≤ p.creepSpeed || !slowActive s a (if 0 < r.setpoint then .high else .low))
    && r.move.all fun m => p.creepSpeed ≤ m.requested && m.requested ≤ p.maxSpeed && p.creepSpeed ≤ m.speed && v ≤ m.speed

/-! ## The timers -/

/-- The deadline of the timer whose expiry a command is; none for a command that is no expiry. The settle timer has no
deadline of its own (R92). -/
def timerOf (s : State) : Instr → Option (Option Nat)
  | .hostSilenceExpiry => some s.port.hostTimer
  | .listenWindowEnd => some s.listen
  | .reportTimerExpiry => some s.link.reportTimer
  | .silenceTimeout rank => some (s.peer rank).silence
  | .isolationTimeout => some s.peers.isolation
  | .armingExpiry rank => some ((s.peer rank).arming.map (·.expiry))
  | .releaseWindowExpiry rank => some ((s.peer rank).releasePending.map (·.expiry))
  | .joinWindowExpiry => some s.claim.joinWindow
  | .extensionWindowExpiry => some (extensionDeadline s)
  | .peerJoinWindowExpiry rank => some ((s.peer rank).joinWindow.map (·.expiry))
  | .retryTimerExpiry => some s.claim.retry
  | .shrinkTimerExpiry => some s.claim.shrink
  | .queryExpiry => some (s.store.query.bind (·.expiry))
  | .answerPlanDue => some (s.store.plan.map (·.due))
  | .brakeSettleExpiry a => some (s.axis a).brakeTimer
  | .parkTimerExpiry a => some (s.axis a).parkTimer
  | .profilePeriod a => some (s.axis a).profileTimer
  | .waitTimeout => some s.travel.bridge.waitTimer
  | .sampleTimerExpiry => some s.weigher.timer
  | .powerOn | .configure _ _ | .readStatus _ _ | .readEvents _ _ | .setEventMask _ _ | .move _ _ | .goTo _ _
  | .setSpeed _ _ | .stopMove _ _ | .tare _ _ | .beginTask _ _ | .abortTask _ _ | .readTask _ _ | .readRow _ _
  | .surveyRow _ _ | .blockSlot _ _ | .unblockSlot _ _ | .dockTruck _ _ | .closeBay _ _ | .undock _ _ | .readBay _ _
  | .readPeers _ _ | .prepareRelease _ _ | .confirmRelease _ _ | .rejoin _ _ | .halt _ _ | .clearHalt _ _
  | .restart _ _ | .unknownRequest _ _ | .impossibleLength | .incomplete _ | .badCheck _ _ | .resyncSilence | .busy _ _
  | .responseSent | .attempt | .contentionLoss | .taken | .checkError _ | .positionReport _ _ _ | .join _ _ _
  | .extend _ _ _ | .objection _ _ _ | .release _ _ _ | .makeWay _ _ _ | .storeNotice _ _ _ | .slotQuery _ _ _
  | .bayNotice _ _ _ | .settleTimerExpiry _ | .positionInputChange _ _ | .slowdownEdge _ _ _ | .endLimitEdge _ _ _
  | .hoistCount _ | .topReferenceEdge _ | .haltLineLevelChange _ | .dataReadyEdge _ | .sample _
  | .converterByteComplete _ => none

/-! ## The neighbours of the own claim -/

/-- R64 step 1: a rank lies on a side of the own one. -/
def onSide (c : StartRecord) (d : Side) (r : Nat) : Prop :=
  match d with
  | .high => c.ownRank < r ∧ r ≤ c.craneCount
  | .low => 0 < r ∧ r < c.ownRank

/-- R64 step 1: a rank is the nearest on a side whose presence is not RELEASED. -/
def nearestOn (s : State) (d : Side) (r : Nat) : Prop :=
  onSide s.conf d r ∧ (s.peer r).presence ≠ .released ∧
    ∀ k, onSide s.conf d k → ((d = .high ∧ k < r) ∨ (d = .low ∧ r < k)) → (s.peer k).presence = .released

/-- R64 step 1: the neighbour test of a side holds: its nearest rank that is not RELEASED, where there is one, is LIVE, holds
a claim, has no release pending and is not the rank of the release in flight. -/
def neighbourFit (s : State) (d : Side) : Prop :=
  ∀ r, nearestOn s d r → (s.peer r).presence = .live ∧ (s.peer r).claim.isSome = true ∧ (s.peer r).releasePending = none ∧
    ∀ g, s.peers.inFlight = some g → g.rank ≠ r

/-- R64 step 2: a peer's region lies beyond a claim on a side, and the end that faces the claim is at an edge. -/
def facesAt (s : State) (k : Interval) (d : Side) (r : Nat) (edge : Int) : Prop :=
  ∃ i, peerRegion (s.peer r) = some i ∧
    ((d = .high ∧ k.high < i.high ∧ i.low = edge) ∨ (d = .low ∧ i.low < k.low ∧ i.high = edge))

/-- The distance of a rank from the own one. -/
def apart (s : State) (r : Nat) : Nat := max r s.conf.ownRank - min r s.conf.ownRank

/-- R64 step 2: a peer limits a claim on a side at an edge: its region gives the edge, and no other peer as near does. -/
def limits (s : State) (k : Interval) (d : Side) (edge : Int) (r : Nat) : Prop :=
  r ∈ peerRanks s ∧ facesAt s k d r edge ∧
    ∀ q ∈ peerRanks s, q ≠ r → facesAt s k d q edge → apart s r < apart s q

/-- R65: an own Extend from a claim to an edge is not void: the neighbour test holds, and what it adds overlaps no peer's
region. -/
def extendStands (s : State) (k : Interval) (d : Side) (edge : Int) : Prop :=
  neighbourFit s d ∧ ∀ r ∈ peerRanks s, ∀ i, peerRegion (s.peer r) = some i → overlaps (addedInterval k d edge) i = false

/-- R65: from s to t, in ACTIVE, an own Extend that waits in the queue of s and is not void there was tested again: it is
kept where it stands in t, and elsewhere it is withdrawn, the pending extension removed and the retry timer started if the
wanted edge is present. -/
def extendRetested (s t : State) : Prop :=
  s.node = .active → ∀ p, s.claim.pending = some p → p.phase = .queued → ∀ k, s.claim.confirmed = some k →
    extendStands s k p.side p.edge →
    (extendStands t k p.side p.edge → t.claim = s.claim ∧ queued t isClaimFrame = queued s isClaimFrame) ∧
    (¬ extendStands t k p.side p.edge → queued t isClaimFrame = false ∧ t.claim = { s.claim with
      pending := none
      retry := if s.claim.wanted.isSome then some (t.now + s.conf.reportInterval) else s.claim.retry })

/-- R60: from s to t, in LISTENING, an own Join that waits in the queue of s and is not void there was tested again: it is
kept where it stands in t, and elsewhere it is withdrawn and the node is JOIN_BLOCKED. -/
def joinRetested (s t : State) : Prop :=
  s.node = .listening → ∀ e ∈ s.link.queue, ∀ j, e.content = .join j → e.withdrawn = false →
    overlapsTested s s.conf.ownRank j = false →
    (overlapsTested t s.conf.ownRank j = false → t.node = .listening ∧ queued t isJoin = true) ∧
    (overlapsTested t s.conf.ownRank j = true → t.node = .joinBlocked ∧ queued t isJoin = false ∧ t.claim = .reset ∧
      eventAt t.port 14 = (eventAt s.port 14).next (.nodeState .joinBlocked .listening))

/-! ## Frames from a peer that is heard without a break -/

/-- The command is a frame of another node, with its sender. -/
def frameSender : Instr → Option Nat
  | .positionReport r _ _ | .join r _ _ | .extend r _ _ | .objection r _ _ | .release r _ _ | .makeWay r _ _
  | .storeNotice r _ _ | .slotQuery r _ _ | .bayNotice r _ _ => some r
  | .powerOn | .configure _ _ | .readStatus _ _ | .readEvents _ _ | .setEventMask _ _ | .move _ _ | .goTo _ _
  | .setSpeed _ _ | .stopMove _ _ | .tare _ _ | .beginTask _ _ | .abortTask _ _ | .readTask _ _ | .readRow _ _
  | .surveyRow _ _ | .blockSlot _ _ | .unblockSlot _ _ | .dockTruck _ _ | .closeBay _ _ | .undock _ _ | .readBay _ _
  | .readPeers _ _ | .prepareRelease _ _ | .confirmRelease _ _ | .rejoin _ _ | .halt _ _ | .clearHalt _ _
  | .restart _ _ | .unknownRequest _ _ | .impossibleLength | .incomplete _ | .badCheck _ _ | .resyncSilence | .busy _ _
  | .responseSent | .attempt | .contentionLoss | .taken | .checkError _ | .hostSilenceExpiry | .listenWindowEnd
  | .reportTimerExpiry | .silenceTimeout _ | .isolationTimeout | .armingExpiry _ | .releaseWindowExpiry _
  | .joinWindowExpiry | .extensionWindowExpiry | .peerJoinWindowExpiry _ | .retryTimerExpiry | .shrinkTimerExpiry
  | .queryExpiry | .answerPlanDue | .brakeSettleExpiry _ | .parkTimerExpiry _ | .profilePeriod _ | .settleTimerExpiry _
  | .waitTimeout | .positionInputChange _ _ | .slowdownEdge _ _ _ | .endLimitEdge _ _ _ | .hoistCount _
  | .topReferenceEdge _ | .haltLineLevelChange _ | .dataReadyEdge _ | .sample _ | .sampleTimerExpiry
  | .converterByteComplete _ => none

/-- R38: a frame with this sequence from a LIVE peer shows no gap, in ACTIVE, with no own Extend waiting to be re-tested. -/
def quiet (s : State) (sender seq : Nat) : Bool :=
  s.record.isSome && s.node == .active && settled s && sender != 0 && sender ≤ s.conf.craneCount
    && sender != s.conf.ownRank && s.conf.craneCount != 1 && (s.peer sender).presence == .live
    && (s.peer sender).lastSeq.any (fun l => seq == (l + 1) % Config.sequenceModulus)
    && s.claim.pending.all fun p => p.phase != .queued

/-- R36, R38, R46: what the Link Controller and the Peer Table do with such a frame: it is counted as received, the
sender's silence timer and the isolation timer start again, and the last sequence is the frame's. -/
def heard (s : State) (sender seq : Nat) : State :=
  let p := { s.peer sender with silence := some (s.now + silenceTimeoutOf s.conf), lastSeq := some seq }
  { s with
    link := { s.link with counters := { s.link.counters with
      framesReceived := countUp s.link.counters.framesReceived } }
    peers := { s.peers with
      table := putPeer s.peers.table sender p, isolation := some (s.now + silenceTimeoutOf s.conf) } }

/-! ## The requests -/

/-- R192: the kind code and tag of a command that is a well-formed request. -/
def requestHeader : Instr → Option (Nat × Nat)
  | .configure tag _ => some (1, tag)
  | .readStatus tag _ => some (2, tag)
  | .readEvents tag _ => some (3, tag)
  | .setEventMask tag _ => some (4, tag)
  | .move tag _ => some (5, tag)
  | .goTo tag _ => some (6, tag)
  | .setSpeed tag _ => some (7, tag)
  | .stopMove tag _ => some (8, tag)
  | .tare tag _ => some (9, tag)
  | .beginTask tag _ => some (10, tag)
  | .abortTask tag _ => some (11, tag)
  | .readTask tag _ => some (12, tag)
  | .readRow tag _ => some (13, tag)
  | .surveyRow tag _ => some (14, tag)
  | .blockSlot tag _ => some (15, tag)
  | .unblockSlot tag _ => some (16, tag)
  | .dockTruck tag _ => some (17, tag)
  | .closeBay tag _ => some (18, tag)
  | .undock tag _ => some (19, tag)
  | .readBay tag _ => some (20, tag)
  | .readPeers tag _ => some (21, tag)
  | .prepareRelease tag _ => some (22, tag)
  | .confirmRelease tag _ => some (23, tag)
  | .rejoin tag _ => some (24, tag)
  | .halt tag _ => some (25, tag)
  | .clearHalt tag _ => some (26, tag)
  | .restart tag _ => some (27, tag)
  | .unknownRequest kind tag => some (kind, tag)
  | .powerOn | .impossibleLength | .incomplete _ | .badCheck _ _ | .resyncSilence | .busy _ _ | .responseSent
  | .hostSilenceExpiry | .attempt | .contentionLoss | .taken | .checkError _ | .positionReport _ _ _ | .join _ _ _
  | .extend _ _ _ | .objection _ _ _ | .release _ _ _ | .makeWay _ _ _ | .storeNotice _ _ _ | .slotQuery _ _ _
  | .bayNotice _ _ _ | .listenWindowEnd | .reportTimerExpiry | .silenceTimeout _ | .isolationTimeout | .armingExpiry _
  | .releaseWindowExpiry _ | .joinWindowExpiry | .extensionWindowExpiry | .peerJoinWindowExpiry _ | .retryTimerExpiry
  | .shrinkTimerExpiry | .queryExpiry | .answerPlanDue | .brakeSettleExpiry _ | .parkTimerExpiry _ | .profilePeriod _
  | .settleTimerExpiry _ | .waitTimeout | .positionInputChange _ _ | .slowdownEdge _ _ _ | .endLimitEdge _ _ _
  | .hoistCount _ | .topReferenceEdge _ | .haltLineLevelChange _ | .dataReadyEdge _ | .sample _ | .sampleTimerExpiry
  | .converterByteComplete _ => none

/-- R192: the kinds handled before configuration. -/
def handledEarly (kind : Nat) : Bool :=
  kind == 1 || kind == 2 || kind == 3 || kind == 12 || kind == 13 || kind == 20 || kind == 21 || kind == 27

/-- R192: the requests acting on a payload: the payload is not of its kind's length. -/
def unfit : Instr → Bool
  | .configure _ b => b == .misfit
  | .readStatus _ b | .readEvents _ b | .tare _ b | .readTask _ b | .readPeers _ b | .rejoin _ b | .halt _ b
  | .clearHalt _ b | .restart _ b => b == .misfit
  | .setEventMask _ b => b == .misfit
  | .move _ b => b == .misfit
  | .goTo _ b => b == .misfit
  | .setSpeed _ b => b == .misfit
  | .stopMove _ b => b == .misfit
  | .beginTask _ b => b == .misfit
  | .abortTask _ b | .readRow _ b | .blockSlot _ b | .unblockSlot _ b | .closeBay _ b | .undock _ b | .readBay _ b
  | .confirmRelease _ b => b == .misfit
  | .surveyRow _ b => b == .misfit
  | .dockTruck _ b => b == .misfit
  | .prepareRelease _ b => b == .misfit
  | .powerOn | .unknownRequest _ _ | .impossibleLength | .incomplete _ | .badCheck _ _ | .resyncSilence | .busy _ _
  | .responseSent | .hostSilenceExpiry | .attempt | .contentionLoss | .taken | .checkError _ | .positionReport _ _ _
  | .join _ _ _ | .extend _ _ _ | .objection _ _ _ | .release _ _ _ | .makeWay _ _ _ | .storeNotice _ _ _
  | .slotQuery _ _ _ | .bayNotice _ _ _ | .listenWindowEnd | .reportTimerExpiry | .silenceTimeout _ | .isolationTimeout
  | .armingExpiry _ | .releaseWindowExpiry _ | .joinWindowExpiry | .extensionWindowExpiry | .peerJoinWindowExpiry _
  | .retryTimerExpiry | .shrinkTimerExpiry | .queryExpiry | .answerPlanDue | .brakeSettleExpiry _ | .parkTimerExpiry _
  | .profilePeriod _ | .settleTimerExpiry _ | .waitTimeout | .positionInputChange _ _ | .slowdownEdge _ _ _
  | .endLimitEdge _ _ _ | .hoistCount _ | .topReferenceEdge _ | .haltLineLevelChange _ | .dataReadyEdge _ | .sample _
  | .sampleTimerExpiry | .converterByteComplete _ => false

/-- R189, R191: the port can take a request in hand. -/
def ready (s : State) : Bool := s.port.receiver == .hunt && s.port.inHand.isNone

/-- The node as a request of a kind and tag finds it: the request in hand and the host silence timer restarted. -/
def taken (s : State) (kind tag : Nat) : State := takeInHand (restartHostTimer s) kind tag

/-- The node after a response is formed. -/
def answered (s : State) (kind tag : Nat) (st : Status) (r : Result) : State := transmit s ⟨false, kind, tag, st, r⟩

/-! ## The checks of a request -/

/-- One check of a request: what must hold, and the status, with what it names, that refuses the request elsewhere. -/
abbrev Check := Prop × Status × Result

/-- The checks of a request are made in order: the first that fails gives its answer, which is none where none fails. -/
def inOrder (answer : Option (Status × Result) → Prop) : List Check → Prop
  | [] => answer none
  | (p, refusal) :: rest => (¬ p → answer (some refusal)) ∧ (p → inOrder answer rest)

/-- A check whose refusal names nothing further. -/
def check (p : Prop) (st : Status) : Check := (p, st, .none)

/-- R134, R156: the checks of a source, for a task at a depth. -/
def sourceChecks (s : State) (depth : Nat) : Place → List Check
  | .slot n =>
    let uppers := if n % 16 < 8 then uppersOn s.conf n else []
    [check (slotInUse s.conf n = true) .range,
      check ((slotAt s n).isOccupied = true ∧ (rowAt s (n / 16)).known = true) .state,
      check (rowCovered s (n / 16) = true) .zone,
      check (∀ u ∈ uppers, (slotAt s u).isReservedIn = false) .stack,
      check ((∃ u ∈ uppers, slotAt s u ≠ .free) → depth = 1) .stack]
  | .intake i => [check (covers s (intakePoint s.conf i).x = true) .zone]
  | .cradle _ _ | .hook => []

/-- R133: the stacking tests of an upper slot for a coil of a class and a known weight. -/
def stacksOn (s : State) (n cls : Nat) (weight : Option Int) : Prop :=
  match slotAt s (n - 8), slotAt s (n - 7), weight with
  | .occupied _ (some w1) k1, .occupied _ (some w2) k2, some w =>
    k1 ≤ k2 + 1 ∧ k2 ≤ k1 + 1 ∧ cls ≤ s.conf.saddle.getD (min k1 k2) 0 ∧
      w + max (ceilDiv (w * s.conf.tolPerMille) 1000) s.conf.tolMin ≤ min w1 w2
  | _, _, _ => False

/-- R180: the checks of a cradle of a bay for a coil of a known weight. -/
def cradleChecks (s : State) (b i : Nat) (weight : Option Int) : List Check :=
  let bay := s.bay b
  match bay.load with
  | none => [check False .state]
  | some l =>
    let t := l.trailer
    let loads := prospectiveLoads s.conf l (weight.map (t.offsets.getD (i - 1) 0, ·))
    [check (bay.state ≠ .empty) .state, check (1 ≤ i ∧ i ≤ t.count) .range, check (bayCovered s b = true) .zone,
      check (bay.state ≠ .closed ∧ bay.unsure = false) .state, check (cradleAt bay i = .empty) .state,
      check (∀ k ∈ l.cradles, k ≠ .reserved .foreign) .state, check (loadedCount bay + reservedCount bay < t.planned) .state,
      check (weight.isSome = true) .weight,
      (loads.axle ≤ t.axleLimit, .axle, .overload .axle loads.axle t.axleLimit),
      (loads.kingpin ≤ t.kingpinLimit, .axle, .overload .kingpin loads.kingpin t.kingpinLimit),
      (loads.payload ≤ t.payloadLimit, .axle, .overload .payload loads.payload t.payloadLimit)]

/-- R133, R156: the checks of a destination for a coil of a class and a known weight. -/
def destinationChecks (s : State) (cls : Nat) (weight : Option Int) : Place → List Check
  | .slot n =>
    [check (slotInUse s.conf n = true) .range, check ((rowAt s (n / 16)).known = true) .state,
      check (rowCovered s (n / 16) = true) .zone, check (slotAt s n = .free) .state,
      check (8 ≤ n % 16 → stacksOn s n cls weight) .stack]
  | .cradle b i => cradleChecks s b i weight
  | .intake _ | .hook => []

/-! ## Requests that name one axis -/

/-- A Move of one axis. -/
def moveOf : Axis → AxisMove → MoveRequest
  | .bridge, m => ⟨some m, none⟩
  | .trolley, m => ⟨none, some m⟩

/-- A Stop Move of one axis. -/
def stopOf : Axis → AxesRequest
  | .bridge => ⟨true, false⟩
  | .trolley => ⟨false, true⟩

/-- R81: the tests of a Move that give STATE. -/
def moveState (s : State) (q : MoveRequest) : Prop :=
  s.node ≠ .active ∨ s.halt.asserted = true ∨
    ∃ n ∈ namedMoves q, (s.axis n.1).state = .stopping ∨ (s.axis n.1).state = .fault ∨ s.position n.1 = none

/-- R81: the hook test of a Move fails. -/
def moveLowHook (s : State) : Prop :=
  s.weigher.load ≠ .empty ∧ (s.travel.hoist.referenced = false ∨ s.travel.hoist.height < s.conf.clearHeight)

/-- R81: the limit test of a Move fails. -/
def moveLimit (s : State) (q : MoveRequest) : Prop :=
  ∃ n ∈ namedMoves q, ∃ x, s.position n.1 = some x ∧
    let t := clampTarget s.conf n.1 n.2.target
    (axisParams s.conf n.1).window < magnitude (t - x) ∧
      ((x < t ∧ (s.axis n.1).highHold = true) ∨ (t < x ∧ (s.axis n.1).lowHold = true))

/-- R81: a Move passes its tests. -/
def moveAccepted (s : State) (q : MoveRequest) : Prop := ¬ moveState s q ∧ ¬ moveLowHook s ∧ ¬ moveLimit s q

/-! ## What a command leaves behind -/

/-- R63, R82, R83, R85: from s to t an axis took up an accepted move. HOLDING or PARKED with the clamped target within its
in-position window, the move ends DONE at once, and axis state, setpoint, holds and timers do not change
(notes/assumptions/37.md); for the bridge the end clears the wanted edge and starts the shrink timer, or shrinks at once. Any
other is taken up by its axis state: the move record holds the clamped target, the clamped speed, the greater of that speed
and the present setpoint, the side of the target and no stop order; the hold of the other side is cleared, and a move in hand
ends REPLACED. For the bridge the shrink timer stops and the wanted edge is set afresh, of a target beyond the claim on both
sides to the high side (notes/assumptions/36.md). A target that is the position itself keeps the side of the move it
replaces, else the high one (notes/assumptions/17.md). -/
def axisTakenUp (s t : State) (a : Axis) (m : AxisMove) : Prop :=
  ∀ x, s.position a = some x →
    let c := s.conf
    let r := s.axis a
    let u := t.axis a
    let goal := clampTarget c a m.target
    let there : Prop := (r.state = .holding ∨ r.state = .parked) ∧ magnitude (goal - x) ≤ (axisParams c a).window
    let v := clampSpeed c a m.speed
    let d : Side := if x < goal then .high else if goal < x then .low else (r.move.map (·.direction)).getD .high
    (there → u = { r with move := none, last := some ⟨.done, goal, some x⟩ } ∧
      (a = .bridge → t.claim.wanted = none ∧ t.claim.retry = none ∧
        (c.craneCount = 1 → t.claim.confirmed = s.claim.confirmed ∧ t.claim.shrink = none) ∧
        (c.craneCount ≠ 1 → c.releaseDelay ≠ 0 → t.claim.confirmed = s.claim.confirmed ∧
          t.claim.shrink = some (s.now + 1000 * c.releaseDelay)) ∧
        (c.craneCount ≠ 1 → c.releaseDelay = 0 → t.claim.pending = none ∧ t.claim.shrink = none) ∧
        (c.craneCount = 1 ∨ c.releaseDelay ≠ 0 → ∀ k, s.claim.confirmed = some k → k.low ≤ goal - reach c →
          goal + reach c ≤ k.high → t.claim.pending = s.claim.pending))) ∧
    (¬ there →
      u.move = some ⟨goal, v, max v (magnitude r.setpoint), d, none⟩ ∧ u.setpoint = r.setpoint ∧
      (r.state = .parked → u.state = .releasing ∧ u.brake = true ∧ u.brakeTimer = some (s.now + c.brakeSettle)) ∧
      (r.state = .holding → u.state = .moving ∧ u.parkTimer = none ∧ u.commanded = some (100 * x)) ∧
      (r.state = .releasing → u.state = .releasing ∧ u.brakeTimer = r.brakeTimer) ∧
      (r.state = .moving → u.state = .moving ∧ u.commanded = r.commanded ∧ u.profileTimer = r.profileTimer) ∧
      (r.state = .settling ∨ r.state = .waiting → u.state = .moving ∧ u.commanded = r.commanded ∧
        u.settle = none ∧ u.waitTimer = none) ∧
      u.lowHold = (r.lowHold && d == .low) ∧ u.highHold = (r.highHold && d == .high) ∧
      u.last = (match r.move with
        | some old => some ⟨.replaced, old.target, some x⟩
        | none => r.last) ∧
      (a = .bridge → t.claim.confirmed = s.claim.confirmed ∧ t.claim.shrink = none ∧
        ∀ k, s.claim.confirmed = some k → t.claim.wanted =
          if k.high < goal + reach c then some ⟨.high, goal + reach c⟩
          else if goal - reach c < k.low then some ⟨.low, goal - reach c⟩ else none))

/-- R121 to R127: byte b completes a sample in range of a tared weigher, at whose evaluation an act is handed on with a net
and a filtered value. -/
def handsOn (s : State) (b : Byte) (act : HookAct) (net filtered : Int) : Prop :=
  ∃ b1 b2 : Byte, s.weigher.converter = .byte3 b1 b2 ∧ saturated (rawCount b1 b2 b) = false ∧ s.weigher.tared = true ∧
    let w := enterGross s.weigher (grossOf s.conf (rawCount b1 b2 b))
    w.filtered = some filtered ∧ net = filtered - w.tare ∧
    (evalHook s.conf w.load net (stable s.conf w) (classOf s.travel.bridge.state s.travel.trolley.state) w.settle).act =
      some act

/-- R168 to R170: from s to u the whole nest was unwound with a cause arising at a task and its depth: an outcome for each
task, the outermost at the head; the slots that only unsettled journal entries name take their prior records back, the
cradles of such entries are EMPTY, other slots and bays stay; TASK_ABORTED is raised once. -/
def nestAborted (s u : State) (cause : AbortCause) (number depth : Nat) (hook loose : Bool) (extra : AbortDetail) : Prop :=
  let nest := s.tasks.nest
  let entries := nest.flatMap (·.journal)
  u.tasks.nest = [] ∧ u.tasks.counter = s.tasks.counter ∧
  u.tasks.outcomes =
    ((nest.map fun k => (⟨k.number, k.kind, some (cause, depth)⟩ : TaskOutcome)) ++ s.tasks.outcomes).take 3 ∧
  u.tasks.hookCoil.isSome = hook ∧ u.tasks.loose = loose ∧
  (∀ n p, JournalEntry.slot n p false ∈ entries → (∀ e ∈ entries, ∀ r b, e = .slot n r b → r = p) → slotAt u n = p) ∧
  (∀ n, (∀ e ∈ entries, ∀ p, e ≠ .slot n p false) → slotAt u n = slotAt s n) ∧
  (∀ b i p, JournalEntry.cradle b i p false ∈ entries → cradleAt (u.bay b) i = .empty) ∧
  (∀ b, (∀ e ∈ entries, ∀ i p, e ≠ .cradle b i p false) → u.bay b = s.bay b) ∧
  eventAt u.port 2 = (eventAt s.port 2).next (.taskAborted cause number depth nest.length hook loose extra) ∧
  (∀ n, n ≠ 2 → eventAt u.port n = eventAt s.port n) ∧ u.store.outbox = s.store.outbox

/-- R153: from s to u the hook let its load go: both hook records are clear, and the unplaced record says how a coil or a
loose load left; where neither was held it is as it was. -/
def loadGone (s u : State) (way : UnplacedWay) (net : Option Int) : Prop :=
  u.tasks.hookCoil = none ∧ u.tasks.loose = false ∧
  u.tasks.unplaced =
    match s.tasks.hookCoil, s.tasks.loose with
    | some k, _ => some ⟨way, some k.coil, net, s.position .bridge, s.position .trolley⟩
    | none, true => some ⟨way, none, net, s.position .bridge, s.position .trolley⟩
    | none, false => s.tasks.unplaced

/-- Every block but the Travel Profiler's axes, the Halt Line Unit, the Claim Controller, the link and the port is as it
was, and the Store Map but for a query scan (R143). -/
def otherBlocksKept (s t : State) : Prop :=
  t.travel.hoist = s.travel.hoist ∧ t.weigher = s.weigher ∧ t.store.slots = s.store.slots ∧
  t.store.outbox = s.store.outbox ∧ t.tasks = s.tasks ∧ t.bays = s.bays ∧ t.peers = s.peers ∧ t.node = s.node ∧
  t.listen = s.listen ∧ t.record = s.record ∧ t.inputs = s.inputs

/-- R63, R104: from s to t the move of an axis ended with an outcome other than REPLACED: the last outcome and MOVE_DONE
hold outcome, target and position; the end of a bridge move clears the wanted edge and, in ACTIVE and ISOLATED with more
cranes than one, starts the shrink timer. The other axis and every other block are as they were, but for the shrink that
follows at once where the release delay is 0 (R73) and the query scan that follows a shrink. -/
def moveEnded (s t : State) (a : Axis) (o : MoveOutcome) (target : Int) : Prop :=
  (t.axis a).move = none ∧ (t.axis a).last = some ⟨o, target, s.position a⟩ ∧
  eventAt t.port 0 = (eventAt s.port 0).next (.moveDone a o target (s.position a)) ∧
  (∀ n, n ≠ 0 → n ≠ 7 → eventAt t.port n = eventAt s.port n) ∧
  (a = .bridge → t.claim.wanted = none ∧ t.claim.retry = none ∧
    (¬ shrinks s → t.claim.confirmed = s.claim.confirmed ∧ t.claim.shrink = s.claim.shrink) ∧
    (shrinks s → s.conf.releaseDelay ≠ 0 → t.claim.confirmed = s.claim.confirmed ∧
      t.claim.shrink = some (t.now + 1000 * s.conf.releaseDelay))) ∧
  (a = .trolley → t.claim = s.claim ∧ t.link = s.link ∧ t.store = s.store) ∧
  (∀ b, b ≠ a → t.axis b = s.axis b) ∧ t.halt = s.halt ∧ otherBlocksKept s t

/-- R87, R96: an axis has come to HOLDING at a time: setpoint 0, the brake released, the park timer started, no other timer
running, no commanded position; the end-limit holds are as they were. -/
def nowHolding (s t : State) (a : Axis) : Prop :=
  (t.axis a).state = .holding ∧ (t.axis a).setpoint = 0 ∧ (t.axis a).brake = true ∧ (t.axis a).commanded = none ∧
  (t.axis a).parkTimer = some (t.now + 1000 * s.conf.parkDelay) ∧ (t.axis a).brakeTimer = none ∧
  (t.axis a).profileTimer = none ∧ (t.axis a).settle = none ∧ (t.axis a).waitTimer = none ∧
  (t.axis a).lowHold = (s.axis a).lowHold ∧ (t.axis a).highHold = (s.axis a).highHold

/-- R96: from s to t an axis was stopped with an outcome: one without a move in hand is as it was; a move in hand ends, and
the axis keeps its setpoint and enters PARKED from RELEASING, HOLDING at setpoint 0, and STOPPING elsewhere. -/
def axisStopped (s t : State) (a : Axis) (o : MoveOutcome) : Prop :=
  ((s.axis a).move = none → t.axis a = s.axis a) ∧
  ∀ m, (s.axis a).move = some m → (t.axis a).move = none ∧ (t.axis a).last = some ⟨o, m.target, s.position a⟩ ∧
    (t.axis a).setpoint = (s.axis a).setpoint ∧ (t.axis a).lowHold = (s.axis a).lowHold ∧
    (t.axis a).highHold = (s.axis a).highHold ∧ (t.axis a).brake = ((s.axis a).state != .releasing) ∧
    (t.axis a).state =
      if (s.axis a).state = .releasing then .parked else if (s.axis a).setpoint = 0 then .holding else .stopping

/-- R105 to R108: from s, configured, to t a reason that was clear is set: HALT_CHANGED is raised with it; in a driving
state the node drives; the asserted edge this makes, if it makes one, raises HALT_CHANGED again and stops both axes HALTED. -/
def reasonSet (s t : State) (r : HaltReason) : Prop :=
  let drives := drivingState s.node
  let asserted := s.inputs.haltLine || drives
  let reasons := s.halt.reasons.put true r
  let edge := asserted && !s.halt.asserted
  let raised := (eventAt s.port 5).next (.haltChanged (.reason r) asserted drives reasons)
  t.halt = ⟨reasons, asserted, drives, drives && !s.inputs.haltLine⟩ ∧
  eventAt t.port 5 = (if edge then raised.next (.haltChanged .lineAsserted asserted drives reasons) else raised) ∧
  (if edge then ∀ a, axisStopped s t a .halted else t.travel = s.travel ∧ t.claim = s.claim ∧ t.link = s.link) ∧
  otherBlocksKept s t

/-- R131, R145, R150: from s to t a row was marked with a cause: its slots that are not held are UNKNOWN, the row is UNKNOWN
with its spent flag clear, an answer plan for it is gone, STORE_SUSPECT names it; other rows keep their slots, and the held
slots of the row theirs. -/
def rowMarked (s t : State) (row : Nat) (cause : SuspectCause) (rank : Option Nat) : Prop :=
  (∀ n ∈ rowSlots s.conf row, slotAt t n = if heldSlot s n then slotAt s n else .unknown) ∧
  (∀ n, n ∉ rowSlots s.conf row → slotAt t n = slotAt s n) ∧
  rowAt t row = ⟨false, false⟩ ∧
  t.store.plan = (if s.store.plan.any (·.row == row) then none else s.store.plan) ∧
  eventAt t.port 13 = (eventAt s.port 13).next (.storeSuspect cause (some row) 1 rank)

/-- R39, R141, R186: from s to t a peer region was handed over: every row inside it is marked and STORE_SUSPECT names the
first and their number, the first row the lowest (notes/assumptions/45.md) and absent where there is none
(notes/assumptions/38.md); every bay whose front lies inside it, and which is not held, is unsure. Where the peer's
reservations end with it, the cradles RESERVED by FOREIGN of bays that it announced are EMPTY. Other rows and bays are as they
were, and where there is no region every row is. -/
def regionHanded (s t : State) (region : Option Interval) (rank : Nat) (ends : Bool) : Prop :=
  let c := s.conf
  let within (x : Int) : Prop := ∃ i, region = some i ∧ i.low ≤ x ∧ x ≤ i.high
  let doubted (b : Nat) : BayRecord :=
    { s.bay b with unsure := (s.bay b).unsure ||
        (region.any fun i => i.low ≤ (bayPoint c b).x && (bayPoint c b).x ≤ i.high) && !heldBay (s.bay b) }
  (∀ r < c.rows, within (rowX c r) → rowAt t r = ⟨false, false⟩ ∧
    ∀ n ∈ rowSlots c r, slotAt t n = if heldSlot s n then slotAt s n else .unknown) ∧
  (∀ r < c.rows, ¬ within (rowX c r) → (rowAt t r).known = (rowAt s r).known ∧
    ∀ n ∈ rowSlots c r, slotAt t n = slotAt s n) ∧
  (∀ b < c.bayCount, t.bay b = if ends = true ∧ (s.bay b).announcer = some (.peer rank) then
    { doubted b with load := (s.bay b).load.map fun l => { l with
        cradles := l.cradles.map fun k => if k = .reserved .foreign then .empty else k } } else doubted b) ∧
  (region = none → eventAt t.port 13 = eventAt s.port 13) ∧
  (∀ i, region = some i → eventAt t.port 13 = (eventAt s.port 13).next (.storeSuspect .peerRegion
    (rowsInside c i).head? (rowsInside c i).length (some rank)))

/-- R42, R43: an Objection RELEASE_DENIED waits in the queue of t for each Release of another node in a list that held at most
one of each. -/
def pendingDenied (t : State) (w : ReleasePending) : Prop :=
  (w.releases.map (·.1)).Nodup → ∀ o ∈ w.releases, o.1 ≠ t.conf.ownRank →
    ∃ e ∈ t.link.queue, e.withdrawn = false ∧
      (e.successor.map (·.1)).getD e.content = .objection ⟨o.1, o.2, .releaseDenied⟩

/-- The blocks that a frame or a request about the store leaves as they were. -/
def storeOnly (s t : State) : Prop :=
  t.travel = s.travel ∧ t.halt = s.halt ∧ t.weigher = s.weigher ∧ t.tasks = s.tasks ∧ t.bays = s.bays ∧
  t.claim = s.claim ∧ t.peers.table = s.peers.table ∧ t.peers.inFlight = s.peers.inFlight ∧ t.node = s.node ∧
  t.record = s.record ∧ t.inputs = s.inputs ∧ t.listen = s.listen ∧ t.now = s.now

end Sys2Proof.Machine
end

