-- ==== Sys2Proof/WellFormed.lean ====
section
/-! DEFINITION. Well-formed commands: every operand lies in the range that its place on the line gives it (sections 2.3,
2.4 and 11.1, R9, R183, R188). What the blocks themselves test of a value (R20's numeric fields, R9's field ranges) is no
matter of form. -/

namespace Sys2Proof

/-- A value that a field of one byte holds. -/
def fitsByte (n : Nat) : Bool := n ≤ 255
/-- A value that a field of two bytes holds. -/
def fitsTwo (n : Nat) : Bool := n ≤ 65535
/-- A value that a field of four bytes holds. -/
def fitsFour (n : Nat) : Bool := n ≤ 4294967295
/-- An unsigned length of one, two or four bytes. -/
def unsigned (top : Int) (x : Int) : Bool := 0 ≤ x && x ≤ top
/-- A signed number of four bytes. -/
def signedFour (x : Int) : Bool := -2147483648 ≤ x && x ≤ 2147483647
/-- A rank. -/
def fitsRank (n : Nat) : Bool := 1 ≤ n && n ≤ 8
/-- The largest value of one, two and four bytes. -/
def top1 : Int := 255
def top2 : Int := 65535
def top4 : Int := 4294967295
/-- An optional value is absent or passes a test. -/
def ifPresent {α : Type} (p : α → Bool) (o : Option α) : Bool := o.all p

/-! ## Request operands (R188) -/

/-- A request's payload is well-formed when it is unfit, or its fields are. -/
def Body.wf {α : Type} (p : α → Bool) : Body α → Bool
  | .fields a => p a
  | .misfit => true

/-- A landing point fits its four and two bytes. -/
def Point.wf (p : Point) : Bool := unsigned top4 p.x && unsigned top2 p.y

/-- The fields of an axis fit the bytes of their ranges. -/
def AxisParams.wf (p : AxisParams) : Bool :=
  unsigned top2 p.maxSpeed && unsigned top1 p.creepSpeed && unsigned top1 p.accel && unsigned top1 p.decel
    && unsigned top1 p.decelLoaded && unsigned top1 p.emergency && unsigned top2 p.creepLength
    && unsigned top1 p.creepStop && unsigned top1 p.window && fitsTwo p.settleTime && unsigned top2 p.following

/-- The start record's fields fit the bytes of their ranges (R9, R188). -/
def StartRecord.wf (c : StartRecord) : Bool :=
  fitsByte c.ownRank && fitsByte c.craneCount && unsigned top4 c.runway && unsigned top2 c.halfLength
    && unsigned top2 c.margin && unsigned top2 c.restMargin && c.bridge.wf && unsigned top2 c.span && c.trolley.wf
    && fitsTwo c.brakeSettle && fitsByte c.parkDelay && fitsByte c.waitTimeout && fitsByte c.releaseDelay
    && unsigned top2 c.hoistTop && unsigned top2 c.clearHeight && unsigned top4 c.rowBase && unsigned top2 c.rowPitch
    && fitsByte c.rows && unsigned top2 c.lateralBase && unsigned top2 c.lateralPitch && fitsByte c.lowers
    && c.saddle.length == 8 && c.saddle.all fitsByte && fitsByte c.intakeCount && c.intake0.wf && c.intake1.wf
    && fitsByte c.bayCount && c.bay0.wf && c.bay1.wf && c.bay2.wf && c.bay3.wf && signedFour c.zeroCount
    && unsigned top2 c.scale && unsigned top2 c.pick && unsigned top2 c.releaseLevel && unsigned top2 c.band
    && fitsByte c.settleCount && unsigned top2 c.swl && unsigned top1 c.tolPerMille && unsigned top2 c.tolMin
    && unsigned top1 c.liftWindow && fitsByte c.reportInterval && fitsByte c.silenceCount && fitsTwo c.hostTimeout

/-- A target and a speed. -/
def AxisMove.wf (m : AxisMove) : Bool := signedFour m.target && signedFour m.speed

/-- A Move names at least one axis. -/
def MoveRequest.wf (q : MoveRequest) : Bool :=
  (q.bridge.isSome || q.trolley.isSome) && ifPresent AxisMove.wf q.bridge && ifPresent AxisMove.wf q.trolley

/-- A Set Speed names at least one axis. -/
def SpeedRequest.wf (q : SpeedRequest) : Bool :=
  (q.bridge.isSome || q.trolley.isSome) && ifPresent signedFour q.bridge && ifPresent signedFour q.trolley

/-- A Stop Move names at least one axis. -/
def AxesRequest.wf (q : AxesRequest) : Bool := q.bridge || q.trolley

/-- A place's numbers fit their bytes. -/
def Place.wf : Place → Bool
  | .slot n => fitsTwo n
  | .intake i => fitsByte i
  | .cradle b i => fitsByte b && fitsByte i
  | .hook => true

/-- Go To. -/
def GoToRequest.wf (q : GoToRequest) : Bool := q.place.wf && signedFour q.bridgeSpeed && signedFour q.trolleySpeed

/-- What a STORE carries of its coil. -/
def StoreCoil.wf (k : StoreCoil) : Bool := fitsFour k.coil && fitsByte k.cls && ifPresent (unsigned top2) k.weight

/-- A Begin Task carries a coil when its kind is STORE, and only then. -/
def BeginRequest.wf (q : BeginRequest) : Bool :=
  q.source.wf && q.dest.wf && ((q.kind == .store) == q.coil.isSome) && ifPresent StoreCoil.wf q.coil

/-- A survey entry. -/
def SlotState.wf : SlotState → Bool
  | .occupied c w k => fitsFour c && fitsByte k && ifPresent signedFour w
  | .free | .blocked => true

/-- Survey Row: its list is counted in one byte. -/
def SurveyRequest.wf (q : SurveyRequest) : Bool := fitsByte q.row && fitsByte q.slots.length && q.slots.all SlotState.wf

/-- A trailer: its count of cradles counts its offsets. -/
def Trailer.wf (t : Trailer) : Bool :=
  unsigned top2 t.kingpin && unsigned top2 t.axle && fitsByte t.count && t.offsets.length == t.count
    && t.offsets.all (unsigned top2) && unsigned top2 t.axleLimit && unsigned top2 t.kingpinLimit
    && unsigned top2 t.payloadLimit && fitsByte t.planned

/-- Dock Truck. -/
def DockRequest.wf (q : DockRequest) : Bool := fitsByte q.bay && q.trailer.wf

/-- Prepare Release. -/
def PrepareRequest.wf (q : PrepareRequest) : Bool := fitsByte q.rank && fitsTwo q.lastSeq

/-! ## Link frames (section 2.4, R183) -/

/-- Both edges of an interval fit four bytes. -/
def Interval.wf (i : Interval) : Bool := unsigned top4 i.low && unsigned top4 i.high

/-- R20: the node states whose codes a Position Report may carry. -/
def NodeState.sendable : NodeState → Bool
  | .joining | .active | .isolated | .voided => true
  | .unconfigured | .listening | .joinBlocked => false

/-- The Position Report. -/
def ReportFrame.wf (f : ReportFrame) : Bool :=
  f.nodeState.sendable && ifPresent (unsigned top4) f.position && (-32768 ≤ f.speed && f.speed ≤ 32767)
    && ifPresent Interval.wf f.claim && ifPresent fitsFour f.hookCoil

/-- The Extend. -/
def ExtendFrame.wf (f : ExtendFrame) : Bool := unsigned top4 f.edge && ifPresent fitsTwo f.view

/-- The Objection. -/
def ObjectionFrame.wf (f : ObjectionFrame) : Bool := fitsByte f.target && fitsTwo f.targetSeq

/-- The Release. -/
def ReleaseFrame.wf (f : ReleaseFrame) : Bool := fitsByte f.rank && fitsTwo f.lastSeq

/-- The Make Way. -/
def MakeWayFrame.wf (f : MakeWayFrame) : Bool := fitsByte f.target && unsigned top4 f.edge

/-- The Slot Query. -/
def SlotQueryFrame.wf (f : SlotQueryFrame) : Bool := fitsByte f.row && fitsByte f.tag

/-- One entry of a Store Notice. -/
def NoticeEntry.wf (e : NoticeEntry) : Bool :=
  fitsTwo e.slot && e.cls ≤ 7 && ifPresent fitsFour e.coil && ifPresent (unsigned top2) e.weight

/-- The Store Notice. -/
def StoreNoticeFrame.wf (f : StoreNoticeFrame) : Bool :=
  ifPresent fitsByte f.answer && 1 ≤ f.entries.length && f.entries.length ≤ Config.noticeEntries
    && f.entries.all NoticeEntry.wf

/-- A cradle of a Bay Notice. -/
def NoticeCradle.wf : NoticeCradle → Bool
  | .empty | .reserved => true
  | .loaded c w => fitsFour c && unsigned top2 w
  | .unnamed w => unsigned top2 w

/-- R183: what a Bay Notice carries of a trailer; cradle and planned count take three bits each, and six cradles have a
state. -/
def NoticeLoad.wf (l : NoticeLoad) : Bool :=
  l.trailer.wf && l.trailer.count ≤ 6 && l.trailer.planned ≤ 7 && l.cradles.length == l.trailer.count
    && l.cradles.all NoticeCradle.wf

/-- R183: an EMPTY bay sends no more than its state and a remaining count, which a receiver takes whatever it is
(notes/assumptions/46.md). -/
def BayNoticeFrame.wf (f : BayNoticeFrame) : Bool :=
  fitsByte f.bay && fitsByte f.remaining && ((f.state == .empty) == f.load.isNone) && ifPresent NoticeLoad.wf f.load

/-! ## The commands -/

/-- A request's tag and fields. -/
def requestWf {α : Type} (tag : Nat) (body : Body α) (p : α → Bool) : Bool := fitsByte tag && body.wf p

/-- A peer's frame: the sender rank is a byte, and R20 judges it. -/
def frameWf (sender seq : Nat) : Bool := fitsByte sender && fitsTwo seq

/-- The operands of a command lie in their ranges. -/
def Instr.wf : Instr → Bool
  | .powerOn => true
  | .configure tag body => requestWf tag body StartRecord.wf
  | .readStatus tag body => requestWf tag body fun _ => true
  | .readEvents tag body => requestWf tag body fun _ => true
  | .setEventMask tag body => requestWf tag body fun _ => true
  | .move tag body => requestWf tag body MoveRequest.wf
  | .goTo tag body => requestWf tag body GoToRequest.wf
  | .setSpeed tag body => requestWf tag body SpeedRequest.wf
  | .stopMove tag body => requestWf tag body AxesRequest.wf
  | .tare tag body => requestWf tag body fun _ => true
  | .beginTask tag body => requestWf tag body BeginRequest.wf
  | .abortTask tag body => requestWf tag body fitsByte
  | .readTask tag body => requestWf tag body fun _ => true
  | .readRow tag body => requestWf tag body fitsByte
  | .surveyRow tag body => requestWf tag body SurveyRequest.wf
  | .blockSlot tag body => requestWf tag body fitsTwo
  | .unblockSlot tag body => requestWf tag body fitsTwo
  | .dockTruck tag body => requestWf tag body DockRequest.wf
  | .closeBay tag body => requestWf tag body fitsByte
  | .undock tag body => requestWf tag body fitsByte
  | .readBay tag body => requestWf tag body fitsByte
  | .readPeers tag body => requestWf tag body fun _ => true
  | .prepareRelease tag body => requestWf tag body PrepareRequest.wf
  | .confirmRelease tag body => requestWf tag body fitsByte
  | .rejoin tag body => requestWf tag body fun _ => true
  | .halt tag body => requestWf tag body fun _ => true
  | .clearHalt tag body => requestWf tag body fun _ => true
  | .restart tag body => requestWf tag body fun _ => true
  | .unknownRequest kind tag => fitsByte kind && fitsByte tag && (kind == 0 || 27 < kind)
  | .impossibleLength => true
  | .incomplete header => ifPresent (fun h => fitsByte h.1 && fitsByte h.2) header
  | .badCheck kind tag => fitsByte kind && fitsByte tag
  | .resyncSilence => true
  | .busy kind tag => fitsByte kind && fitsByte tag
  | .responseSent => true
  | .hostSilenceExpiry => true
  | .attempt => true
  | .contentionLoss => true
  | .taken => true
  | .checkError _ => true
  | .positionReport sender seq f => frameWf sender seq && f.wf
  | .join sender seq f => frameWf sender seq && f.wf
  | .extend sender seq f => frameWf sender seq && f.wf
  | .objection sender seq f => frameWf sender seq && f.wf
  | .release sender seq f => frameWf sender seq && f.wf
  | .makeWay sender seq f => frameWf sender seq && f.wf
  | .storeNotice sender seq f => frameWf sender seq && f.wf
  | .slotQuery sender seq f => frameWf sender seq && f.wf
  | .bayNotice sender seq f => frameWf sender seq && f.wf BayNoticeFrame.wf
  | .listenWindowEnd => true
  | .reportTimerExpiry => true
  | .silenceTimeout rank => fitsRank rank
  | .isolationTimeout => true
  | .armingExpiry rank => fitsRank rank
  | .releaseWindowExpiry rank => fitsRank rank
  | .joinWindowExpiry => true
  | .extensionWindowExpiry => true
  | .peerJoinWindowExpiry rank => fitsRank rank
  | .retryTimerExpiry => true
  | .shrinkTimerExpiry => true
  | .queryExpiry => true
  | .answerPlanDue => true
  | .brakeSettleExpiry _ => true
  | .parkTimerExpiry _ => true
  | .profilePeriod _ => true
  | .settleTimerExpiry _ => true
  | .waitTimeout => true
  | .positionInputChange _ _ => true
  | .slowdownEdge _ _ _ => true
  | .endLimitEdge _ _ _ => true
  | .hoistCount _ => true
  | .topReferenceEdge _ => true
  | .haltLineLevelChange _ => true
  | .dataReadyEdge _ => true
  | .sample _ => true
  | .sampleTimerExpiry => true
  | .converterByteComplete _ => true

end Sys2Proof
end

