-- ==== Sys2Proof/Certificates/Slice0/Obligations.lean ====
section
/-! DEFINITION. The statements for the provers. Each docstring names the rules of spec/ it rests on; OBLIGATIONS.json
lists them. A next state given as a record update says its frame: every field the update does not name is unchanged. -/

open Sys2Proof Sys2Proof.Machine

/-! ## The step -/

/-- A step hands the command at the front of the queue to exec, with the queue's rest. -/
def Obligations.StepRunsFrontCommand : Prop :=
  ∀ (c : Instr) (rest : List Instr) (s : State),
    step { s with pending := c :: rest } = exec c { s with pending := rest }

/-- Every command completes in every state, leaves the waiting commands alone and never turns the model's clock back. Two
choices of the model: the expiry of a timer that is stopped does nothing (notes/assumptions/2.md), and on an empty queue one
millisecond passes and nothing else changes (notes/assumptions/1.md). -/
def Obligations.EveryCommandCompletes : Prop :=
  (∀ (c : Instr) (s : State), ∃ t, exec c s = .next t ∧ t.pending = s.pending ∧ s.now ≤ t.now) ∧
  (∀ (c : Instr) (s : State), timerOf s c = some none → exec c s = .next s) ∧
  ∀ s : State, s.pending = [] → step s = .next { s with now := s.now + 1 }

/-! ## Reset -/

/-- R11, R22, R24, R36, R37, R46, R48, R54, R55, R80, R113 to R116, R130, R131, R142, R143, R152, R153, R170, R174, R189,
R193, R198: what the manual states of the node after reset. That a masked event is a mask bit that is true is the model's
reading (notes/assumptions/20.md). -/
def Obligations.ResetValues : Prop :=
  let s := State.reset
  s.node = .unconfigured ∧ s.record = none ∧ s.listen = none ∧
  s.link.queue = [] ∧ s.link.attempt = none ∧ s.link.seq = 0 ∧ s.link.counters = ⟨0, 0, 0, 0⟩ ∧ s.link.reportTimer = none ∧
  (∀ r, let p := s.peer r
    p.presence = .absent ∧ p.releasePending = none ∧ p.lastSeq = none ∧ p.silence = none ∧ p.lastReport = none ∧
    p.arming = none ∧ p.claim = none ∧ p.joinWindow = none ∧ p.extension = none) ∧
  s.peers.inFlight = none ∧ s.peers.isolation = none ∧
  s.claim = ⟨none, none, none, none, none, none⟩ ∧
  (∀ a, let r := s.axis a
    r.state = .parked ∧ r.setpoint = 0 ∧ r.brake = false ∧ r.commanded = none ∧ r.move = none ∧ r.lowHold = false ∧
    r.highHold = false ∧ r.last = none ∧ r.brakeTimer = none ∧ r.parkTimer = none ∧ r.profileTimer = none ∧
    r.settle = none ∧ r.waitTimer = none) ∧
  s.travel.hoist.referenced = false ∧
  (∀ r, s.halt.reasons.get r = false) ∧ s.halt.drives = false ∧ s.halt.asserted = false ∧ s.halt.notSeen = false ∧
  s.weigher.converter = .idle ∧ selectOutput s.weigher = false ∧ clockAtRest s.weigher = true ∧
  s.weigher.raw = none ∧ s.weigher.window = [] ∧ s.weigher.filtered = none ∧ s.weigher.tare = 0 ∧
  s.weigher.tared = false ∧ s.weigher.sensorLost = false ∧ s.weigher.timer = none ∧ s.weigher.overrange = false ∧
  s.weigher.load = .empty ∧ s.weigher.settle = 0 ∧ s.weigher.overload = false ∧ s.weigher.lost = 0 ∧
  (∀ n, slotAt s n = .unknown) ∧ (∀ r, rowAt s r = ⟨false, false⟩) ∧ s.store.outbox = [] ∧ s.store.query = none ∧
  s.store.counter = 0 ∧ s.store.plan = none ∧
  s.tasks.nest = [] ∧ s.tasks.hookCoil = none ∧ s.tasks.loose = false ∧ s.tasks.unplaced = none ∧ s.tasks.outcomes = [] ∧
  s.tasks.counter = 1 ∧
  (∀ b, (s.bay b).state = .empty ∧ (s.bay b).load = none ∧ (s.bay b).announcer = none ∧ (s.bay b).unsure = false) ∧
  s.port.inHand = none ∧ s.port.receiver = .hunt ∧ s.port.transmit = [] ∧ s.port.framing = 0 ∧ s.port.overrun = 0 ∧
  (∀ n, eventAt s.port n = ⟨false, none, 0⟩) ∧ (∀ n < 16, s.port.mask.getLsbD n = true) ∧ s.port.attention = false ∧
  s.port.hostTimer = none

/-- The invariants that the statements below say every step keeps hold of the node after reset. -/
def Obligations.InvariantsHoldAtReset : Prop :=
  let s := State.reset
  eventsOk s.port ∧ transmitterOk s.port ∧ queueOk s.link ∧ lineOk s ∧ axesOk s ∧ haltedOk s ∧ speedOk s .bridge ∧
  speedOk s .trolley ∧ claimOk s ∧ boundsOk s ∧ tablesOk s ∧ peersOk s ∧ configuredOk s ∧ settled s ∧
  baysOk s

/-- R11, R191, R197: power-on resets every block; an accepted Restart is answered OK and leaves the node as it is until the
last byte of that response, which resets it as power-on does. The last byte of any other response ends the request in hand,
and that of an immediate answer only frees the transmitter. The inputs, the waiting commands and the clock are not the
node's own (the model's choice, notes/assumptions/24.md). -/
def Obligations.ResetAndResponseSent : Prop :=
  ∀ (s : State) (tag : Nat) (f : PortFrame) (rest : List PortFrame),
    exec .powerOn s = .next { State.reset with inputs := s.inputs, pending := s.pending, now := s.now } ∧
    (ready s → settled s →
      exec (.restart tag (.fields ())) s = .next (answered (taken s 27 tag) 27 tag .ok .none)) ∧
    (s.port.transmit = [] → exec .responseSent s = .next s) ∧
    (s.port.transmit = f :: rest →
      (f.immediate = true → exec .responseSent s = .next { s with port := { s.port with transmit := rest } }) ∧
      (f.immediate = false → f.kind = 27 → f.status = .ok → exec .responseSent s = exec .powerOn s) ∧
      (f.immediate = false → (f.kind ≠ 27 ∨ f.status ≠ .ok) →
        exec .responseSent s = .next { s with port := { s.port with transmit := rest, inHand := none } }))

/-! ## Invariants of every step -/

/-- R191, R193, R194: after every step the listed events are pending with the detail of their own number and a count of 1
to 255, and Attention is asserted exactly while a pending event is unmasked; the transmitter holds one response for the
request in hand and none without one, and at most one immediate answer waits. -/
def Obligations.EventsAndTransmitterKept : Prop :=
  (∀ s : State, eventsOk s.port → ∀ t, step s = .next t → eventsOk t.port) ∧
  ∀ s : State, transmitterOk s.port → ∀ t, step s = .next t → transmitterOk t.port

/-- R16, R24, R25, R28: after every step the transmit queue stands in class order with the older first, no two entries
that would merge stand in it, and one entry is being offered exactly while an attempt runs. -/
def Obligations.TransmitQueueKept : Prop :=
  ∀ s : State, queueOk s.link → ∀ t, step s = .next t → queueOk t.link

/-- R106, R107, R108: after every step the node drives the Halt Line exactly while a reason is set in a driving state, and
the line state and the drive-not-seen flag are what the drive and the level make them; and while the line state is ASSERTED
no axis has a move in hand. -/
def Obligations.HaltLineStateKept : Prop :=
  (∀ s : State, lineOk s → ∀ t, step s = .next t → lineOk t) ∧
  ∀ s : State, lineOk s → axesOk s → haltedOk s → ∀ t, step s = .next t → haltedOk t

/-- R80: after every step each axis drives what its state drives, runs the timers its state runs and has a move in hand
exactly where its state has one; and the trolley is never WAITING. -/
def Obligations.AxesAsTheirStates : Prop :=
  ∀ s : State, axesOk s → ∀ t, step s = .next t → axesOk t

/-- R82, R85, R90, R108: after every step the speed setpoint of an axis is at most the axis maximum, the move speed of a move
in hand, and creep speed while the slowdown input on the side of travel is active; and while the Halt Line is asserted no
axis's speed setpoint increases. -/
def Obligations.SpeedsKept : Prop :=
  (∀ (s : State) (a : Axis), configuredOk s → axesOk s → speedOk s a → ∀ t, step s = .next t → speedOk t a) ∧
  ∀ (s : State) (a : Axis), lineOk s → axesOk s → haltedOk s → configuredOk s → s.halt.asserted = true →
    ∀ t, step s = .next t → magnitude (t.axis a).setpoint ≤ magnitude (s.axis a).setpoint

/-- R8, R11, R37, R41, R47, R54, R143: after every step the own claim record holds nothing in UNCONFIGURED, LISTENING,
JOIN_BLOCKED and VOIDED; every peer record is as its presence allows; a start record is in force exactly outside
UNCONFIGURED, it passes both passes of its check, and no query scan is owed. That the listen window runs in LISTENING alone
is the model's choice (notes/assumptions/32.md). -/
def Obligations.RecordAndClaimsKept : Prop :=
  (∀ s : State, claimOk s → ∀ t, step s = .next t → claimOk t) ∧
  (∀ s : State, peersOk s → ∀ t, step s = .next t → peersOk t) ∧
  ∀ s : State, configuredOk s → settled s → ∀ t, step s = .next t → configuredOk t ∧ settled t

/-- R22, R36, R115, R119, R130, R131, R143, R152, R170, R174, R190, R191: after every step the counters, the weigh window,
the nest and the outcome list stay within their bounds; the slot and row tables are in canonical form, so that equal stores
are equal data; and a bay holds a trailer exactly outside EMPTY, with an offset and a cradle record for each cradle. -/
def Obligations.BoundsAndTablesKept : Prop :=
  (∀ s : State, boundsOk s → ∀ t, step s = .next t → boundsOk t) ∧
  (∀ s : State, tablesOk s → ∀ t, step s = .next t → tablesOk t) ∧
  ∀ s : State, baysOk s → ∀ t, step s = .next t → baysOk t

/-! ## The Runway Link's bytes -/

/-- Sections 2.3 and 2.4, R19, R20, R183: the bytes of a well-formed frame of another node are received as the command that
the frame is, with every field at the value sent. -/
def Obligations.LinkFramesDecode : Prop :=
  ∀ (sender seq : Nat) (f : LinkFrame), (commandOf sender seq f).wf →
    linkCommand (linkBytes sender seq f) = commandOf sender seq f

/-! ## The Service Port -/

/-- R191, R112: a well-formed request that completes while another is in hand is answered BUSY with its own kind and tag
and has no other effect but the restart of the host silence timer; with an immediate answer already waiting it gets no
answer and is counted. The table's BUSY row is that same occurrence. -/
def Obligations.RequestWhileInHand : Prop :=
  ∀ s : State, s.port.receiver ≠ .resync → s.port.inHand.isSome →
    let u := restartHostTimer s
    let turnedAway (kind tag : Nat) : State :=
      if s.port.transmit.tail.any (·.immediate) then
        { u with port := { u.port with overrun := countUp s.port.overrun } }
      else { u with port := { u.port with transmit := s.port.transmit ++ [⟨true, kind, tag, .busy, .none⟩] } }
    (∀ (c : Instr) (h : Nat × Nat), requestHeader c = some h → exec c s = .next (turnedAway h.1 h.2)) ∧
    ∀ kind tag : Nat, exec (.busy kind tag) s = .next (turnedAway kind tag)

/-- R192 steps 1 to 3: a kind outside 1..27 is answered UNKNOWN; before configuration a request that is not handled then
is answered UNCONFIGURED; a payload that is not of its kind's length is answered RANGE, and Configure names field 0. That
such a Configure of a configured node is answered RANGE too, ahead of LOCKED (R8), is the model's reading
(notes/assumptions/11.md). Only the request in hand, the host timer and the response are left behind. -/
def Obligations.RequestsRefusedAsAWhole : Prop :=
  ∀ (s : State) (c : Instr), ready s → settled s → ∀ h, requestHeader c = some h →
    let reply (st : Status) (r : Result) : State := answered (taken s h.1 h.2) h.1 h.2 st r
    (c = .unknownRequest h.1 h.2 → exec c s = .next (reply .unknown .none)) ∧
    (c ≠ .unknownRequest h.1 h.2 → s.record = none → handledEarly h.1 = false →
      exec c s = .next (reply .unconfigured .none)) ∧
    (unfit c → s.record.isSome ∨ handledEarly h.1 →
      exec c s = .next (reply .range (if h.1 = 1 then .field 0 else .none)))

/-- R189, R190: a frame that fails is counted and answered by its way of failing: an impossible length by nothing, an
incomplete frame by ERROR INCOMPLETE if its tag had arrived, a bad CRC by ERROR BAD_CHECK; in RESYNC bytes are discarded
until 2 ms of silence. An answer while one already waits is discarded and counted (R191). On the line, HUNT discards bytes
until 0xA5; the bytes of a whole frame that follow make its request and leave the receiver in HUNT, and those of a frame
with a wrong CRC make BAD_CHECK; a frame that breaks off before its tag, or after it, is incomplete. -/
def Obligations.FramingFailures : Prop :=
  (∀ (noise payload : List Byte) (kind tag : Nat), (∀ b ∈ noise, b ≠ 0xA5#8) → kind < 256 → tag < 256 →
    payload.length ≤ 512 →
    let checked := portChecked kind tag payload
    receiveBytes .reset (noise ++ frameBytes kind tag payload) = (.reset, [requestCommand kind tag payload]) ∧
    (∀ c : List Byte, c.length = 2 → c ≠ crcBytes checked →
      receiveBytes .reset (noise ++ 0xA5#8 :: checked ++ c) = (.reset, [.badCheck kind tag])) ∧
    ∀ n < payload.length + 6,
      let r := receiveBytes .reset (0xA5#8 :: (checked ++ crcBytes checked).take n)
      r.2 = [] ∧ receiveSilence r.1 = (.reset, some (.incomplete (if n < 4 then none else some (kind, tag))))) ∧
  (∀ (length : Nat) (rest : List Byte), 512 < length → length < 65536 →
    let r := receiveBytes .reset (0xA5#8 :: beBytes 2 length ++ rest)
    r = (⟨.resync, []⟩, [.impossibleLength]) ∧ receiveSilence r.1 = (.reset, some .resyncSilence)) ∧
  ∀ (s : State) (kind tag : Nat),
    let failed (after : Receiver) : Port := { s.port with framing := countUp s.port.framing, receiver := after }
    let withAnswer (r : Result) : Port :=
      if s.port.transmit.tail.any (·.immediate) then { failed .hunt with overrun := countUp s.port.overrun }
      else { failed .hunt with transmit := s.port.transmit ++ [⟨true, kind, tag, .error, r⟩] }
    (s.port.receiver ≠ .resync →
      exec .impossibleLength s = .next { s with port := failed .resync } ∧
      exec (.incomplete none) s = .next { s with port := failed .hunt } ∧
      exec (.incomplete (some (kind, tag))) s = .next { s with port := withAnswer .incomplete } ∧
      exec (.badCheck kind tag) s = .next { s with port := withAnswer .badCheck } ∧
      exec .resyncSilence s = .next s) ∧
    (s.port.receiver = .resync →
      exec .impossibleLength s = .next s ∧ exec (.incomplete none) s = .next s ∧
      exec (.incomplete (some (kind, tag))) s = .next s ∧ exec (.badCheck kind tag) s = .next s ∧
      exec .resyncSilence s = .next { s with port := { s.port with receiver := .hunt } })

/-- R53, R150, R173, R187, R192, R198: the reading requests other than Read Events answer with the state as they find it and
change nothing: the status fields named here, the rank list of Read Peers, the nest and hook records of Read Task, the
records of a row and of a bay; a row or a bay that there is not, or any before configuration, is refused with RANGE. R150
states this of a row before configuration alone: that a row at or above R is refused too is the model's reading
(notes/assumptions/22.md). That Read Peers returns no rank before configuration, and Read Bay no loads of an EMPTY bay, is the
model's choice (notes/assumptions/40.md, 39.md). -/
def Obligations.ReadingRequests : Prop :=
  ∀ (s : State) (tag n : Nat), ready s → settled s →
    (∃ r : StatusReport, exec (.readStatus tag (.fields ())) s = .next (answered (taken s 2 tag) 2 tag .ok (.status r)) ∧
      r.node = s.node ∧ r.configured = s.record.isSome ∧ r.claim = s.claim.confirmed ∧ r.wanted = s.claim.wanted ∧
      r.pending = s.claim.pending ∧ r.bridge.state = s.travel.bridge.state ∧
      r.bridge.setpoint = s.travel.bridge.setpoint ∧ r.trolley.state = s.travel.trolley.state ∧
      r.trolley.setpoint = s.travel.trolley.setpoint ∧ r.height = s.travel.hoist.height ∧
      r.referenced = s.travel.hoist.referenced ∧ r.reasons = s.halt.reasons ∧ r.asserted = s.halt.asserted ∧
      r.drives = s.halt.drives ∧ r.notSeen = s.halt.notSeen ∧ r.weigher.load = s.weigher.load ∧
      r.weigher.tare = s.weigher.tare ∧ r.weigher.lost = s.weigher.lost ∧ r.outbox = s.store.outbox.length ∧
      r.freeRoom = 24 - s.store.outbox.length - reservedSlots s ∧ r.counters = s.link.counters ∧
      r.framing = s.port.framing ∧ r.overrun = s.port.overrun ∧ r.mask = s.port.mask) ∧
    (∃ r : TaskReport, exec (.readTask tag (.fields ())) s = .next (answered (taken s 12 tag) 12 tag .ok (.task r)) ∧
      r.nest = s.tasks.nest ∧ r.hookCoil = s.tasks.hookCoil ∧ r.loose = s.tasks.loose ∧ r.unplaced = s.tasks.unplaced ∧
      r.outcomes = s.tasks.outcomes) ∧
    (∃ l : List PeerReport, exec (.readPeers tag (.fields ())) s =
        .next (answered (taken s 21 tag) 21 tag .ok (.peers l (s.peers.inFlight.map (·.rank)))) ∧
      l.map (·.rank) = peerRanks s ∧
      ∀ p ∈ l, p.presence = (s.peer p.rank).presence ∧ p.lastSeq = (s.peer p.rank).lastSeq ∧
        p.lastReport = (s.peer p.rank).lastReport ∧ p.claim = (s.peer p.rank).claim ∧
        p.releaseLeft = (s.peer p.rank).releasePending.map (fun r => r.expiry - s.now) ∧
        p.extension = (s.peer p.rank).extension.map (fun e => { e with expiry := e.expiry - s.now }) ∧
        p.arming = (s.peer p.rank).arming.map (fun a => ⟨a.seq, a.expiry - s.now⟩)) ∧
    (s.record.isSome → n < s.conf.rows →
      ∃ r : RowReport, exec (.readRow tag (.fields n)) s = .next (answered (taken s 13 tag) 13 tag .ok (.row r)) ∧
        r.known = (rowAt s n).known ∧ r.spent = (rowAt s n).spent ∧ r.covered = rowCovered s n ∧
        r.slots.map (·.slot) = rowSlots s.conf n ∧
        ∀ k ∈ r.slots, k.record = slotAt s k.slot ∧ k.held = heldSlot s k.slot) ∧
    (s.record = none ∨ s.conf.rows ≤ n →
      exec (.readRow tag (.fields n)) s = .next (answered (taken s 13 tag) 13 tag .range .none)) ∧
    (s.record.isSome → n < s.conf.bayCount →
      ∃ r : BayReport, exec (.readBay tag (.fields n)) s = .next (answered (taken s 20 tag) 20 tag .ok (.bay r)) ∧
        r.state = (s.bay n).state ∧ r.announcer = (s.bay n).announcer ∧ r.unsure = (s.bay n).unsure ∧
        r.covered = bayCovered s n ∧ r.load = (s.bay n).load ∧ r.loaded = loadedCount (s.bay n) ∧
        r.reserved = reservedCount (s.bay n) ∧ r.committed = (s.bay n).load.map committedLoads) ∧
    (s.record = none ∨ s.conf.bayCount ≤ n →
      exec (.readBay tag (.fields n)) s = .next (answered (taken s 20 tag) 20 tag .range .none))

/-- R196, R194: Read Events returns every pending event, masked or not, in event number order, clears them all and releases
Attention. In every state the events are well kept in (the first invariant), every listed event is pending. -/
def Obligations.ReadEventsClears : Prop :=
  ∀ (s : State) (tag : Nat), ready s → settled s → eventsOk s.port →
    let u := taken s 3 tag
    exec (.readEvents tag (.fields ())) s =
      .next (answered { u with port := { u.port with events := [], attention := false } } 3 tag .ok
        (.events s.port.events)) ∧
    (s.port.events.map (·.1)).Pairwise (· < ·) ∧
    (∀ n, (eventAt s.port n).pending = true → (n, eventAt s.port n) ∈ s.port.events)

/-- R195: Set Event Mask replaces the whole mask, is answered OK with the new mask and the pending flags, clears no event,
and Attention follows at once: asserted where a pending event is unmasked, released where none is. After reset the mask
is all masked, and acceptance of the start record leaves the mask as it was. That a true bit masks its event is the model's
reading (notes/assumptions/20.md). -/
def Obligations.SetEventMask : Prop :=
  (∀ (s : State) (tag : Nat) (m : BitVec 16), ready s → settled s → s.record.isSome → eventsOk s.port →
    let u := taken s 4 tag
    ∃ b : Bool, exec (.setEventMask tag (.fields m)) s =
        .next (answered { u with port := { u.port with mask := m, attention := b } } 4 tag .ok
          (.mask m (pendingFlags s.port))) ∧
      (b = true ↔ ∃ n < 16, (eventAt s.port n).pending = true ∧ m.getLsbD n = false) ∧
      ∀ n < 16, (pendingFlags s.port).getLsbD n = (eventAt s.port n).pending) ∧
  (∀ n < 16, State.reset.port.mask.getLsbD n = true) ∧
  ∀ (s : State) (tag : Nat) (c : StartRecord), s.record = none →
    ∃ t, exec (.configure tag (.fields c)) s = .next t ∧ t.port.mask = s.port.mask

/-! ## The start record -/

/-- R8, R12, R99, R107, R114: Configure outside UNCONFIGURED is refused with LOCKED; a record that fails its check is
refused with RANGE and the number of the first failure; an accepted record takes the node to LISTENING with the listen
window, the host timer and the weigher started, the end-limit holds latched and the Halt Line sensed, and changes no peer
record, slot, row, bay or task. A record that passes both passes lies
in the ranges and meets the cross-checks that the rules of travel rest on; one whose own rank is no rank fails at field 1. -/
def Obligations.StartRecordDecides : Prop :=
  (∀ (s : State) (tag : Nat) (c : StartRecord), ready s → settled s →
    (s.node ≠ .unconfigured →
      exec (.configure tag (.fields c)) s = .next (answered (taken s 1 tag) 1 tag .locked .none)) ∧
    (s.node = .unconfigured → ∀ n, startRecordFailure c = some n →
      exec (.configure tag (.fields c)) s = .next (answered (taken s 1 tag) 1 tag .range (.field n))) ∧
    (s.node = .unconfigured → startRecordFailure c = none → s.travel.bridge.state = .parked →
      s.travel.trolley.state = .parked →
      ∃ t, exec (.configure tag (.fields c)) s = .next t ∧ t.record = some c ∧ t.node = .listening ∧
        t.listen = some (s.now + c.silenceCount * c.reportInterval) ∧
        t.port.hostTimer = some (s.now + c.hostTimeout) ∧
        t.port.transmit = s.port.transmit ++ [⟨false, 1, tag, .ok, .none⟩] ∧
        eventAt t.port 14 = (eventAt s.port 14).next (.nodeState .listening .unconfigured) ∧
        t.weigher.converter = (if s.inputs.dataReady = c.polarities.getLsbD 8 then .byte1 else .armed) ∧
        t.weigher.window = [] ∧ t.weigher.filtered = none ∧ t.weigher.tare = 0 ∧ t.weigher.tared = false ∧
        t.weigher.load = .empty ∧ t.weigher.timer = some (s.now + 100) ∧ t.weigher.lost = s.weigher.lost ∧
        (∀ a, (t.axis a).lowHold = ((s.axis a).lowHold || limitActive c s.inputs a .low) ∧
          (t.axis a).highHold = ((s.axis a).highHold || limitActive c s.inputs a .high) ∧
          (t.axis a).state = .parked ∧ (t.axis a).setpoint = (s.axis a).setpoint) ∧
        t.halt.asserted = s.inputs.haltLine ∧ t.halt.drives = false ∧
        t.peers = s.peers ∧ t.store.slots = s.store.slots ∧ t.store.rows = s.store.rows ∧ t.tasks = s.tasks ∧
        t.bays = s.bays ∧ t.inputs = s.inputs)) ∧
  ∀ c : StartRecord,
    ((c.ownRank < 1 ∨ 8 < c.ownRank) → startRecordFailure c = some 1) ∧
    (startRecordFailure c = none →
      1 ≤ c.ownRank ∧ c.ownRank ≤ c.craneCount ∧ c.craneCount ≤ 8 ∧ bridgeMin c ≤ bridgeMax c ∧
      c.clearHeight < c.hoistTop ∧ c.releaseLevel + 100 ≤ c.pick ∧ c.reportInterval % 10 = 0 ∧
      2 ≤ c.lowers ∧ c.lowers ≤ 8 ∧ 1 ≤ c.rows ∧ c.rows ≤ 64 ∧ c.bayCount ≤ 4 ∧ c.intakeCount ≤ 2 ∧
      c.lateralBase + (c.lowers - 1 : Int) * c.lateralPitch ≤ c.span ∧
      (∀ r < c.rows, bridgeMin c ≤ rowX c r ∧ rowX c r ≤ bridgeMax c) ∧
      (∀ b < c.bayCount, bridgeMin c ≤ (bayPoint c b).x ∧ (bayPoint c b).x ≤ bridgeMax c) ∧
      ∀ a, 1 ≤ (axisParams c a).decelLoaded ∧ (axisParams c a).decelLoaded ≤ (axisParams c a).decel ∧
        (axisParams c a).decel ≤ (axisParams c a).emergency ∧
        (axisParams c a).creepSpeed < (axisParams c a).maxSpeed ∧
        stopDistance (axisParams c a).creepSpeed (axisParams c a).decelLoaded
          + ceilDiv (axisParams c a).creepSpeed 100 + (axisParams c a).creepStop ≤ (axisParams c a).creepLength)

/-! ## Travel requests -/

/-- R81: a Move is refused as one request, in the order of its tests, and a refused Move changes nothing. While the hook
load state is not EMPTY and the hook is UNREFERENCED or below C, no Move and no Go To is accepted. -/
def Obligations.MoveRefusals : Prop :=
  ∀ (s : State) (tag : Nat) (q : MoveRequest) (g : GoToRequest), ready s → settled s → s.record.isSome →
    (moveState s q → exec (.move tag (.fields q)) s = .next (answered (taken s 5 tag) 5 tag .state .none)) ∧
    (¬ moveState s q → moveLowHook s →
      exec (.move tag (.fields q)) s = .next (answered (taken s 5 tag) 5 tag .lowHook .none)) ∧
    (¬ moveState s q → ¬ moveLowHook s → moveLimit s q →
      exec (.move tag (.fields q)) s = .next (answered (taken s 5 tag) 5 tag .limit .none)) ∧
    (moveLowHook s → ∃ st : Status, st ≠ .ok ∧ st ≠ .clamped ∧
      exec (.goTo tag (.fields g)) s = .next (answered (taken s 6 tag) 6 tag st .none))

/-- R63, R73, R82, R83, R85, R104: an accepted Move, for each axis it names: the axis takes it up (`axisTakenUp`: the
direction of a move to the position itself rests on notes/assumptions/17.md, the side of a wanted edge beyond the claim on
both sides on 36.md, the park timer of a move that completes at once on 37.md). A move that completes at once raises
MOVE_DONE, one that replaces another raises nothing. An axis not named is untouched. -/
def Obligations.MoveTakenUp : Prop :=
  ∀ (s : State) (tag : Nat) (q : MoveRequest), ready s → settled s → s.record.isSome → configuredOk s →
    moveAccepted s q → (q.bridge.isSome ∨ q.trolley.isSome) →
    let c := s.conf
    let goal (n : Axis × AxisMove) : Int := clampTarget c n.1 n.2.target
    let there (n : Axis × AxisMove) : Prop := ((s.axis n.1).state = .holding ∨ (s.axis n.1).state = .parked) ∧
      ∃ x, s.position n.1 = some x ∧ magnitude (goal n - x) ≤ (axisParams c n.1).window
    ∃ t, exec (.move tag (.fields q)) s = .next t ∧
      (∀ n ∈ namedMoves q, axisTakenUp s t n.1 n.2) ∧
      (∀ a, (∀ n ∈ namedMoves q, n.1 ≠ a) → t.axis a = s.axis a) ∧
      (q.bridge = none → t.claim = s.claim ∧ t.link = s.link) ∧
      ((∀ n ∈ namedMoves q, ¬ there n) → t.port.events = s.port.events ∧ t.store = s.store) ∧
      (∀ n ∈ namedMoves q, q = moveOf n.1 n.2 → there n →
        eventAt t.port 0 = (eventAt s.port 0).next (.moveDone n.1 .done (goal n) (s.position n.1))) ∧
      t.port.transmit = s.port.transmit ++
        [⟨false, 5, tag, if ∀ n ∈ namedMoves q, goal n = n.2.target then .ok else .clamped, .none⟩] ∧
      t.travel.hoist = s.travel.hoist ∧ t.halt = s.halt ∧ t.weigher = s.weigher ∧ t.tasks = s.tasks ∧ t.bays = s.bays ∧
      t.peers = s.peers ∧ t.node = s.node

/-- R4 to R6, R84: a Go To of a slot in use, of an intake point or of a cradle is a Move of both axes to the place's point
at the two speeds, in all but the kind of its response: refused where that Move is, and accepted with both axes taken up by
their states (`axisTakenUp`). A slot that is unused, an intake point or bay beyond its count or a cradle outside 1..c is
refused with RANGE, and a cradle of a bay without a trailer with STATE; that STATE stands before RANGE there, and that the
hook is refused with RANGE, is the model's choice (notes/assumptions/35.md). `axisTakenUp` rests on notes/assumptions/17.md,
36.md and 37.md, as an accepted Move does. -/
def Obligations.GoToAPlace : Prop :=
  ∀ (s : State) (tag : Nat) (place : Place) (vb vt : Int), ready s → settled s → s.record.isSome →
    let c := s.conf
    let point : Except Status Point := match place with
      | .slot n => if slotInUse c n then .ok ⟨c.rowBase + (n / 16 : Nat) * c.rowPitch,
          if n % 16 < 8 then c.lateralBase + (n % 16 : Nat) * c.lateralPitch
          else c.lateralBase + (n % 16 - 8 : Nat) * c.lateralPitch + c.lateralPitch / 2⟩ else .error .range
      | .intake i => if i < c.intakeCount then .ok (if i = 0 then c.intake0 else c.intake1) else .error .range
      | .cradle b i => if c.bayCount ≤ b then .error .range else match (s.bay b).load with
        | none => .error .state
        | some l => if 1 ≤ i ∧ i ≤ l.trailer.count then
            .ok ⟨(bayPoint c b).x + l.trailer.offsets.getD (i - 1) 0, (bayPoint c b).y⟩ else .error .range
      | .hook => .error .range
    let goTo := exec (.goTo tag (.fields ⟨place, vb, vt⟩)) s
    (∀ st, point = .error st → goTo = .next (answered (taken s 6 tag) 6 tag st .none)) ∧
    (∀ p, point = .ok p →
      let q : MoveRequest := ⟨some ⟨p.x, vb⟩, some ⟨p.y, vt⟩⟩
      (∃ u, exec (.move tag (.fields q)) s = .next u ∧
        ∃ st, u.port.transmit = s.port.transmit ++ [⟨false, 5, tag, st, .none⟩] ∧
          goTo = .next { u with port := { u.port with
            inHand := some (6, tag), transmit := s.port.transmit ++ [⟨false, 6, tag, st, .none⟩] } }) ∧
      (moveAccepted s q → configuredOk s → ∃ t, goTo = .next t ∧
        axisTakenUp s t .bridge ⟨p.x, vb⟩ ∧ axisTakenUp s t .trolley ⟨p.y, vt⟩ ∧
        t.port.transmit = s.port.transmit ++ [⟨false, 6, tag,
          if clampTarget c .bridge p.x = p.x ∧ clampTarget c .trolley p.y = p.y then .ok else .clamped, .none⟩] ∧
        t.travel.hoist = s.travel.hoist ∧ t.halt = s.halt ∧ t.weigher = s.weigher ∧ t.tasks = s.tasks ∧
        t.bays = s.bays ∧ t.peers = s.peers ∧ t.node = s.node))

/-- R85: Set Speed gives each named axis's move in hand the clamped speed; the move speed becomes it at once unless the
setpoint is above it. With the node not ACTIVE, or a named axis without a move in hand or with a stop order, it is refused
as one request with STATE and changes nothing. -/
def Obligations.SetSpeedOfAMove : Prop :=
  ∀ (s : State) (tag : Nat) (q : SpeedRequest), ready s → settled s → s.record.isSome →
    (q.bridge.isSome ∨ q.trolley.isSome) →
    let fit (a : Axis) : Prop := ∃ m, (s.axis a).move = some m ∧ m.stopOrder = none
    let faster (a : Axis) (v : Option Int) : AxisRecord := match v with
      | none => s.axis a
      | some v =>
        let w := clampSpeed s.conf a v
        { s.axis a with move := (s.axis a).move.map fun m => { m with
            requested := w, speed := if magnitude (s.axis a).setpoint ≤ w then w else m.speed } }
    let accepted : Prop := s.node = .active ∧ (q.bridge.isSome → fit .bridge) ∧ (q.trolley.isSome → fit .trolley)
    (accepted → exec (.setSpeed tag (.fields q)) s = .next (answered
      (((taken s 7 tag).withAxis .bridge (faster .bridge q.bridge)).withAxis .trolley (faster .trolley q.trolley))
      7 tag .ok .none)) ∧
    (¬ accepted → exec (.setSpeed tag (.fields q)) s = .next (answered (taken s 7 tag) 7 tag .state .none))

/-- R86, R104: Stop Move, for each axis it names, by its axis state: a MOVING axis takes a stop order CANCELLED unless it holds
one; a RELEASING, SETTLING or WAITING axis ends its move at once; any other axis, and one not named, is left as it is. It is
answered OK. -/
def Obligations.StopMoveByAxisState : Prop :=
  ∀ (s : State) (tag : Nat) (q : AxesRequest), ready s → settled s → s.record.isSome → axesOk s →
    let named (a : Axis) : Bool := match a with
      | .bridge => q.bridge
      | .trolley => q.trolley
    let ends (a : Axis) : Prop := named a = true ∧
      ((s.axis a).state = .releasing ∨ (s.axis a).state = .settling ∨ (s.axis a).state = .waiting)
    ∃ t, exec (.stopMove tag (.fields q)) s = .next t ∧
      (∀ a, let r := s.axis a
        let u := t.axis a
        let o : MoveOutcome := if r.state = .waiting then .blocked else .cancelled
        (named a = false ∨ r.state = .parked ∨ r.state = .holding ∨ r.state = .stopping ∨ r.state = .fault → u = r) ∧
        (named a = true → r.state = .moving → ∀ m, r.move = some m →
          u = { r with move := some { m with stopOrder := some (m.stopOrder.getD .cancelled) } }) ∧
        (ends a → ∀ m, r.move = some m → u.move = none ∧ u.setpoint = 0 ∧ u.commanded = none ∧
          u.last = some ⟨o, m.target, s.position a⟩ ∧
          (q = stopOf a → eventAt t.port 0 = (eventAt s.port 0).next (.moveDone a o m.target (s.position a))) ∧
          (r.state = .releasing → u.state = .parked ∧ u.brake = false) ∧
          (r.state ≠ .releasing → u.state = .holding ∧ u.brake = true ∧
            u.parkTimer = some (s.now + 1000 * s.conf.parkDelay)))) ∧
      (¬ ends .bridge → t.claim = s.claim ∧ t.link = s.link ∧ t.store = s.store) ∧
      (¬ ends .bridge → ¬ ends .trolley → t.port.events = s.port.events) ∧
      t.port.transmit = s.port.transmit ++ [⟨false, 8, tag, .ok, .none⟩] ∧ t.travel.hoist = s.travel.hoist ∧
      t.halt = s.halt ∧ t.weigher = s.weigher ∧ t.tasks = s.tasks ∧ t.bays = s.bays ∧ t.node = s.node

/-! ## Travel: timers and profile periods -/

/-- R86, R87, R92, R94: the timers of an axis in its states. The brake settle time ends in MOVING with the commanded
position taken from the position input, or 0 where it is invalid; the park timer ends in PARKED; the wait timer ends a
WAITING move BLOCKED. Which outcome the settle timer gives is the model's reading (notes/assumptions/8.md): DONE where the
last period found the axis in position and the settle time is reached no later than the 3 s, NOT_IN_POSITION elsewhere. That
the expiry of a settle timer which is stopped does nothing is the model's choice (notes/assumptions/2.md). -/
def Obligations.AxisTimers : Prop :=
  ∀ (s : State) (a : Axis), settled s → axesOk s →
    let r := s.axis a
    let p := axisParams s.conf a
    (∀ d, r.brakeTimer = some d →
      exec (.brakeSettleExpiry a) s = .next ((elapse s d).withAxis a { r with
        state := .moving, brakeTimer := none, profileTimer := some (max s.now d + 10)
        commanded := some (match s.position a with
          | some x => 100 * x
          | none => 0) })) ∧
    (∀ d, r.parkTimer = some d →
      exec (.parkTimerExpiry a) s = .next ((elapse s d).withAxis a { r with
        state := .parked, brake := false, commanded := none, parkTimer := none })) ∧
    (∀ u, r.settle = some u → ∀ m, r.move = some m →
      ∃ t, exec (.settleTimerExpiry a) s = .next t ∧ t.now = s.now ∧ nowHolding s t a ∧
        moveEnded s t a
          (if 0 < u.inWindow ∧ p.settleTime - u.inWindow ≤ 3000 - u.settling then .done else .notInPosition)
          m.target) ∧
    (r.settle = none → exec (.settleTimerExpiry a) s = .next s) ∧
    (∀ d, s.travel.bridge.waitTimer = some d → ∀ m, s.travel.bridge.move = some m →
      ∃ t, exec .waitTimeout s = .next t ∧ t.now = max s.now d ∧ nowHolding s t .bridge ∧
        moveEnded s t .bridge .blocked m.target)

/-- R88 to R93: a profile period in MOVING without a stop order. With v the magnitude of the setpoint, g the distance to go
to the effective target and c the cap, v′ is found as R89 gives it, the setpoint is v′ in the direction of travel, and the
commanded position advances by it. The cap takes in the requested speed beside the move speed, so that a speed above it falls
by the step in force (the model's reading of R85 with R89, notes/assumptions/41.md). At v′ = 0 the arrival is judged with the
quantities of R88 at setpoint 0 (the model's reading, notes/assumptions/7.md): the axis enters SETTLING, or the bridge WAITING
where its target is cut short. -/
def Obligations.ProfilePeriodMoving : Prop :=
  ∀ (s : State) (a : Axis), settled s → axesOk s → (s.axis a).state = .moving →
    ∀ m, (s.axis a).move = some m → m.stopOrder = none → ∀ d, (s.axis a).profileTimer = some d →
    ∀ x, s.position a = some x → ∀ k, (s.axis a).commanded = some k →
    magnitude (k - 100 * x) ≤ 100 * (axisParams s.conf a).following →
    let r := s.axis a
    let p := axisParams s.conf a
    let v := magnitude r.setpoint
    let toward (dir : Side) : Int := match a, dir, s.claim.confirmed with
      | .bridge, .high, some i => min m.target (i.high - s.conf.halfLength - s.conf.margin)
      | .bridge, .low, some i => max m.target (i.low + s.conf.halfLength + s.conf.margin)
      | _, _, _ => m.target
    let left (dir : Side) : Int := match dir with
      | .high => toward .high - x
      | .low => x - toward .low
    let atRest : Side := if x < m.target then .high else if m.target < x then .low else m.direction
    let dir : Side := if 0 < r.setpoint then .high else if r.setpoint < 0 then .low else atRest
    let step := if s.weigher.load = .empty then p.decel else p.decelLoaded
    let c0 := min (min m.speed m.requested) p.maxSpeed
    let c := if slowActive s a dir ∨ (s.weigher.sensorLost = true ∧ s.weigher.load ≠ .empty) then min c0 p.creepSpeed
      else c0
    let v1 := if v < c then min (v + p.accel) c else if c < v then max (v - step) c else v
    let v' :=
      if left dir ≤ p.creepStop then (if v ≤ p.creepSpeed then 0 else max (v - step) 0)
      else if left dir < ceilDiv v1 100 + creepDistance p.creepSpeed v1 step + p.creepLength then
        max (v - step) p.creepSpeed
      else v1
    let moved : AxisRecord := { r with
      profileTimer := some (max s.now d + 10)
      setpoint := if dir = .high then v' else -v', commanded := some (k + if dir = .high then v' else -v')
      move := some { m with direction := dir, speed := max m.requested v' } }
    let arrival : Side := if x < m.target then .high else if m.target < x then .low else dir
    (v' ≠ 0 ∨ p.creepStop < left arrival → exec (.profilePeriod a) s = .next ((elapse s d).withAxis a moved)) ∧
    (v' = 0 → left arrival ≤ p.creepStop → toward arrival = m.target →
      exec (.profilePeriod a) s =
        .next ((elapse s d).withAxis a { moved with state := .settling, settle := some ⟨0, 0⟩ })) ∧
    (v' = 0 → left arrival ≤ p.creepStop → toward arrival ≠ m.target →
      exec (.profilePeriod a) s = .next (extensionAttempt ((elapse s d).withAxis a { moved with
        state := .waiting, waitTimer := some (max s.now d + 1000 * s.conf.waitTimeout) })))

/-- R92, R94: a profile period in SETTLING adds 10 ms to the settling time and to the in-window time, which returns to 0
where the axis is not in position; the move ends DONE when the in-window time reaches the settle time, and else
NOT_IN_POSITION at 3 s. A period in WAITING goes as a period in MOVING when the target is no longer cut short or the way to
go exceeds the creep stop distance, and else leaves the axis WAITING. -/
def Obligations.ProfilePeriodAtRest : Prop :=
  ∀ (s : State) (a : Axis), settled s → axesOk s →
    ∀ m, (s.axis a).move = some m → ∀ d, (s.axis a).profileTimer = some d → ∀ x, s.position a = some x →
    ∀ k, (s.axis a).commanded = some k → magnitude (k - 100 * x) ≤ 100 * (axisParams s.conf a).following →
    let r := s.axis a
    let p := axisParams s.conf a
    let side : Side := if x < m.target then .high else if m.target < x then .low else m.direction
    let held : AxisRecord := { r with
      profileTimer := some (max s.now d + 10), move := some { m with direction := side } }
    (r.state = .settling → ∀ u, r.settle = some u →
      let inWindow := if magnitude (m.target - x) ≤ p.window then u.inWindow + 10 else 0
      (inWindow < p.settleTime → u.settling + 10 < 3000 →
        exec (.profilePeriod a) s =
          .next ((elapse s d).withAxis a { held with settle := some ⟨inWindow, u.settling + 10⟩ })) ∧
      (p.settleTime ≤ inWindow ∨ 3000 ≤ u.settling + 10 →
        ∃ t, exec (.profilePeriod a) s = .next t ∧ t.now = max s.now d ∧ nowHolding s t a ∧
          moveEnded s t a (if p.settleTime ≤ inWindow then .done else .notInPosition) m.target)) ∧
    (a = .bridge → r.state = .waiting → m.stopOrder = none → ∀ i, s.claim.confirmed = some i →
      let e := match side with
        | .high => min m.target (i.high - s.conf.halfLength - s.conf.margin)
        | .low => max m.target (i.low + s.conf.halfLength + s.conf.margin)
      let g := match side with
        | .high => e - x
        | .low => x - e
      (e = m.target ∨ p.creepStop < g →
        exec (.profilePeriod a) s =
          exec (.profilePeriod a) (s.withAxis a { r with state := .moving, waitTimer := none })) ∧
      (e ≠ m.target → g ≤ p.creepStop → exec (.profilePeriod a) s = .next ((elapse s d).withAxis a held)))

/-- R91, R95, R96: a profile period with a stop order lowers the setpoint by the normal deceleration step, and one in
STOPPING by the emergency step, without cap, limit or deceleration test; the commanded position advances. At 0 the axis
enters HOLDING, and a move with a stop order ends with the outcome the order holds. -/
def Obligations.ProfilePeriodStopping : Prop :=
  ∀ (s : State) (a : Axis), settled s → axesOk s → ∀ d, (s.axis a).profileTimer = some d →
    ∀ x, s.position a = some x → ∀ k, (s.axis a).commanded = some k →
    magnitude (k - 100 * x) ≤ 100 * (axisParams s.conf a).following →
    let r := s.axis a
    let v := magnitude r.setpoint
    (r.state = .stopping →
      let v' := max (v - (axisParams s.conf a).emergency) 0
      let w := if r.setpoint < 0 then -v' else v'
      (v' ≠ 0 → exec (.profilePeriod a) s = .next ((elapse s d).withAxis a
        { r with setpoint := w, commanded := some (k + w), profileTimer := some (max s.now d + 10) })) ∧
      (v' = 0 → exec (.profilePeriod a) s = .next ((elapse s d).withAxis a
        { r with
          state := .holding, setpoint := 0, commanded := none, profileTimer := none
          parkTimer := some (max s.now d + 1000 * s.conf.parkDelay) }))) ∧
    (r.state = .moving → ∀ m, r.move = some m → ∀ o, m.stopOrder = some o →
      let v' := max (v - (axisParams s.conf a).decel) 0
      let dir : Side := if 0 < r.setpoint then .high else if r.setpoint < 0 then .low
        else if x < m.target then .high else if m.target < x then .low else m.direction
      let w := if dir = .high then v' else -v'
      (v' ≠ 0 → exec (.profilePeriod a) s = .next ((elapse s d).withAxis a
        { r with
          setpoint := w, commanded := some (k + w), profileTimer := some (max s.now d + 10)
          move := some { m with direction := dir, speed := max m.requested v' } })) ∧
      (v' = 0 → o ≠ .replaced → ∃ t, exec (.profilePeriod a) s = .next t ∧ t.now = max s.now d ∧ nowHolding s t a ∧
        moveEnded s t a o m.target))

/-- R97, R105, R106: a profile period that finds the position input invalid or the commanded position too far from it puts
the axis in FAULT: setpoint 0, the brake kept released, no timer running, a move in hand ended FAULT. FOLLOWING is set and
drives the line where the node state allows; AXIS_FAULT holds cause, commanded position and position. With the line
RELEASED before, the other axis is stopped by the edge (R96). -/
def Obligations.FollowingFault : Prop :=
  ∀ (s : State) (a : Axis) (cause : FaultCause), settled s → axesOk s → ∀ d, (s.axis a).profileTimer = some d →
    (s.position a = none ∧ cause = .invalidPosition ∨
      cause = .followingError ∧ ∃ x, s.position a = some x ∧ ∃ k, (s.axis a).commanded = some k ∧
        100 * (axisParams s.conf a).following < magnitude (k - 100 * x)) →
    let r := s.axis a
    ∃ t, exec (.profilePeriod a) s = .next t ∧ t.now = max s.now d ∧
      (t.axis a).state = .fault ∧ (t.axis a).setpoint = 0 ∧ (t.axis a).brake = true ∧
      (t.axis a).commanded = r.commanded ∧ (t.axis a).move = none ∧ (t.axis a).profileTimer = none ∧
      (t.axis a).settle = none ∧ (t.axis a).waitTimer = none ∧ (t.axis a).parkTimer = none ∧
      (t.axis a).last = (match r.move with
        | some m => some ⟨.fault, m.target, s.position a⟩
        | none => r.last) ∧
      (t.axis a).lowHold = r.lowHold ∧ (t.axis a).highHold = r.highHold ∧
      t.halt.reasons = { s.halt.reasons with following := true } ∧
      (s.halt.reasons.following = false → lineOk t) ∧
      eventAt t.port 12 = (eventAt s.port 12).next (.axisFault a cause r.commanded (s.position a)) ∧
      (s.halt.reasons.following = false → drivingState s.node → s.record.isSome → s.halt.asserted = false →
        ∀ b, b ≠ a → ∀ m, (s.axis b).move = some m → (t.axis b).move = none ∧
          (t.axis b).last = some ⟨.halted, m.target, s.position b⟩ ∧
          (t.axis b).setpoint = (s.axis b).setpoint ∧
          ((s.axis b).setpoint ≠ 0 → (t.axis b).state = .stopping)) ∧
      t.travel.hoist = s.travel.hoist ∧ t.weigher = s.weigher ∧ t.tasks = s.tasks ∧ t.bays = s.bays ∧ t.peers = s.peers ∧
      t.node = s.node ∧ t.record = s.record ∧ t.inputs = s.inputs ∧ t.store.slots = s.store.slots

/-- R90, R100: the edges of a travel axis's limit inputs, from acceptance of the start record on; before it, and at a
passage to the inactive level, only the level is kept. A slowdown input passing into its active level cuts a setpoint
toward its side, above creep speed, to creep speed, in MOVING and STOPPING alone. An end-limit edge is ignored by an axis
travelling toward the other side; elsewhere it latches the hold of its side, raises LIMIT, and ends a move toward its side. -/
def Obligations.LimitInputEdges : Prop :=
  ∀ (s : State) (a : Axis) (d : Side) (level : Bool), settled s → axesOk s →
    let r := s.axis a
    let p := axisParams s.conf a
    let slow : State := { s with inputs := s.inputs.withAxis a ((s.inputs.axis a).withSlow d level) }
    let limit : State := { s with inputs := s.inputs.withAxis a ((s.inputs.axis a).withLimit d level) }
    let toward := if d = .high then r.setpoint else -r.setpoint
    let latched : AxisRecord := match d with
      | .low => { r with lowHold := true }
      | .high => { r with highHold := true }
    (s.record = none ∨ slowActive slow a d = false ∨ toward ≤ p.creepSpeed ∨
        (r.state ≠ .moving ∧ r.state ≠ .stopping) → exec (.slowdownEdge a d level) s = .next slow) ∧
    (s.record.isSome → slowActive slow a d = true → p.creepSpeed < toward → r.state = .moving ∨ r.state = .stopping →
      exec (.slowdownEdge a d level) s = .next (slow.withAxis a { r with
        setpoint := if d = .high then p.creepSpeed else -p.creepSpeed
        move := r.move.map fun m => { m with speed := p.creepSpeed } })) ∧
    (s.record = none ∨ limitActive s.conf limit.inputs a d = false → exec (.endLimitEdge a d level) s = .next limit) ∧
    (s.record.isSome → limitActive s.conf limit.inputs a d = true →
      ((∃ m, r.move = some m ∧ m.direction ≠ d) ∨ (r.state = .stopping ∧ 0 < -toward) →
        exec (.endLimitEdge a d level) s = .next limit) ∧
      (r.state = .parked ∨ r.state = .holding ∨ r.state = .fault ∨ (r.state = .stopping ∧ 0 ≤ toward) →
        exec (.endLimitEdge a d level) s = .next (raiseEvent (limit.withAxis a latched) (.limit a d false))) ∧
      (∀ m, r.move = some m → m.direction = d →
        ∃ t, exec (.endLimitEdge a d level) s = .next t ∧ (t.axis a).move = none ∧
          (t.axis a).last = some ⟨.limit, m.target, s.position a⟩ ∧ (t.axis a).lowHold = latched.lowHold ∧
          (t.axis a).highHold = latched.highHold ∧ (t.axis a).setpoint = r.setpoint ∧
          (t.axis a).state = (if r.state = .releasing then .parked else if r.setpoint = 0 then .holding else .stopping) ∧
          (t.axis a).brake = (r.state != .releasing) ∧
          eventAt t.port 0 = (eventAt s.port 0).next (.moveDone a .limit m.target (s.position a)) ∧
          eventAt t.port 11 = (eventAt s.port 11).next (.limit a d true) ∧
          (∀ b, b ≠ a → t.axis b = s.axis b) ∧ t.inputs = limit.inputs ∧ t.halt = s.halt ∧ t.weigher = s.weigher ∧
          t.tasks = s.tasks ∧ t.bays = s.bays ∧ t.peers = s.peers ∧ t.node = s.node))

/-- R3, R98, R101, R102: the hoist counter and the top-reference edge act from acceptance of the start record on; the edge
sets H to the top reference height and makes the hoist REFERENCED. A change that makes low-hook travel arise, of the counter
or at the edge, gives a MOVING axis without a stop order a LOW_HOOK order; it ends a WAITING move in HOLDING and a RELEASING
one in PARKED with outcome LOW_HOOK; a SETTLING axis, and one without a move, it leaves. Where it does not arise, nothing
else changes. A position input is kept in every state; in FAULT a valid one becomes the commanded position. -/
def Obligations.HoistAndPositionInputs : Prop :=
  ∀ (s : State) (a : Axis) (x : Option Int) (up level : Bool), settled s →
    let h := s.travel.hoist
    let counted : Hoist := { h with height := if up then h.height + 1 else h.height - 1 }
    let topped : Hoist := ⟨s.conf.hoistTop, true⟩
    let lifted : State := { s with inputs := { s.inputs with topReference := level } }
    let placed : State := { s with inputs := s.inputs.withAxis a { s.inputs.axis a with position := x } }
    let low (g : Hoist) : Prop := s.weigher.load ≠ .empty ∧ (g.referenced = false ∨ g.height < s.conf.clearHeight)
    let still : Prop := s.travel.bridge.move = none ∧ s.travel.trolley.move = none
    let arises (e : Handled) (g : Hoist) : Prop := ∃ t, e = .next t ∧ t.travel.hoist = g ∧
      ∀ b, let r := s.axis b
        let u := t.axis b
        (r.state = .moving → ∀ m, r.move = some m →
          u = { r with move := some { m with stopOrder := some (m.stopOrder.getD .lowHook) } }) ∧
        (r.state = .waiting ∨ r.state = .releasing → ∀ m, r.move = some m →
          u.move = none ∧ u.last = some ⟨.lowHook, m.target, s.position b⟩ ∧ u.setpoint = 0 ∧
          u.lowHold = r.lowHold ∧ u.highHold = r.highHold ∧
          (r.state = .waiting → u.state = .holding ∧ u.brake = true ∧
            u.parkTimer = some (s.now + 1000 * s.conf.parkDelay)) ∧
          (r.state = .releasing → u.state = .parked ∧ u.brake = false ∧ u.parkTimer = none) ∧
          ((∀ c, c ≠ b → (s.axis c).state ≠ .waiting ∧ (s.axis c).state ≠ .releasing) →
            eventAt t.port 0 = (eventAt s.port 0).next (.moveDone b .lowHook m.target (s.position b)))) ∧
        (r.state ≠ .moving → r.state ≠ .waiting → r.state ≠ .releasing → u = r)
    (s.record = none → exec (.hoistCount up) s = .next s ∧ exec (.topReferenceEdge level) s = .next lifted) ∧
    (s.record.isSome → level ≠ s.conf.polarities.getLsbD 9 → exec (.topReferenceEdge level) s = .next lifted) ∧
    (s.record.isSome → low h ∨ ¬ low counted ∨ still →
      exec (.hoistCount up) s = .next { s with travel := { s.travel with hoist := counted } }) ∧
    (s.record.isSome → level = s.conf.polarities.getLsbD 9 → low h ∨ ¬ low topped ∨ still →
      exec (.topReferenceEdge level) s = .next { lifted with travel := { s.travel with hoist := topped } }) ∧
    (s.record.isSome → ¬ low h → low counted → ¬ still → arises (exec (.hoistCount up) s) counted) ∧
    (s.record.isSome → level = s.conf.polarities.getLsbD 9 → ¬ low h → low topped → ¬ still →
      arises (exec (.topReferenceEdge level) s) topped) ∧
    (x = none ∨ (s.axis a).state ≠ .fault → exec (.positionInputChange a x) s = .next placed) ∧
    (∀ y, x = some y → (s.axis a).state = .fault →
      exec (.positionInputChange a x) s = .next (placed.withAxis a { s.axis a with commanded := some (100 * y) }))

/-! ## The Halt Line -/

/-- R105, R106, R110, R112: the Halt request is answered OK and sets HOST, and the expiry of the host silence timer, which
then stays stopped, sets HOST_LOST; the node drives the line at once in a driving state, and the edge stops the axes. A
reason already set raises nothing. That HALT_CHANGED gives the line and the drive as the reason leaves them is the model's
reading (notes/assumptions/6.md). -/
def Obligations.HaltAndHostSilence : Prop :=
  ∀ (s : State) (tag : Nat), settled s → s.record.isSome → lineOk s → axesOk s →
    (ready s → s.halt.reasons.host = true →
      exec (.halt tag (.fields ())) s = .next (answered (taken s 25 tag) 25 tag .ok .none)) ∧
    (ready s → s.halt.reasons.host = false → ∃ t, exec (.halt tag (.fields ())) s = .next t ∧ reasonSet s t .host ∧
      t.now = s.now ∧ t.port.transmit = s.port.transmit ++ [⟨false, 25, tag, .ok, .none⟩] ∧
      t.port.hostTimer = some (s.now + s.conf.hostTimeout)) ∧
    (∀ d, s.port.hostTimer = some d →
      (s.halt.reasons.hostLost = true →
        exec .hostSilenceExpiry s = .next { elapse s d with port := { s.port with hostTimer := none } }) ∧
      (s.halt.reasons.hostLost = false → ∃ t, exec .hostSilenceExpiry s = .next t ∧ reasonSet s t .hostLost ∧
        t.now = max s.now d ∧ t.port.transmit = s.port.transmit ∧ t.port.hostTimer = none))

/-- R98, R105 to R109, R111: Clear Halt takes each axis in FAULT with a valid position input to HOLDING, clears every reason
but VOID, and FOLLOWING unless an axis stays in FAULT, and then the drive; a released edge follows where no level holds the
line. It is answered OK with the reasons still set and the line state. A change of the line's level: an asserted edge stops
both axes HALTED, a released edge moves nothing, each raises HALT_CHANGED; a change that leaves the line state only settles
the drive-not-seen flag, and before acceptance of the start record only the level is kept. -/
def Obligations.ClearHaltAndLineLevel : Prop :=
  (∀ (s : State) (tag : Nat), ready s → settled s → s.record.isSome → lineOk s → axesOk s →
    let stuck (a : Axis) : Bool := (s.axis a).state == .fault && (s.position a).isNone
    let following := s.halt.reasons.following && (stuck .bridge || stuck .trolley)
    let void := s.halt.reasons.void
    let drives := (following || void) && drivingState s.node
    let asserted := s.inputs.haltLine || drives
    let reasons : HaltReasons := ⟨false, following, false, false, void, false, false⟩
    ∃ t, exec (.clearHalt tag (.fields ())) s = .next t ∧
      (∀ a, t.axis a = if (s.axis a).state = .fault ∧ (s.position a).isSome then
          { s.axis a with
            state := .holding, commanded := none, parkTimer := some (s.now + 1000 * s.conf.parkDelay) }
        else s.axis a) ∧
      t.halt = ⟨reasons, asserted, drives, drives && !s.inputs.haltLine⟩ ∧
      eventAt t.port 5 = (if s.halt.asserted && !asserted then
        (eventAt s.port 5).next (.haltChanged .lineReleased asserted drives reasons) else eventAt s.port 5) ∧
      (∀ n, n ≠ 5 → eventAt t.port n = eventAt s.port n) ∧
      t.port.transmit = s.port.transmit ++ [⟨false, 26, tag, .ok, .halts reasons asserted⟩] ∧
      t.claim = s.claim ∧ t.link = s.link ∧ t.store = s.store ∧ otherBlocksKept s t) ∧
  ∀ (s : State) (level : Bool), settled s → lineOk s → axesOk s →
    let u : State := { s with inputs := { s.inputs with haltLine := level } }
    (s.record = none → s.halt.drives = false → exec (.haltLineLevelChange level) s = .next u) ∧
    (s.record.isSome → (level || s.halt.drives) = s.halt.asserted →
      exec (.haltLineLevelChange level) s =
        .next { u with halt := { s.halt with notSeen := s.halt.drives && !level } }) ∧
    (s.record.isSome → s.halt.asserted = true → level = false → s.halt.drives = false →
      exec (.haltLineLevelChange level) s = .next
        (raiseEvent { u with halt := { s.halt with asserted := false } }
          (.haltChanged .lineReleased false false s.halt.reasons))) ∧
    (s.record.isSome → s.halt.asserted = false → level = true →
      ∃ t, exec (.haltLineLevelChange level) s = .next t ∧ t.halt = { s.halt with asserted := true } ∧
        eventAt t.port 5 = (eventAt s.port 5).next (.haltChanged .lineAsserted true false s.halt.reasons) ∧
        (∀ a, axisStopped s t a .halted) ∧ t.now = s.now ∧ otherBlocksKept u t)

/-! ## The Hook Weigher -/

/-- R120: Tare is accepted when the sensor is OK, the window holds 8 values within the stability band, the hook load state
is EMPTY and no hook coil is recorded: the tare becomes the filtered value and the tared flag is set. Otherwise it is
refused with STATE and changes nothing. -/
def Obligations.Tare : Prop :=
  ∀ (s : State) (tag : Nat), ready s → settled s → s.record.isSome →
    let w := s.weigher
    let fit : Prop := w.sensorLost = false ∧ w.window.length = 8 ∧
      (∀ a ∈ w.window, ∀ b ∈ w.window, a - b ≤ s.conf.band) ∧ w.load = .empty ∧ s.tasks.hookCoil = none
    (fit → ∀ v, w.filtered = some v →
      exec (.tare tag (.fields ())) s = .next
        (answered { taken s 9 tag with weigher := { w with tare := v, tared := true } } 9 tag .ok (.tare v))) ∧
    (¬ fit → exec (.tare tag (.fields ())) s = .next (answered (taken s 9 tag) 9 tag .state .none))

/-- R115, R116: the reads of the converter and the sample timer. A passage of data-ready into its active level begins a
read in ARMED and is counted as lost while a transfer runs; bytes 1 and 2 are kept in turn; a byte 3 that no transfer
awaits is none. The select output to the converter is asserted while a transfer runs and released by its sample; the clock
rests at its idle level between transfers. The sample timer's expiry makes the sensor SENSOR_LOST with WEIGHT_FAULT, once,
and starts again. -/
def Obligations.ConverterAndSampleTimer : Prop :=
  ∀ (s : State) (level : Bool) (b : Byte), settled s →
    let w := s.weigher
    let u : State := { s with inputs := { s.inputs with dataReady := level } }
    (s.record = none ∨ level ≠ s.conf.polarities.getLsbD 8 ∨ w.converter = .idle →
      exec (.dataReadyEdge level) s = .next u) ∧
    (s.record.isSome → level = s.conf.polarities.getLsbD 8 →
      (w.converter = .armed →
        exec (.dataReadyEdge level) s = .next { u with weigher := { w with converter := .byte1 } }) ∧
      (w.converter ≠ .idle → w.converter ≠ .armed →
        exec (.dataReadyEdge level) s =
          .next { u with weigher := { w with lost := if w.lost < 65535 then w.lost + 1 else w.lost } })) ∧
    (w.converter = .byte1 →
      exec (.converterByteComplete b) s = .next { s with weigher := { w with converter := .byte2 b } }) ∧
    (∀ b1, w.converter = .byte2 b1 →
      exec (.converterByteComplete b) s = .next { s with weigher := { w with converter := .byte3 b1 b } }) ∧
    (w.converter ≠ .byte1 → (∀ b1, w.converter ≠ .byte2 b1) → exec (.converterByteComplete b) s = .next s) ∧
    ((∀ b1 b2, w.converter ≠ .byte3 b1 b2) → exec (.sample b) s = .next s) ∧
    (selectOutput w = true ↔ w.converter ≠ .idle ∧ w.converter ≠ .armed) ∧ clockAtRest w = !selectOutput w ∧
    (∀ b1 b2, w.converter = .byte3 b1 b2 → ∃ t, exec (.sample b) s = .next t ∧ selectOutput t.weigher = false) ∧
    (∀ d, w.timer = some d →
      let t : State := { elapse s d with weigher := { w with sensorLost := true, timer := some (max s.now d + 100) } }
      (w.sensorLost = true → exec .sampleTimerExpiry s = .next t) ∧
      (w.sensorLost = false → exec .sampleTimerExpiry s = .next (raiseEvent t
        (.weightFault .sensorLost true w.overrange w.overload w.raw (w.filtered.map (· - w.tare)) false))))

/-- R118: a raw count of −8,388,608 or 8,388,607 is overrange: nothing enters the window, the flag is set with WEIGHT_FAULT
where it was clear, the settle counter is 0, the hook load state is not evaluated, and the sample timer starts again. The
next sample in range clears the flag, as reset does. -/
def Obligations.OverrangeSample : Prop :=
  (∀ (s : State) (b : Byte), settled s → ∀ b1 b2 : Byte, s.weigher.converter = .byte3 b1 b2 →
    let w := s.weigher
    let raw := (b1 ++ b2 ++ b : BitVec 24).toInt
    let t : State := { s with weigher := { w with
      converter := .armed, raw := some raw, timer := some (s.now + 100), overrange := true, settle := 0 } }
    (raw = -8388608 ∨ raw = 8388607 →
      (w.overrange = true → exec (.sample b) s = .next t) ∧
      (w.overrange = false → exec (.sample b) s = .next (raiseEvent t (.weightFault .overrange w.sensorLost true w.overload
        (some raw) (w.filtered.map (· - w.tare)) (!w.sensorLost))))) ∧
    (raw ≠ -8388608 → raw ≠ 8388607 → ∃ u, exec (.sample b) s = .next u ∧ u.weigher.overrange = false)) ∧
  State.reset.weigher.overrange = false

/-- R116, R117, R119, R121 to R128: a sample in range. The gross weight is (raw − zero) × scale / 65,536 to the nearest
kilogram, ties away from zero; it joins the window of at most 8 values, emptied first at the end of a sensor loss; filtered
is the window's mean, rounded alike; net is filtered minus tare; and once a Tare has been accepted the hook load state and
the settle counter follow the table of R125. A lift and a set-down raise LIFT and SET, a snag and a load loss set their
reasons, and the overload flag follows net. -/
def Obligations.SampleInRange : Prop :=
  ∀ (s : State) (b : Byte), settled s → s.record.isSome → s.weigher.window.length ≤ 8 →
    ∀ b1 b2 : Byte, s.weigher.converter = .byte3 b1 b2 →
    let w := s.weigher
    let c := s.conf
    let raw := (b1 ++ b2 ++ b : BitVec 24).toInt
    let n := (raw - c.zeroCount) * c.scale
    let g := grossOf c raw
    let old := if w.sensorLost then [] else w.window
    let window := if old.length < 8 then old ++ [g] else old.drop 1 ++ [g]
    let f := filteredOf window
    let net := f - w.tare
    let steady := window.length = 8 ∧ ∀ a ∈ window, ∀ b ∈ window, a - b ≤ c.band
    let stands (a : Axis) : Prop := (s.axis a).state = .holding ∨ (s.axis a).state = .parked
    let travels (a : Axis) : Prop := (s.axis a).state = .moving ∨ (s.axis a).state = .waiting
    let standing := stands .bridge ∧ stands .trolley
    let travelling := ¬ standing ∧ (travels .bridge ∨ travels .trolley)
    let k := if w.sensorLost then 0 else w.settle
    let first := if steady then 1 else 0
    let hook : HookLoad × Nat × Option HookAct :=
      if w.tared = false then (w.load, k, none)
      else match w.load with
        | .empty =>
          if net < c.pick then (.empty, k, none)
          else if standing then (.taking, first, none)
          else if travelling then (.taking, 0, some .snag) else (.empty, k, none)
        | .taking =>
          if net < c.pick then (.empty, 0, none)
          else if standing then
            (if ¬ steady then (.taking, 0, none)
            else if c.settleCount ≤ k + 1 then (.loaded, 0, some .lift) else (.taking, k + 1, none))
          else if travelling then (.taking, 0, some .snag) else (.taking, 0, none)
        | .loaded =>
          if c.releaseLevel < net then (.loaded, k, none)
          else if standing then (.giving, first, none)
          else if travelling then (.empty, 0, some .loadLost) else (.loaded, k, none)
        | .giving =>
          if c.releaseLevel < net then (.loaded, 0, none)
          else if standing then
            (if ¬ steady then (.giving, 0, none)
            else if c.settleCount ≤ k + 1 then (.empty, 0, some .set) else (.giving, k + 1, none))
          else if travelling then (.empty, 0, some .loadLost) else (.giving, 0, none)
    raw ≠ -8388608 → raw ≠ 8388607 →
      2 * magnitude (65536 * g - n) ≤ 65536 ∧ (2 * magnitude (65536 * g - n) = 65536 → magnitude n < magnitude (65536 * g)) ∧
      2 * magnitude (window.length * f - window.sum) ≤ window.length ∧
      (2 * magnitude (window.length * f - window.sum) = window.length →
        magnitude window.sum < magnitude (window.length * f)) ∧
      ∃ t, exec (.sample b) s = .next t ∧
        t.weigher = { w with
          converter := .armed, raw := some raw, timer := some (s.now + 100), window := window, filtered := some f
          sensorLost := false, overrange := false, load := hook.1, settle := hook.2.1
          overload := decide (c.swl < net) } ∧
        eventAt t.port 3 = (if hook.2.2 = some .lift then (eventAt s.port 3).next (.lift net f) else eventAt s.port 3) ∧
        eventAt t.port 4 = (if hook.2.2 = some .set then (eventAt s.port 4).next (.set net f) else eventAt s.port 4) ∧
        eventAt t.port 10 = (if c.swl < net ∧ w.overload = false then (eventAt s.port 10).next
          (.weightFault .overload false false true (some raw) (some net) true) else eventAt s.port 10) ∧
        t.halt.reasons = (if hook.2.2 = some .snag then { s.halt.reasons with snag := true }
          else if hook.2.2 = some .loadLost then { s.halt.reasons with loadLost := true } else s.halt.reasons) ∧
        (hook.2.2 = none → t.tasks = s.tasks ∧ t.store.slots = s.store.slots ∧ t.bays = s.bays ∧ t.halt = s.halt) ∧
        t.node = s.node ∧ t.peers = s.peers ∧ t.record = s.record ∧ t.inputs = s.inputs ∧ t.now = s.now ∧
        t.travel.hoist = s.travel.hoist ∧ t.claim.joinWindow = s.claim.joinWindow

/-! ## The store -/

/-- R136, R142, R149: Block Slot and Unblock Slot are refused in the order of their tests. Accepted, the slot becomes
BLOCKED or FREE, an entry joins the outbox, a Store Notice waits, and the request is answered OK. -/
def Obligations.BlockAndUnblock : Prop :=
  ∀ (s : State) (tag n : Nat) (block : Bool), ready s → settled s → configuredOk s → s.record.isSome →
    let c := if block then Instr.blockSlot tag (.fields n) else .unblockSlot tag (.fields n)
    let kind := if block then 15 else 16
    let want : SlotRecord := if block then .free else .blocked
    let room : Int := 24 - s.store.outbox.length - reservedSlots s
    let refused (st : Status) : Prop := exec c s = .next (answered (taken s kind tag) kind tag st .none)
    (s.node ≠ .active → refused .state) ∧
    (s.node = .active → slotInUse s.conf n = false → refused .range) ∧
    (s.node = .active → slotInUse s.conf n = true → rowCovered s (n / 16) = false → refused .zone) ∧
    (s.node = .active → slotInUse s.conf n = true → rowCovered s (n / 16) = true → slotAt s n ≠ want → refused .state) ∧
    (s.node = .active → slotInUse s.conf n = true → rowCovered s (n / 16) = true → slotAt s n = want →
      (room < 1 → refused .full) ∧
      (1 ≤ room → ∃ t, exec c s = .next t ∧ slotAt t n = (if block then .blocked else .free) ∧
        (∀ k, k ≠ n → slotAt t k = slotAt s k) ∧
        t.store.outbox = s.store.outbox ++ [⟨n, if block then .blocked else .free⟩] ∧
        queued t isStoreNotice = true ∧ t.port.transmit = s.port.transmit ++ [⟨false, kind, tag, .ok, .none⟩] ∧
        t.port.events = s.port.events ∧ storeOnly s t))

/-- R131, R147, R148: Survey Row is refused in the order of its eight checks: outside ACTIVE, for a row at or above R, a row
not covered, a row with a held slot, a wrong number of entries, a coil number that is 0 or appears twice, an OCCUPIED upper
without both supports OCCUPIED, a coil that the hook, a held slot or a trailer holds, and too little room; that a class above
7 is refused with the numbers is the model's reading (notes/assumptions/16.md). A survey that passes them is accepted: it sets
every slot of the row, makes the row KNOWN, and puts the entries in the outbox: the uppers FREE or BLOCKED, the lowers, the
uppers OCCUPIED. Where no coil of it is recorded in another row, no other slot changes and nothing is raised; where coils of
it are recorded in one other row, that row is marked, without a rank. -/
def Obligations.SurveyRow : Prop :=
  ∀ (s : State) (tag : Nat) (q : SurveyRequest), ready s → settled s → configuredOk s → tablesOk s → s.record.isSome →
    let c := s.conf
    let es := (rowSlots c q.row).zip q.slots
    let uppers := es.drop c.lowers
    let coils := q.slots.filterMap surveyCoil
    let coilAt (i : Nat) : Option Nat := surveyCoil (q.slots.getD i .free)
    let classed (e : SlotState) : Bool := match e with
      | .occupied _ _ k => k ≤ 7
      | .free | .blocked => true
    let names (r : SlotRecord) : Prop := ∃ k ∈ coils, r.coilIn = some k
    let answer (o : Option (Status × Result)) : Prop := match o with
      | some (st, r) => exec (.surveyRow tag (.fields q)) s = .next (answered (taken s 14 tag) 14 tag st r)
      | none => ∃ t, exec (.surveyRow tag (.fields q)) s = .next t ∧
        (∀ e ∈ es, slotAt t e.1 = surveyRecord e.2) ∧ es.length = 2 * c.lowers - 1 ∧
        rowAt t q.row = ⟨true, false⟩ ∧
        t.store.outbox = s.store.outbox ++
          ((uppers.filter fun e => (surveyCoil e.2).isNone) ++ es.take c.lowers ++
            (uppers.filter fun e => (surveyCoil e.2).isSome)).map (fun e => ⟨e.1, e.2⟩) ∧
        ((∀ e ∈ s.store.slots, slotRow e.1 ≠ q.row → ¬ names e.2) →
          (∀ n, n ∉ rowSlots c q.row → slotAt t n = slotAt s n) ∧ t.port.events = s.port.events) ∧
        (∀ f ∈ s.store.slots, slotRow f.1 ≠ q.row → names f.2 →
          (∀ e ∈ s.store.slots, slotRow e.1 ≠ q.row → names e.2 → e.1 ∈ rowSlots c (slotRow f.1)) →
          let r := slotRow f.1
          (∀ n ∈ rowSlots c r, slotAt t n = if heldSlot s n then slotAt s n else .unknown) ∧
          (∀ n, n ∉ rowSlots c r → n ∉ rowSlots c q.row → slotAt t n = slotAt s n) ∧ rowAt t r = ⟨false, false⟩ ∧
          t.store.plan = (if s.store.plan.any (·.row == r) then none else s.store.plan) ∧
          eventAt t.port 13 = (eventAt s.port 13).next (.storeSuspect .coilClash (some r) 1 none)) ∧
        t.port.transmit = s.port.transmit ++ [⟨false, 14, tag, .ok, .none⟩] ∧ storeOnly s t
    inOrder answer [
      check (s.node = .active) .state,
      check (q.row < c.rows) .range,
      check (rowCovered s q.row = true) .zone,
      check (∀ n ∈ rowSlots c q.row, heldSlot s n = false) .state,
      check (q.slots.length = 2 * c.lowers - 1) .range,
      check (0 ∉ coils ∧ coils.Nodup ∧ ∀ e ∈ q.slots, classed e = true) .range,
      check (∀ j < c.lowers - 1, (coilAt (c.lowers + j)).isSome → (coilAt j).isSome ∧ (coilAt (j + 1)).isSome) .stack,
      check (∀ k ∈ coils, s.tasks.hookCoil.map (·.coil) ≠ some k ∧ inHeldSlot s k = false ∧ onTrailer s k = false) .state,
      check ((2 * c.lowers - 1 : Int) ≤ 24 - s.store.outbox.length - reservedSlots s) .full]

/-- R137 to R140: a peer's Store Notice, from a peer heard without a break. Of one entry: an unused slot is skipped; an
OCCUPIED entry without a coil, a held slot and a coil that the own hook, a held slot or a trailer holds mark the row with
their causes; a coil in another slot that is not held has that slot's row marked first. Any other entry is applied: the slot
takes its state, and its row is marked where a stacking break is left, and becomes KNOWN where none of its slots is UNKNOWN.
An answer's entry that agrees with a held slot is skipped, and an answer cancels the plan and the answers of its tag and
row. Of several entries, each slot takes its state, and the rows are checked after the last. -/
def Obligations.StoreNoticeEntry : Prop :=
  ∀ (s : State) (r seq : Nat) (e : NoticeEntry), quiet s r seq → tablesOk s → configuredOk s →
    let row := e.slot / 16
    let frame := exec (.storeNotice r seq ⟨none, [e]⟩) s
    let coil := e.coil.getD 0
    let value (e : NoticeEntry) : SlotRecord := match e.state with
      | .free => .free
      | .blocked => .blocked
      | .occupied => .occupied (e.coil.getD 0) e.weight e.cls
    let holds (coil : Nat) : Prop := (∃ k, s.tasks.hookCoil = some k ∧ k.coil = coil) ∨ inHeldSlot s coil = true ∨
      onTrailer s coil = true
    let marked (f : Handled) (cause : SuspectCause) : Prop :=
      ∃ t, f = .next t ∧ rowMarked s t row cause (some r) ∧ storeOnly (heard s r seq) t
    let applied (f : Handled) (u : State) (row : Nat) : Prop := ∃ t, f = .next t ∧ storeOnly (heard s r seq) t ∧
      t.store.outbox = s.store.outbox ∧
      (stackBreak u row = true → rowMarked u t row .stackBreak (some r)) ∧
      (stackBreak u row = false → (∀ n, slotAt t n = slotAt u n) ∧ t.port.events = u.port.events ∧
        ((∀ n ∈ rowSlots s.conf row, slotAt t n ≠ .unknown) → rowAt t row = ⟨true, false⟩) ∧
        ((∃ n ∈ rowSlots s.conf row, slotAt t n = .unknown) → (rowAt t row).known = (rowAt u row).known))
    (slotInUse s.conf e.slot = false → frame = .next (heard s r seq)) ∧
    (slotInUse s.conf e.slot = true →
      (e.state = .occupied → coil = 0 → marked frame .badEntry) ∧
      (¬ (e.state = .occupied ∧ coil = 0) → heldSlot s e.slot = true → marked frame .heldSlot) ∧
      (e.state = .occupied → coil ≠ 0 → heldSlot s e.slot = false → holds coil → marked frame .coilClash) ∧
      (¬ (e.state = .occupied ∧ (coil = 0 ∨ holds coil)) → heldSlot s e.slot = false →
        ((e.state = .occupied → ∀ m, m ≠ e.slot → (slotAt s m).coilIn ≠ some coil) →
          applied frame (putSlot s e.slot (value e)) row) ∧
        (e.state = .occupied → ∀ m, m ≠ e.slot → (slotAt s m).coilIn = some coil →
          (∀ k, k ≠ e.slot → k ≠ m → (slotAt s k).coilIn ≠ some coil) →
          let u := markSuspect s (slotRow m) .coilClash (some r)
          rowMarked s u (m / 16) .coilClash (some r) ∧ applied frame (putSlot u e.slot (value e)) row)) ∧
      (∀ tag, ¬ (e.state = .occupied ∧ coil = 0) → heldSlot s e.slot = true →
        let answer := exec (.storeNotice r seq ⟨some tag, [e]⟩) s
        let agreed : Bool := match slotAt s e.slot, e.state with
          | .reservedOut c _ _ _, .occupied | .occupied c _ _, .occupied => e.coil == some c
          | .reservedIn _ _ _ _, .free => true
          | _, _ => false
        let mine (c : Content) : Bool := match c with
          | .answer row' tag' _ => row' == row && tag' == tag
          | _ => false
        let h := heard s r seq
        (agreed = true → answer = .next { h with
          store := { s.store with plan := s.store.plan.filter fun p => !(p.tag == tag && p.row == row) }
          link := { h.link with queue := withdrawEntries mine s.link.queue } }) ∧
        (agreed = false → marked answer .heldSlot))) ∧
    ∀ es : List NoticeEntry, 1 ≤ es.length → es.length ≤ 6 → (es.map (·.slot)).Nodup →
      (es.filterMap fun e => if e.state = .occupied then some (e.coil.getD 0) else none).Nodup →
      (∀ e ∈ es, slotInUse s.conf e.slot = true ∧ heldSlot s e.slot = false ∧ (e.state = .occupied → e.coil.getD 0 ≠ 0 ∧
        ¬ holds (e.coil.getD 0) ∧ ∀ f ∈ s.store.slots, f.2.coilIn ≠ e.coil)) →
      let u := es.foldl (fun v e => putSlot v e.slot (value e)) s
      ∃ t, exec (.storeNotice r seq ⟨none, es⟩) s = .next t ∧ storeOnly (heard s r seq) t ∧
        (∀ e ∈ es, slotAt u e.slot = value e ∧ ∀ n ∈ rowSlots s.conf (e.slot / 16), slotAt t n =
          if stackBreak u (e.slot / 16) ∧ heldSlot s n = false then .unknown else slotAt u n) ∧
        (∀ n, (∀ e ∈ es, n ∉ rowSlots s.conf (e.slot / 16)) → slotAt t n = slotAt s n) ∧
        ((∀ e ∈ es, stackBreak u (e.slot / 16) = false) → t.port.events = s.port.events)

/-- R143 to R146: a peer's Slot Query for a KNOWN row makes the answer plan, due own rank × 5 ms later; at the due time the
answers give every slot of the row that is not UNKNOWN, in index order, six to a notice, a reserved slot by its underlying
state, and answers queued before are withdrawn. A query that expires leaves its row spent while it is covered, raises
STORE_SUSPECT, and the lowest-numbered row that is UNKNOWN, covered and not spent is asked for. -/
def Obligations.QueriesAndAnswers : Prop :=
  (∀ (s : State) (r seq row tag : Nat), quiet s r seq →
    exec (.slotQuery r seq ⟨row, tag⟩) s = .next
      (if row < s.conf.rows ∧ (rowAt s row).known = true then
        { heard s r seq with store := { s.store with plan := some ⟨row, tag, s.now + s.conf.ownRank * 5⟩ } }
      else heard s r seq)) ∧
  (∀ s : State, settled s → plansAnswers s.node = true → ∀ p, s.store.plan = some p →
    ∃ t, exec .answerPlanDue s = .next t ∧ t.store = { s.store with plan := none } ∧ t.now = max s.now p.due ∧
      let parts : List (List NoticeEntry) := (t.link.queue.filter fun e => isAnswer e.content && !e.withdrawn).map
        fun e => match e.content with
          | .answer row tag es => if row = p.row ∧ tag = p.tag then es else []
          | _ => []
      parts.flatten = ((rowSlots s.conf p.row).filterMap fun n => match slotAt s n with
        | .unknown => none
        | .free => some (noticeEntry n .free)
        | .reservedIn _ _ _ _ => some (noticeEntry n .free)
        | .blocked => some (noticeEntry n .blocked)
        | .occupied c w k => some (noticeEntry n (.occupied c w k))
        | .reservedOut c w k _ => some (noticeEntry n (.occupied c w k))) ∧
      (∀ l ∈ parts, 1 ≤ l.length ∧ l.length ≤ 6) ∧ (∀ l ∈ parts.dropLast, l.length = 6)) ∧
  (∀ s : State, settled s → configuredOk s → s.record.isSome → ∀ q, s.store.query = some q → ∀ d, q.expiry = some d →
    q.row < s.conf.rows → tablesOk s →
    let askable (r : Nat) : Bool := r < s.conf.rows && r != q.row && rowCovered s r && rowAt s r == ⟨false, false⟩
    ∃ t, exec .queryExpiry s = .next t ∧ (rowAt t q.row).spent = rowCovered s q.row ∧
      (rowAt t q.row).known = (rowAt s q.row).known ∧
      eventAt t.port 13 = (eventAt s.port 13).next (.storeSuspect .unanswered (some q.row) 0 none) ∧
      (∀ r, askable r = true → (∀ k < r, askable k = false) → t.store.query = some ⟨r, s.store.counter, none⟩ ∧
        t.store.counter = (s.store.counter + 1) % 256) ∧
      ((∀ k < s.conf.rows, askable k = false) → t.store.query = none ∧ t.store.counter = s.store.counter) ∧
      t.store.slots = s.store.slots ∧ t.store.outbox = s.store.outbox ∧ t.tasks = s.tasks ∧ t.bays = s.bays ∧
      t.claim = s.claim ∧ t.travel = s.travel ∧ t.node = s.node)

/-! ## Tasks -/

/-- R133, R134, R151, R152, R154 to R157, R180: Begin Task is refused in the order of its checks, and a refused Begin changes
nothing. One that passes them all is accepted: the task takes the counter's number, passing over one held in the nest
(notes/assumptions/43.md), and joins the nest as its top, with the coil, class and expected weight of its kind; a slot source
becomes RESERVED_OUT, a slot destination RESERVED_IN, a cradle RESERVED, owned by the task; and the answer holds number and
depth. -/
def Obligations.BeginTask : Prop :=
  ∀ (s : State) (tag : Nat) (q : BeginRequest), ready s → settled s → s.record.isSome → tablesOk s → baysOk s →
    let nest := s.tasks.nest
    let depth := nest.length + 1
    let placed : Prop := placesFit q.kind q.source q.dest = true ∧ placeInRange s.conf q.source = true ∧
      placeInRange s.conf q.dest = true ∧ storeCoilOk q = true
    let hookOk : Prop := if q.kind = .ret then s.tasks.hookCoil.isSome ∧ nest = [] else s.tasks.hookCoil = none
    let lying : Option (Nat × Nat × Option Int) := match q.source with
      | .slot n => match slotAt s n with
        | .occupied c w k => some (c, k, w)
        | _ => none
      | .intake _ | .cradle _ _ | .hook => none
    let found : Option (Nat × Nat × Option Int) := match q.kind with
      | .store => q.coil.map fun k => (k.coil, k.cls, k.weight)
      | .shift | .dispatch => lying
      | .ret => s.tasks.hookCoil.map fun k => (k.coil, k.cls, some k.weight)
    let coil := found.getD (0, 0, none)
    let weight := coil.2.2
    let slots : Int := ([q.source, q.dest].filter fun p => match p with
      | .slot _ => true
      | .intake _ | .cradle _ _ | .hook => false).length
    let answer (o : Option (Status × Result)) : Prop := match o with
      | some (st, r) => exec (.beginTask tag (.fields q)) s = .next (answered (taken s 10 tag) 10 tag st r)
      | none =>
        let number := numberToGive s.tasks
        ∃ t, exec (.beginTask tag (.fields q)) s = .next t ∧
          (∃ k : Task, t.tasks = { s.tasks with nest := nest ++ [k], counter := if number < 255 then number + 1 else 1 } ∧
            k.number = number ∧ k.kind = q.kind ∧ k.source = q.source ∧ k.dest = q.dest ∧ k.carrying = (q.kind == .ret) ∧
            k.coil = coil.1 ∧ k.cls = coil.2.1 ∧ k.expected = (if q.kind = .ret then none else weight) ∧
            (∀ n, q.source = .slot n → slotAt t n = .reservedOut coil.1 weight coil.2.1 number ∧
              JournalEntry.slot n (slotAt s n) false ∈ k.journal) ∧
            (∀ n, q.dest = .slot n → slotAt t n = .reservedIn coil.1 weight coil.2.1 number ∧
              JournalEntry.slot n .free false ∈ k.journal) ∧
            (∀ b i, q.dest = .cradle b i → JournalEntry.cradle b i .empty false ∈ k.journal ∧
              ∀ w, weight = some w → cradleAt (t.bay b) i = .reserved (.own number coil.1 w))) ∧
          (∀ k ∈ nest, k.number ≠ number) ∧
          (∀ n, q.source ≠ .slot n → q.dest ≠ .slot n → slotAt t n = slotAt s n) ∧
          t.store.outbox = s.store.outbox ∧ t.port.events = s.port.events ∧
          t.port.transmit = s.port.transmit ++ [⟨false, 10, tag, .ok, .begun number depth⟩] ∧
          t.travel = s.travel ∧ t.halt = s.halt ∧ t.weigher = s.weigher ∧ t.claim = s.claim ∧ t.peers = s.peers ∧
          t.node = s.node
    inOrder answer ([
      check (s.node = .active) .state,
      check placed .range,
      check (s.tasks.loose = false) .state,
      check hookOk .state,
      check (∀ t ∈ nest.getLast?, t.carrying = false) .state,
      check (nest.length < 3) .depth,
      check (q.kind = .store → recordedAnywhere s coil.1 = false) .state] ++
      sourceChecks s depth q.source ++ [check (q.kind = .dispatch → weight.isSome) .weight] ++
      destinationChecks s coil.2.1 weight q.dest ++
      [check (slots ≤ 24 - s.store.outbox.length - reservedSlots s) .full])

/-- R167 to R170: Abort Task of a number that no open task holds is answered NOT_FOUND. Otherwise the whole nest is
unwound with cause HOST at the task's depth (`nestAborted`), and the hook records stay as they are. -/
def Obligations.AbortTask : Prop :=
  ∀ (s : State) (tag number : Nat), ready s → settled s → s.record.isSome → tablesOk s →
    let nest := s.tasks.nest
    ((∀ k ∈ nest, k.number ≠ number) →
      exec (.abortTask tag (.fields number)) s = .next (answered (taken s 11 tag) 11 tag .notFound .none)) ∧
    (∀ d, depthOf nest number = some d →
      1 ≤ d ∧ d ≤ nest.length ∧ (nest[d - 1]?).map (·.number) = some number ∧
      ∃ t, exec (.abortTask tag (.fields number)) s = .next t ∧
        nestAborted s t .host number d s.tasks.hookCoil.isSome s.tasks.loose .none ∧
        t.tasks.hookCoil = s.tasks.hookCoil ∧ t.tasks.unplaced = s.tasks.unplaced ∧
        t.port.transmit = s.port.transmit ++ [⟨false, 11, tag, .ok, .unwound nest.length⟩] ∧
        t.travel = s.travel ∧ t.halt = s.halt ∧ t.weigher = s.weigher ∧ t.claim = s.claim ∧ t.peers = s.peers ∧
        t.node = s.node)

/-- R126, R127, R158 to R166, R182: what a sample's LIFT, SET, SNAG and LOAD_LOST do with the tasks. The sample's command
leaves task engine, slots, outbox, bays and their events as `taskLift`, `taskSet`, `taskSnag` and `taskLoadLost` make them
of the state before; and of these: a LIFT settles an OPEN top task when the crane stands at its source, no upper covers the
source and the net lies within the tolerance of the expected weight; a SET commits a CARRYING one when the crane stands at
its destination, a slot or a cradle; elsewhere the nest is aborted with cause PLACE, COVERED or WEIGHT; a SNAG and a
LOAD_LOST abort it always. With no task open a LIFT sets the loose-load flag, a SET and a LOAD_LOST end the hook records
with an unplaced record, and a SNAG does nothing. -/
def Obligations.LiftAndSet : Prop :=
  (∀ (s : State) (b : Byte) (act : HookAct) (net filtered : Int), settled s → s.record.isSome →
    handsOn s b act net filtered →
    let u := match act with
      | .lift => taskLift s net
      | .set => taskSet s net
      | .snag => taskSnag s
      | .loadLost => taskLoadLost s
    ∃ t, exec (.sample b) s = .next t ∧ t.tasks = u.tasks ∧ t.store.slots = u.store.slots ∧
      t.store.outbox = u.store.outbox ∧ t.bays = u.bays ∧
      (∀ n ∈ [1, 2, 9, 13], eventAt t.port n = eventAt u.port n) ∧
      eventAt t.port 3 = (if act = .lift then (eventAt s.port 3).next (.lift net filtered) else eventAt s.port 3) ∧
      eventAt t.port 4 = (if act = .set then (eventAt s.port 4).next (.set net filtered) else eventAt s.port 4) ∧
      (act = .snag → t.halt.reasons.snag = true) ∧ (act = .loadLost → t.halt.reasons.loadLost = true)) ∧
  ∀ (s : State) (net : Int), tablesOk s →
    let x := s.position .bridge
    let y := s.position .trolley
    (s.tasks.nest = [] →
      taskLift s net = { s with tasks := { s.tasks with loose := true } } ∧ taskSnag s = s ∧
      (s.tasks.hookCoil = none → s.tasks.loose = false → taskSet s net = s) ∧
      (∀ k, s.tasks.hookCoil = some k → taskSet s net = { s with tasks := { s.tasks with
        hookCoil := none, unplaced := some ⟨.set, some k.coil, some net, x, y⟩ } }) ∧
      (s.tasks.hookCoil = none → s.tasks.loose = true → taskSet s net = { s with tasks := { s.tasks with
        loose := false, unplaced := some ⟨.set, none, some net, x, y⟩ } }) ∧
      let u := taskLoadLost s
      loadGone s u .loadLost none ∧
        u = { s with tasks := { s.tasks with hookCoil := none, loose := false, unplaced := u.tasks.unplaced } }) ∧
    (∀ t, s.tasks.nest.getLast? = some t →
      let below := s.tasks.nest.dropLast
      let aborted (u : State) (cause : AbortCause) (hook loose : Bool) (extra : AbortDetail) : Prop :=
        nestAborted s u cause t.number s.tasks.nest.length hook loose extra
      let held := s.tasks.hookCoil.isSome
      (t.carrying = true → taskLift s net = s) ∧ (t.carrying = false → taskSet s net = s) ∧
      (let u := taskSnag s
       aborted u .snag held s.tasks.loose .none ∧ u.tasks.hookCoil = s.tasks.hookCoil ∧
         u.tasks.unplaced = s.tasks.unplaced) ∧
      (let u := taskLoadLost s
       aborted u .loadLost false false .none ∧ loadGone s u .loadLost none) ∧
      (t.carrying = false →
        let u := taskLift s net
        let tolerance (e : Int) : Int := max (ceilDiv (e * s.conf.tolPerMille) 1000) s.conf.tolMin
        (craneAt s t.source = false → aborted u .place held true (.place false x y)) ∧
        (craneAt s t.source = true → ∀ n, coveringSlot s t.source = some n → aborted u .covered held true (.covered n)) ∧
        (craneAt s t.source = true → coveringSlot s t.source = none → ∀ e, t.expected = some e →
          tolerance e < magnitude (net - e) → aborted u .weight held true (.weight net e)) ∧
        (craneAt s t.source = true → coveringSlot s t.source = none →
          (∀ e, t.expected = some e → magnitude (net - e) ≤ tolerance e) →
          u.tasks = { s.tasks with
            hookCoil := some ⟨t.coil, net, t.cls⟩
            nest := below ++ [{ t with carrying := true, journal := match t.source, t.journal with
              | .slot _, .slot m p _ :: js => .slot m p true :: js
              | _, js => js }] } ∧
          (∀ n, t.source = .slot n → u.store.outbox = s.store.outbox ++ [⟨n, .free⟩]) ∧
          ((∀ n, t.source ≠ .slot n) → u.store.outbox = s.store.outbox) ∧
          ((∀ m, t.source ≠ .slot m → (slotAt s m).coilIn ≠ some t.coil) →
            (∀ n, t.source = .slot n → slotAt u n = .free) ∧
            (∀ m, t.source ≠ .slot m → slotAt u m = slotAt s m) ∧ eventAt u.port 13 = eventAt s.port 13) ∧
          (∀ m w k, slotAt s m = .occupied t.coil w k → t.source ≠ .slot m → heldSlot s m = false →
            m ∈ rowSlots s.conf (m / 16) →
            (∀ j, j ≠ m → t.source ≠ .slot j → (slotAt s j).coilIn ≠ some t.coil) →
            slotAt u m = .unknown ∧ rowAt u (m / 16) = ⟨false, false⟩ ∧
            eventAt u.port 13 = (eventAt s.port 13).next (.storeSuspect .coilClash (some (m / 16)) 1 none)) ∧
          (∀ b i, cradleAt (u.bay b) i = match cradleAt (s.bay b) i with
            | .loaded (some c) w => .loaded (if c = t.coil then none else some c) w
            | k => k) ∧
          eventAt u.port 2 = eventAt s.port 2)) ∧
      (t.carrying = true →
        let u := taskSet s net
        let weight := (s.tasks.hookCoil.map (·.weight)).getD 0
        (craneAt s t.dest = false →
          aborted u .place false false (.place true x y) ∧
            u.tasks.unplaced = some ⟨.set, some t.coil, some net, x, y⟩) ∧
        (craneAt s t.dest = true →
          u.tasks = { s.tasks with
            nest := below, hookCoil := none, outcomes := (⟨t.number, t.kind, none⟩ :: s.tasks.outcomes).take 3 } ∧
          eventAt u.port 1 = (eventAt s.port 1).next
            (.taskDone t.number t.kind s.tasks.nest.length t.coil t.dest weight) ∧
          (∀ n, t.dest = .slot n → slotAt u n = .occupied t.coil (some weight) t.cls ∧
            (∀ m, m ≠ n → slotAt u m = slotAt s m) ∧ u.bays = s.bays ∧
            u.store.outbox = s.store.outbox ++ [⟨n, .occupied t.coil (some weight) t.cls⟩]) ∧
          (∀ b i, t.dest = .cradle b i → ∀ l, (s.bay b).load = some l →
            let m : BayLoad := ⟨l.trailer, l.remaining - 1, l.cradles.set (i - 1) (.loaded (some t.coil) weight)⟩
            let full := l.remaining - 1 = 0
            let k := committedLoads m
            u.bay b = { s.bay b with
              announcer := some .own, load := some m, state := if full then .closed else (s.bay b).state } ∧
            (∀ c, c ≠ b → u.bay c = s.bay c) ∧ u.store = s.store ∧ u.link = (offer s (.bayNotice b)).link ∧
            eventAt u.port 9 = (if full then (eventAt s.port 9).next (.bayComplete b
              (m.cradles.countP CradleRecord.isLoaded) k.axle k.kingpin k.payload) else eventAt s.port 9)))))

/-! ## The truck bays -/

/-- R174 to R178: Dock Truck, Close Bay and Undock are refused in the order of their tests. Dock Truck sets the bay DOCKED
with the geometry, the planned count and EMPTY cradles; Close Bay sets it CLOSED; Undock makes it EMPTY, and changes
nothing of a bay already EMPTY and sure. Each change makes the announcer OWN and queues the bay's notice. -/
def Obligations.BayRequests : Prop :=
  ∀ (s : State) (tag bay : Nat) (trailer : Trailer), ready s → settled s → s.record.isSome →
    let c := s.conf
    let b := s.bay bay
    let active := s.node = .active
    let fits : Prop := trailerOk trailer = true ∧
      ∀ o ∈ trailer.offsets, reach c ≤ (bayPoint c bay).x + o ∧ (bayPoint c bay).x + o ≤ c.runway - reach c
    let free : Prop := ∀ k ∈ b.cradles, k.isReserved = false
    let changed (kind : Nat) (r : BayRecord) : State :=
      answered (offer ((taken s kind tag).withBay bay { r with announcer := some .own }) (.bayNotice bay)) kind tag .ok .none
    let dock := exec (.dockTruck tag (.fields ⟨bay, trailer⟩)) s
    let close := exec (.closeBay tag (.fields bay)) s
    let undock := exec (.undock tag (.fields bay)) s
    let no (kind : Nat) (st : Status) : Handled := .next (answered (taken s kind tag) kind tag st .none)
    (¬ active → dock = no 17 .state ∧ close = no 18 .state ∧ undock = no 19 .state) ∧
    (active → c.bayCount ≤ bay → dock = no 17 .range ∧ close = no 18 .range ∧ undock = no 19 .range) ∧
    (active → bay < c.bayCount →
      (b.state ≠ .empty ∨ b.unsure = true → dock = no 17 .state) ∧
      (b.state = .empty → b.unsure = false → bayCovered s bay = false → dock = no 17 .zone) ∧
      (b.state = .empty → b.unsure = false → bayCovered s bay = true → ¬ fits → dock = no 17 .range) ∧
      (b.state = .empty → b.unsure = false → bayCovered s bay = true → fits →
        dock = .next (changed 17 { b with
          state := .docked, load := some ⟨trailer, trailer.planned, List.replicate trailer.count .empty⟩ })) ∧
      ((b.state ≠ .docked ∧ b.state ≠ .loading) ∨ b.unsure = true → close = no 18 .state) ∧
      (b.state = .docked ∨ b.state = .loading → b.unsure = false →
        (bayCovered s bay = false → close = no 18 .zone) ∧
        (bayCovered s bay = true → ¬ free → close = no 18 .state) ∧
        (bayCovered s bay = true → free → close = .next (changed 18 { b with state := .closed }))) ∧
      (bayCovered s bay = false → undock = no 19 .zone) ∧
      (bayCovered s bay = true → ¬ free → undock = no 19 .state) ∧
      (bayCovered s bay = true → free →
        (b.state = .empty → b.unsure = false → undock = no 19 .ok) ∧
        (b.state ≠ .empty ∨ b.unsure = true →
          undock = .next (changed 19 { b with state := .empty, load := none, unsure := false }))))

/-- R183 to R185: a Bay Notice from a peer heard without a break. One that does not fit is not applied; one for a held bay
is not applied and queues the bay's own notice; any other replaces the record whole, with the sender as announcer, RESERVED
cradles as FOREIGN's and the unsure flag clear. A named cradle whose coil the own hook or a held slot holds is made
unnamed; with no coil recorded elsewhere nothing further changes. A coil in a slot that is not held has that slot's row
marked with the sender's rank, and one on another trailer makes that trailer's cradle unnamed; the cradle keeps it. That an
EMPTY notice is taken whatever its remaining count is the model's choice (notes/assumptions/46.md). -/
def Obligations.BayNotice : Prop :=
  ∀ (s : State) (r seq : Nat) (f : BayNoticeFrame), quiet s r seq →
    let notice := exec (.bayNotice r seq (.fields f)) s
    let coils := (f.load.map fun l => l.cradles.filterMap noticeCoil).getD []
    let mine (coil : Nat) : Bool := ownHolds s coil
    let elsewhere (coil : Nat) : Bool :=
      (looseSlotWith s coil fun _ => false).isSome || [0, 1, 2, 3].any fun b => b != f.bay && bayHoldsCoil s b coil
    let record (unname : Bool) : BayRecord :=
      { state := f.state, announcer := some (.peer r), unsure := false
        load := f.load.map fun l => ⟨l.trailer, f.remaining, l.cradles.map fun k => match k with
          | .empty => .empty
          | .reserved => .reserved .foreign
          | .loaded coil w => .loaded (if unname && mine coil then none else some coil) w
          | .unnamed w => .loaded none w⟩ }
    exec (.bayNotice r seq .misfit) s = .next (heard s r seq) ∧
    (bayNoticeOk s.conf f = false → notice = .next (heard s r seq)) ∧
    (bayNoticeOk s.conf f = true → heldBay (s.bay f.bay) = true →
      notice = .next (offer (heard s r seq) (.bayNotice f.bay))) ∧
    (bayNoticeOk s.conf f = true → heldBay (s.bay f.bay) = false →
      ((∀ coil ∈ coils, mine coil = true ∨ elsewhere coil = false) →
        notice = .next ((heard s r seq).withBay f.bay (record true))) ∧
      (∀ c ∈ coils, mine c = false → (∀ coil ∈ coils, coil ≠ c → mine coil = true ∨ elsewhere coil = false) →
        (∀ n, (slotAt s n).coilIn = some c → (∀ m, m ≠ n → (slotAt s m).coilIn ≠ some c) → tablesOk s →
          ∃ t, notice = .next t ∧ rowMarked s t (n / 16) .coilClash (some r) ∧
            t.bays = ((heard s r seq).withBay f.bay (record true)).bays ∧ t.peers = (heard s r seq).peers ∧
            t.tasks = s.tasks ∧ t.claim = s.claim ∧ t.travel = s.travel ∧ t.node = s.node) ∧
        ((looseSlotWith s c fun _ => false) = none → elsewhere c = true → configuredOk s →
          ∃ t, notice = .next t ∧ t = { heard s r seq with bays := t.bays } ∧ t.bay f.bay = record true ∧
            ∀ b, b ≠ f.bay → t.bay b = { s.bay b with load := (s.bay b).load.map fun l => { l with
              cradles := l.cradles.map fun k => match k with
                | .loaded (some d) w => .loaded (if d = c then none else some d) w
                | k => k } })))

/-- R179, R180: the loads of a trailer: the axle load is Σ w × (offset − kingpin) over the axle distance, rounded up, the
kingpin load the rest of the payload. With every cradle between kingpin and axle group and no weight negative, no load is
negative, and none falls when a weight is added. -/
def Obligations.TrailerLoads : Prop :=
  ∀ (t : Trailer) (ws : List (Int × Int)) (o w : Int), 0 < t.axle →
    let l := trailerLoads t ws
    let moment := (ws.map fun p => p.2 * (p.1 - t.kingpin)).sum
    moment ≤ l.axle * t.axle ∧ l.axle * t.axle < moment + t.axle ∧
    l.payload = (ws.map (·.2)).sum ∧ l.axle + l.kingpin = l.payload ∧
    ((∀ p ∈ (o, w) :: ws, t.kingpin ≤ p.1 ∧ p.1 ≤ t.kingpin + t.axle ∧ 0 ≤ p.2) →
      let m := trailerLoads t ((o, w) :: ws)
      0 ≤ l.axle ∧ 0 ≤ l.kingpin ∧ l.axle ≤ m.axle ∧ m.axle ≤ l.axle + w ∧ l.kingpin ≤ m.kingpin ∧ m.payload = l.payload + w)

/-! ## Peer presence, releases and peers' claims -/

/-- R47, R48: Prepare Release and Confirm Release are refused with RANGE for a rank that names no peer and with STATE
where their conditions fail. An accepted Prepare arms the record for 10 s with the sequence given; an accepted Confirm
clears the arming, queues the Release with the armed sequence, and sets the release in flight. An arming that expires is
cleared. -/
def Obligations.ReleaseRequests : Prop :=
  ∀ (s : State) (tag rank seq : Nat), settled s →
    let p := s.peer rank
    let prepare := exec (.prepareRelease tag (.fields ⟨rank, seq⟩)) s
    let confirm := exec (.confirmRelease tag (.fields rank)) s
    let no (kind : Nat) (st : Status) : Handled := .next (answered (taken s kind tag) kind tag st .none)
    let isPeer : Prop := rank ≠ 0 ∧ rank ≤ s.conf.craneCount ∧ rank ≠ s.conf.ownRank
    let stale : Prop := s.node = .active ∧ p.presence = .stale ∧ p.releasePending = none
    (ready s → s.record.isSome →
      (¬ isPeer → prepare = no 22 .range ∧ confirm = no 23 .range) ∧
      (isPeer → ¬ (stale ∧ p.lastSeq = some seq) → prepare = no 22 .state) ∧
      (isPeer → stale → p.lastSeq = some seq → prepare = .next (answered
        ((taken s 22 tag).withPeer rank { p with arming := some ⟨seq, s.now + 10000⟩ }) 22 tag .ok .none)) ∧
      (isPeer → ¬ (stale ∧ p.arming.isSome ∧ s.peers.inFlight = none) → confirm = no 23 .state) ∧
      (isPeer → stale → s.peers.inFlight = none → ∀ a, p.arming = some a →
        let u := offer ((taken s 23 tag).withPeer rank { p with arming := none }) (.release ⟨rank, a.seq⟩)
        confirm = .next (answered { u with peers := { u.peers with inFlight := some ⟨rank, false⟩ } } 23 tag .ok .none))) ∧
    (∀ a, p.arming = some a →
      exec (.armingExpiry rank) s = .next ((elapse s a.expiry).withPeer rank { p with arming := none }))

/-- R39, R41, R50, R51, R53, R55, R60, R65, R141, R186: how a silent peer becomes STALE and RELEASED. The region of a record
is its claim widened to the edge of its pending extension; the region handed over is the claim together with the extension,
which is no less than the claim (the model's reading, notes/assumptions/49.md). The silence timer's expiry makes the record
STALE; an own Extend that waits in the queue is tested again with it, and withdrawn where it is void then, and an own Join
that stands stays. A Release from a peer heard without a break is denied where the released rank is LIVE or DOUBTFUL, joins
the release pending where it is STALE, and does nothing where it is ABSENT, RELEASED or no rank; where it names another last
sequence, the peer region is handed over (`regionHanded`, whose first row is notes/assumptions/38.md and 45.md, and its
interval 49.md). That a sender's second Release joins at the end of the list is the model's choice (notes/assumptions/44.md).
A release window that expires hands the peer region over, ends the peer's reservations of cradles, makes the record RELEASED
without claim and extension, and ends the own release in flight that names it RELEASED; its Release, where it is still queued,
leaves the queue (the model's reading, notes/assumptions/33.md). -/
def Obligations.SilenceAndRelease : Prop :=
  (∀ p : PeerRecord, (p.claim = none → peerRegion p = none ∧ handedRegion p = none) ∧
    ∀ k, p.claim = some k → (p.extension = none → peerRegion p = some k ∧ handedRegion p = some k) ∧
      ∀ e, p.extension = some e →
        (e.side = .high → peerRegion p = some ⟨k.low, e.edge⟩ ∧ handedRegion p = some ⟨k.low, max k.high e.edge⟩) ∧
        (e.side = .low → peerRegion p = some ⟨e.edge, k.high⟩ ∧ handedRegion p = some ⟨min k.low e.edge, k.high⟩)) ∧
  (∀ (s : State) (rank : Nat), settled s →
    (s.node = .listening → ∀ e ∈ s.link.queue, ∀ j, e.content = .join j → overlapsTested s s.conf.ownRank j = false) →
    let p := s.peer rank
    ∀ d, p.silence = some d →
      let u := (elapse s d).withPeer rank { p with silence := none, presence := .stale }
      let t := if p.presence = .stale then u else raiseEvent u (.peerChanged rank p.presence .stale)
      let silence := exec (.silenceTimeout rank) s
      ((∀ x, s.claim.pending = some x → x.phase ≠ .queued) → silence = .next t) ∧
      (∀ x, s.claim.pending = some x → x.phase = .queued → ∀ k, s.claim.confirmed = some k →
        (extendStands t k x.side x.edge → silence = .next t) ∧
        (¬ extendStands t k x.side x.edge → silence = .next { t with
          claim := { s.claim with
            pending := none
            retry := if s.claim.wanted.isSome then some (t.now + s.conf.reportInterval) else s.claim.retry }
          link := { t.link with queue := withdrawEntries isClaimFrame t.link.queue } }))) ∧
  (∀ (s : State) (r seq : Nat) (f : ReleaseFrame), quiet s r seq → f.rank ≠ s.conf.ownRank →
    let h := heard s r seq
    let p := h.peer f.rank
    let isRank : Prop := f.rank ≠ 0 ∧ f.rank ≤ s.conf.craneCount
    let pending : ReleasePending := match p.releasePending with
      | none => ⟨[(r, seq)], s.now + 2 * s.conf.reportInterval⟩
      | some q => ⟨q.releases.filter (fun e => e.1 ≠ r) ++ [(r, seq)], q.expiry⟩
    let release := exec (.release r seq f) s
    (¬ isRank ∨ p.presence = .absent ∨ p.presence = .released → release = .next h) ∧
    (isRank → p.presence = .live ∨ p.presence = .doubtful →
      release = .next (offer h (.objection ⟨r, seq, .releaseDenied⟩))) ∧
    (isRank → p.presence = .stale →
      let held := h.withPeer f.rank { p with releasePending := some pending }
      (p.lastSeq = some f.lastSeq → release = .next held) ∧
      (p.lastSeq ≠ some f.lastSeq → ∃ t, release = .next t ∧ t.peers = held.peers ∧ t.claim = s.claim ∧
        (configuredOk s → regionHanded s t (handedRegion p) f.rank false) ∧
        t.travel = s.travel ∧ t.halt = s.halt ∧ t.node = s.node))) ∧
  (∀ (s : State) (rank : Nat), settled s →
    let p := s.peer rank
    ∀ w, p.releasePending = some w → ∃ t, exec (.releaseWindowExpiry rank) s = .next t ∧
      t.peer rank = { p with
        presence := .released, releasePending := none, arming := none, silence := none, claim := none, extension := none } ∧
      (∀ k, k ≠ rank → t.peer k = s.peer k) ∧ (configuredOk s → regionHanded s t (handedRegion p) rank true) ∧
      eventAt t.port 6 = (if p.presence = .released then eventAt s.port 6
        else (eventAt s.port 6).next (.peerChanged rank p.presence .released)) ∧
      (∀ g, s.peers.inFlight = some g → g.rank = rank → t.peers.inFlight = none ∧
        eventAt t.port 15 = (eventAt s.port 15).next (.releaseOutcome rank .released none) ∧
        queued t isRelease = (g.taken && queued s isRelease)) ∧
      ((∀ g, s.peers.inFlight = some g → g.rank ≠ rank) → t.peers.inFlight = s.peers.inFlight ∧
        eventAt t.port 15 = eventAt s.port 15 ∧ queued t isRelease = queued s isRelease) ∧
      t.now = max s.now w.expiry ∧ t.tasks = s.tasks ∧ t.weigher = s.weigher ∧ t.record = s.record)

/-- R42, R43, R60, R62, R65, R141, R186: a peer's Join, in ACTIVE with no own Extend waiting to be re-tested. The record
starts anew, LIVE with the Join's sequence; the claim is recorded unless the interval leaves [0, L] or overlaps another
region, and a void Join draws an Objection naming sequence 0. From DOUBTFUL and STALE the peer region is handed over
(`regionHanded`, whose first row is notes/assumptions/38.md and 45.md, and its interval 49.md); a release pending of a STALE
record is denied; the peer's reservations of cradles end. A Join tests an own Join or Extend that waits in the queue again; an
Extend toward a RELEASED neighbour that joins is left out here (notes/assumptions/48.md). The end of the join window clears it
and leaves the claim. -/
def Obligations.PeerJoins : Prop :=
  (∀ (s : State) (r seq : Nat) (i : Interval), settled s → configuredOk s → claimOk s → queueOk s.link →
    r ≠ 0 → r ≤ s.conf.craneCount → r ≠ s.conf.ownRank →
    ∃ t, exec (.join r seq i) s = .next t ∧ joinRetested s t ∧
      ((s.peer r).presence ≠ .released → extendRetested s t)) ∧
  (∀ (s : State) (r seq : Nat) (i : Interval), settled s → configuredOk s → s.node = .active →
    (∀ x, s.claim.pending = some x → x.phase ≠ .queued) → r ≠ 0 → r ≤ s.conf.craneCount → r ≠ s.conf.ownRank →
    let p := s.peer r
    let valid : Prop := 0 ≤ i.low ∧ i.low ≤ i.high ∧ i.high ≤ s.conf.runway ∧
      (∀ k ∈ peerRanks s, k ≠ r → ∀ j, peerRegion (s.peer k) = some j → overlaps i j = false) ∧
      (∀ j, ownRegion s = some j → overlaps i j = false)
    ∃ t, exec (.join r seq i) s = .next t ∧
      (t.peer r).presence = .live ∧ (t.peer r).lastSeq = some seq ∧ (t.peer r).lastReport = none ∧
      (t.peer r).silence = some (s.now + s.conf.silenceCount * s.conf.reportInterval) ∧ (t.peer r).arming = none ∧
      (t.peer r).releasePending = none ∧ (t.peer r).extension = none ∧
      (valid → (t.peer r).claim = some i ∧
        (t.peer r).joinWindow = some ⟨s.now + 2 * s.conf.reportInterval, true⟩) ∧
      (¬ valid → (t.peer r).claim = none ∧
        (t.peer r).joinWindow = some ⟨s.now + 2 * s.conf.reportInterval, false⟩) ∧
      (∀ k, k ≠ r → t.peer k = s.peer k) ∧
      regionHanded s t (if p.presence = .doubtful ∨ p.presence = .stale then handedRegion p else none) r true ∧
      (p.presence = .stale → ∀ w, p.releasePending = some w → pendingDenied t w) ∧
      eventAt t.port 6 = (if p.presence = .live then eventAt s.port 6
        else (eventAt s.port 6).next (.peerChanged r p.presence .live)) ∧
      (p.presence = .live ∨ p.presence = .absent ∨ p.presence = .released → t.store = s.store ∧
        (valid → t.link.queue = s.link.queue) ∧
        (¬ valid → t.link.queue = (enqueue s.link (.objection ⟨r, 0, .overlap⟩)).queue)) ∧
      t.node = s.node ∧ t.claim = s.claim ∧ t.travel = s.travel ∧ t.halt = s.halt ∧ t.tasks = s.tasks ∧
      t.weigher = s.weigher) ∧
  (∀ (s : State) (r : Nat), settled s → s.node ≠ .listening → (∀ x, s.claim.pending = some x → x.phase ≠ .queued) →
    ∀ w, (s.peer r).joinWindow = some w →
      exec (.peerJoinWindowExpiry r) s =
        .next ((elapse s w.expiry).withPeer r { s.peer r with joinWindow := none }))

/-- R52, R60, R65, R67, R68, R69: a peer's Extend and a peer's Objection, from a peer heard without a break. An Extend is void
where no claim is held for its sender, its edge leaves [0, L] or what it adds overlaps another region; a valid one is
recorded, a void one draws an Objection, whatever its view. A view sequence that shows a gap of the sender's neighbour makes
that record DOUBTFUL and hands its region over (`regionHanded`, whose first row is notes/assumptions/38.md and 45.md, and its
interval 49.md). An Extend tests an own Extend or Join that waits in the queue again. An Objection removes the extension, the
Join or the release pending that it names, the own extension with CLAIM_CHANGED, and otherwise does nothing; one that names
the own Join in its window makes a JOINING node JOIN_BLOCKED without a claim. A release in flight that names the pending's
rank ends DENIED by the objecting rank; that its Release leaves the queue where it waits there still is the model's reading
(notes/assumptions/33.md). -/
def Obligations.ExtendsAndObjections : Prop :=
  (∀ (s : State) (r seq : Nat) (f : ExtendFrame), quiet s r seq →
    let h := heard s r seq
    let base := h.withPeer r { h.peer r with extension := none }
    let added (k : Interval) : Interval := match f.side with
      | .high => ⟨k.high, f.edge⟩
      | .low => ⟨f.edge, k.low⟩
    let clear (i : Interval) : Prop :=
      (∀ k ∈ peerRanks s, k ≠ r → ∀ j, peerRegion (s.peer k) = some j → overlaps i j = false) ∧
      (∀ j, ownRegion s = some j → overlaps i j = false)
    let neighbour := match f.side with
      | .high => r + 1
      | .low => r - 1
    let valid : Prop := ∃ k, (s.peer r).claim = some k ∧ 0 ≤ f.edge ∧ f.edge ≤ s.conf.runway ∧ clear (added k)
    let p := s.peer neighbour
    let gap : Prop := neighbour ≠ s.conf.ownRank ∧ (p.presence = .live ∨ p.presence = .doubtful) ∧
      ∃ view, f.view = some view ∧ ∃ last, p.lastSeq = some last ∧
        1 ≤ ((view : Int) - last) % 65536 ∧ ((view : Int) - last) % 65536 ≤ 32767
    let recorded : PeerExtension := ⟨f.side, f.edge, seq, s.now + 2 * s.conf.reportInterval⟩
    let refusal : Content := .objection ⟨r, seq, .overlap⟩
    (¬ gap → (¬ valid → exec (.extend r seq f) s = .next (offer base refusal)) ∧
      (valid → exec (.extend r seq f) s = .next (h.withPeer r { h.peer r with extension := some recorded }))) ∧
    (gap → ∃ t, exec (.extend r seq f) s = .next t ∧
      t.peer neighbour = { p with presence := .doubtful, lastSeq := f.view } ∧
      (∀ k, k ≠ r → k ≠ neighbour → t.peer k = s.peer k) ∧
      (configuredOk s → regionHanded s t (handedRegion p) neighbour false) ∧
      eventAt t.port 6 = (if p.presence = .doubtful then eventAt s.port 6
        else (eventAt s.port 6).next (.peerChanged neighbour p.presence .doubtful)) ∧
      (¬ valid → t.peer r = { h.peer r with extension := none } ∧ ∃ e ∈ t.link.queue, e.withdrawn = false ∧
        (e.successor.map (·.1)).getD e.content = refusal) ∧
      (valid → t.peer r = { h.peer r with extension := some recorded }) ∧
      t.claim = s.claim ∧ t.travel = s.travel ∧ t.halt = s.halt ∧ t.node = s.node ∧ t.tasks = s.tasks ∧
      t.weigher = s.weigher)) ∧
  (∀ (s : State) (r seq : Nat) (f : ExtendFrame), settled s → configuredOk s → claimOk s → queueOk s.link →
    r ≠ 0 → r ≤ s.conf.craneCount → r ≠ s.conf.ownRank →
    ∃ t, exec (.extend r seq f) s = .next t ∧ joinRetested s t ∧ extendRetested s t) ∧
  (∀ (s : State) (r seq target n : Nat), quiet s r seq →
    let h := heard s r seq
    let objection (reason : ObjectionReason) : Handled := exec (.objection r seq ⟨target, n, reason⟩) s
    let q := h.peer target
    (target = s.conf.ownRank →
      (∀ x, s.claim.pending = some x → ∀ e, x.phase = .window n e →
        let retry := if s.claim.wanted.isSome then some (s.now + s.conf.reportInterval) else s.claim.retry
        objection .overlap = .next (raiseEvent { h with claim := { s.claim with pending := none, retry := retry } }
          (.claimChanged (.objected x.side x.edge r) s.claim.confirmed))) ∧
      ((∀ x, s.claim.pending = some x → ∀ e, x.phase ≠ .window n e) → objection .overlap = .next h)) ∧
    (target ≠ s.conf.ownRank →
      let joined : Prop := n = 0 ∧ ∃ w, q.joinWindow = some w ∧ w.valid = true
      (joined → objection .overlap = .next (h.withPeer target { q with claim := none, joinWindow := none })) ∧
      (¬ joined → (∀ x, q.extension = some x →
        (x.seq = n → s.now < x.expiry → objection .overlap = .next (h.withPeer target { q with extension := none })) ∧
        (x.seq ≠ n ∨ x.expiry < s.now → objection .overlap = .next h))) ∧
      (¬ joined → q.extension = none → objection .overlap = .next h) ∧
      objection .void = .next h) ∧
    ∃ t, objection .releaseDenied = .next t ∧
      (s.peers.inFlight = none → t.peers.inFlight = none ∧ t.link.queue = s.link.queue) ∧
      (∀ k ∈ peerRanks s, t.peer k = { h.peer k with
        releasePending := (h.peer k).releasePending.filter fun p => !p.releases.contains (target, n) }) ∧
      (∀ g, s.peers.inFlight = some g →
        let denied : Prop := g.rank ∈ peerRanks s ∧
          ∃ p, (s.peer g.rank).releasePending = some p ∧ (target, n) ∈ p.releases
        (denied → t.peers.inFlight = none ∧
          eventAt t.port 15 = (eventAt s.port 15).next (.releaseOutcome g.rank .denied (some r)) ∧
          t.link.queue = if g.taken then s.link.queue else withdrawEntries isRelease s.link.queue) ∧
        (¬ denied → t.peers.inFlight = some g ∧ eventAt t.port 15 = eventAt s.port 15 ∧ t.link.queue = s.link.queue)) ∧
      t.claim = s.claim ∧ t.store = s.store ∧ t.travel = s.travel ∧ t.halt = s.halt) ∧
  ∀ (s : State) (r seq : Nat), settled s → s.record.isSome → s.node = .joining → s.claim.joinWindow.isSome →
    r ≠ 0 → r ≤ s.conf.craneCount → r ≠ s.conf.ownRank → (s.peer r).presence ≠ .released →
    ∃ t, exec (.objection r seq ⟨s.conf.ownRank, 0, .overlap⟩) s = .next t ∧ t.node = .joinBlocked ∧ t.claim = .reset ∧
      t.link.reportTimer = none ∧ queued t isReport = false ∧ t.store.query = none ∧
      eventAt t.port 14 = (eventAt s.port 14).next (.nodeState .joinBlocked .joining) ∧ t.travel.hoist = s.travel.hoist ∧
      t.weigher = s.weigher ∧ t.tasks = s.tasks

/-- R40, R44, R60, R65, R71, R72: a peer's Position Report, in ACTIVE with no own Extend waiting to be re-tested. Presence
follows the table of R40; the last report is replaced. A claim is taken unless the sender's Join was voided here; a clear flag
removes claim, extension and join window. A claim outside the region held, or one that overlaps another where none was held,
sets CLAIM_CONFLICT. An extension whose edge the claim includes, or whose window is over, is dropped. A report that shows a
gap hands the peer region over (`regionHanded`, whose first row is notes/assumptions/38.md and 45.md, and its interval 49.md).
One from a STALE sender ends its arming and its release pending, with an Objection RELEASE_DENIED for each Release of another
node; a release in flight that names it ends DENIED, by no rank (notes/assumptions/34.md), or, its Release not taken,
WITHDRAWN at once unless that is in its attempt. A RELEASED sender's report is withheld and draws an Objection VOID. The first
report delivered in ISOLATED makes the node ACTIVE. A report tests an own Extend or Join that waits in the queue again (R60,
R65). -/
def Obligations.PositionReports : Prop :=
  (∀ (s : State) (r seq : Nat) (f : ReportFrame), settled s → configuredOk s → claimOk s → queueOk s.link →
    r ≠ 0 → r ≤ s.conf.craneCount → r ≠ s.conf.ownRank → reportable f.nodeState = true →
    ∃ t, exec (.positionReport r seq f) s = .next t ∧ joinRetested s t ∧ (t.halt = s.halt → extendRetested s t)) ∧
  (∀ (s : State) (r seq : Nat) (f : ReportFrame), settled s → configuredOk s → s.node = .isolated →
    r ≠ 0 → r ≤ s.conf.craneCount → r ≠ s.conf.ownRank → reportable f.nodeState = true →
    ∃ t, exec (.positionReport r seq f) s = .next t ∧ t.node = .active ∧ queued t isReport = true ∧
      t.peers.isolation = some (s.now + s.conf.silenceCount * s.conf.reportInterval) ∧
      eventAt t.port 14 = (eventAt s.port 14).next (.nodeState .active .isolated)) ∧
  ∀ (s : State) (r seq : Nat) (f : ReportFrame), settled s → configuredOk s → s.node = .active →
    (∀ x, s.claim.pending = some x → x.phase ≠ .queued) → r ≠ 0 → r ≤ s.conf.craneCount → r ≠ s.conf.ownRank →
    s.conf.craneCount ≠ 1 → reportable f.nodeState = true →
    let p := s.peer r
    let c := s.conf
    let silence := c.silenceCount * c.reportInterval
    let gap : Prop := ∃ l, p.lastSeq = some l ∧ seq ≠ (l + 1) % 65536
    let stale : Prop := p.presence = .stale
    let counters := { s.link.counters with framesReceived := countUp s.link.counters.framesReceived }
    (p.presence = .released →
      exec (.positionReport r seq f) s = .next (offer
        { s with
          link := { s.link with counters := counters }
          peers := { s.peers with
            table := putPeer s.peers.table r { p with lastSeq := some seq }, isolation := some (s.now + silence) } }
        (.objection ⟨r, seq, .void⟩))) ∧
    (p.presence ≠ .released →
      ∃ t, exec (.positionReport r seq f) s = .next t ∧
        let q := t.peer r
        q.lastSeq = some seq ∧ q.silence = some (s.now + silence) ∧
        q.lastReport = some ⟨f.nodeState, f.position, f.speed, f.hookLoad, f.hookCoil⟩ ∧
        q.presence = (match p.presence with
          | .absent => .live
          | .live => if gap then .doubtful else .live
          | .doubtful => if gap then .doubtful else .live
          | .stale => .doubtful
          | .released => .released) ∧
        eventAt t.port 6 = (if q.presence = p.presence then eventAt s.port 6
          else (eventAt s.port 6).next (.peerChanged r p.presence q.presence)) ∧
        (∀ k, k ≠ r → t.peer k = s.peer k) ∧
        regionHanded s t (if gap then handedRegion p else none) r false ∧
        q.arming = (if stale then none else p.arming) ∧
        q.releasePending = (if stale then none else p.releasePending) ∧
        (stale → ∀ w, p.releasePending = some w → pendingDenied t w) ∧
        (¬ (stale ∧ ∃ g, s.peers.inFlight = some g ∧ g.rank = r) → t.peers.inFlight = s.peers.inFlight ∧
          eventAt t.port 15 = eventAt s.port 15 ∧ queued t isRelease = queued s isRelease) ∧
        (∀ g, s.peers.inFlight = some g → stale → g.rank = r →
          let ends (o : ReleaseOutcome) : Prop := t.peers.inFlight = none ∧
            eventAt t.port 15 = (eventAt s.port 15).next (.releaseOutcome r o none)
          let waits : Prop := ∃ e ∈ s.link.queue, isRelease e.content = true ∧ e.offered = false ∧ e.withdrawn = false
          let offered : Prop := ∃ e ∈ s.link.queue, isRelease e.content = true ∧ e.offered = true
          (g.taken = true → ends .denied) ∧
          (g.taken = false → queued t isRelease = false ∧ (waits ∨ ¬ offered → ends .withdrawn) ∧
            (¬ waits → offered → t.peers.inFlight = some g ∧ eventAt t.port 15 = eventAt s.port 15))) ∧
        let voided : Prop := ∃ w, p.joinWindow = some w ∧ w.valid = false
        (voided → q.claim = p.claim ∧ q.extension = p.extension ∧ q.joinWindow = p.joinWindow) ∧
        (¬ voided → f.claim = none → q.claim = none ∧ q.extension = none ∧ q.joinWindow = none) ∧
        (¬ voided → ∀ i, f.claim = some i →
          let conflict : Prop := (∃ j, peerRegion p = some j ∧ ¬ (j.low ≤ i.low ∧ i.high ≤ j.high)) ∨
            (peerRegion p = none ∧
              ((∃ k ∈ peerRanks s, k ≠ r ∧ ∃ j, peerRegion (s.peer k) = some j ∧ overlaps i j = true) ∨
                ∃ j, ownRegion s = some j ∧ overlaps i j = true))
          q.claim = some i ∧ q.joinWindow = p.joinWindow ∧
          (t.halt.reasons.claimConflict = true ↔ (conflict ∨ s.halt.reasons.claimConflict = true)) ∧
          (p.extension = none → q.extension = none) ∧
          (∀ e, p.extension = some e → p.claim.isSome →
            let includes : Prop := i.low ≤ e.edge ∧ e.edge ≤ i.high
            (includes ∨ e.expiry < s.now → q.extension = none) ∧
            (¬ includes → s.now < e.expiry → q.extension = some e))) ∧
        t.node = s.node ∧ t.tasks = s.tasks ∧ t.weigher = s.weigher ∧ t.now = s.now)

/-- R75: a Make Way that is delivered and names the own rank raises MAKE_WAY with the asking rank and the wanted edge, in
every node state in which frames are delivered; its effect is otherwise that of one naming another rank. It moves no axis
and changes no claim; a later one overwrites the detail and counts. Any Make Way delivered in ISOLATED, as the first frame
from a peer, makes the node ACTIVE again (R46). -/
def Obligations.MakeWay : Prop :=
  ∀ (s : State) (r seq : Nat) (f g : MakeWayFrame), settled s → s.record.isSome → lineOk s →
    r ≠ 0 → r ≤ s.conf.craneCount → r ≠ s.conf.ownRank → (s.peer r).presence ≠ .released →
    f.target = s.conf.ownRank → g.target ≠ s.conf.ownRank →
    ∃ u, exec (.makeWay r seq g) s = .next u ∧
      exec (.makeWay r seq f) s = .next (raiseEvent u (.makeWay r f.edge)) ∧
      eventAt u.port 8 = eventAt s.port 8 ∧
      (let t := raiseEvent u (.makeWay r f.edge)
       (eventAt t.port 8).pending = true ∧ (eventAt t.port 8).detail = some (.makeWay r f.edge) ∧
       ((eventAt s.port 8).pending = false → (eventAt t.port 8).count = 1) ∧
       ((eventAt s.port 8).pending = true → (eventAt s.port 8).count < 255 →
          (eventAt t.port 8).count = (eventAt s.port 8).count + 1) ∧
       (s.node ≠ .listening → t.travel = s.travel ∧ t.claim.confirmed = s.claim.confirmed)) ∧
      (s.node = .isolated → s.conf.craneCount ≠ 1 → u.node = .active ∧ queued u isReport = true ∧
        u.peers.isolation = some (s.now + s.conf.silenceCount * s.conf.reportInterval) ∧
        eventAt u.port 14 = (eventAt s.port 14).next (.nodeState .active .isolated))

/-! ## The own claim -/

/-- R56: S₀ and S_c are the sums of the manual rounded up; q × (q + 1) is even; for a speed of at most 3,000 the quotient
is at most 3,000, the product q × v, the halved sum and their difference are at most 9,000,000, and S₀ at most
S₀(3,000, 1) = 44,985. (The product q × (q + 1) itself reaches 9,003,000: notes/assumptions/29.md.) -/
def Obligations.StoppingDistances : Prop :=
  ∀ v step creep : Int, 0 ≤ v → 1 ≤ step →
    let sum (q : Int) : Int := q * v - step * (q * (q + 1) / 2)
    let q := v / step
    let r := (v - creep) / step
    2 * (q * (q + 1) / 2) = q * (q + 1) ∧ 2 * (r * (r + 1) / 2) = r * (r + 1) ∧
    (q = 0 → stopDistance v step = 0) ∧
    (q ≠ 0 → sum q ≤ 100 * stopDistance v step ∧ 100 * stopDistance v step < sum q + 100) ∧
    (v ≤ creep → creepDistance creep v step = 0) ∧
    (creep < v → sum r ≤ 100 * creepDistance creep v step ∧ 100 * creepDistance creep v step < sum r + 100) ∧
    (v ≤ 3000 → q ≤ 3000 ∧ q * v ≤ 9000000 ∧ step * (q * (q + 1) / 2) ≤ 9000000 ∧ 0 ≤ sum q ∧ sum q ≤ 9000000 ∧
      stopDistance v step ≤ stopDistance 3000 1 ∧ stopDistance 3000 1 = 44985)

/-- R14, R22, R60, R61, R66, R70: the frames and windows of the own claim. The end of the listen window makes a single crane
ACTIVE with the whole runway; with more, it queues the Join with sequence 0, or blocks it, or starts again without a
position. The taken Join makes the node JOINING with its claim, or JOIN_BLOCKED where it is void; the taken Extend enters
its window, or is removed VOID; and the windows' ends make the node ACTIVE and the extension confirmed. -/
def Obligations.OwnClaimWindows : Prop :=
  ∀ s : State, settled s → s.record.isSome → lineOk s → axesOk s → claimOk s →
    let c := s.conf
    let own := c.ownRank
    (s.node = .listening → ∀ d, s.listen = some d →
      let now := max s.now d
      (c.craneCount = 1 → ∃ t, exec .listenWindowEnd s = .next t ∧ t.node = .active ∧ t.listen = none ∧
        t.claim = { s.claim with confirmed := some ⟨0, c.runway⟩ } ∧ t.peers.isolation = none ∧
        (s.link.reportTimer = none → t.link.reportTimer = some (now + c.reportInterval)) ∧
        eventAt t.port 14 = (eventAt s.port 14).next (.nodeState .active .listening) ∧ t.link.seq = s.link.seq ∧
        queued t isReport = true ∧ t.tasks = s.tasks ∧ t.weigher = s.weigher) ∧
      (c.craneCount ≠ 1 → s.position .bridge = none →
        exec .listenWindowEnd s = .next { elapse s d with listen := some (now + c.silenceCount * c.reportInterval) }) ∧
      (c.craneCount ≠ 1 → ∀ x, s.position .bridge = some x →
        let i : Interval := ⟨clamp 0 c.runway (x - c.halfLength - c.margin), clamp 0 c.runway (x + c.halfLength + c.margin)⟩
        (overlapsTested s own i = false → exec .listenWindowEnd s =
          .next { elapse s d with listen := none, link := { enqueue s.link (.join i) with seq := 0 } }) ∧
        (overlapsTested s own i = true → ∃ t, exec .listenWindowEnd s = .next t ∧ t.node = .joinBlocked ∧
          t.claim = .reset ∧ t.listen = none ∧ t.link.reportTimer = none ∧
          eventAt t.port 14 = (eventAt s.port 14).next (.nodeState .joinBlocked .listening)))) ∧
    (∀ a, s.link.attempt = some a →
      let withdrawn := s.link.queue.any fun e => e.offered && e.withdrawn
      (s.node = .listening → ∀ i, a.frame = .join i → ∃ t, exec .taken s = .next t ∧
        (withdrawn = false → overlapsTested s own i = false → t.node = .joining ∧
          t.claim = { s.claim with confirmed := some i, joinWindow := some (s.now + 2 * c.reportInterval) } ∧
          t.link.reportTimer = some (s.now + c.reportInterval) ∧ queued t isReport = true ∧
          eventAt t.port 14 = (eventAt s.port 14).next (.nodeState .joining .listening)) ∧
        (withdrawn = true ∨ overlapsTested s own i = true → t.node = .joinBlocked ∧ t.claim = .reset ∧
          t.link.reportTimer = none ∧ eventAt t.port 14 =
            ((eventAt s.port 14).next (.nodeState .joining .listening)).next (.nodeState .joinBlocked .joining)) ∧
        t.link.seq = (s.link.seq + 1) % 65536) ∧
      (∀ f, a.frame = .extend f → ∃ t, exec .taken s = .next t ∧ t.link.seq = (s.link.seq + 1) % 65536 ∧
        t.node = s.node ∧ t.travel = s.travel ∧ t.claim.confirmed = s.claim.confirmed ∧ t.peers = s.peers ∧
        (withdrawn = true ∨ s.claim.pending = none → t.claim = s.claim ∧ t.port = s.port) ∧
        (withdrawn = false → ∀ p, s.claim.pending = some p → ∀ k, s.claim.confirmed = some k →
          (overlapsTested s own (addedInterval k f.side f.edge) = false → t.port = s.port ∧
            t.claim = { s.claim with pending := some { p with phase := .window a.seq (s.now + 2 * c.reportInterval) } }) ∧
          (overlapsTested s own (addedInterval k f.side f.edge) = true →
            t.claim = { s.claim with
              pending := none
              retry := if s.claim.wanted.isSome then some (s.now + c.reportInterval) else s.claim.retry } ∧
            eventAt t.port 7 = (eventAt s.port 7).next (.claimChanged (.void p.side p.edge) (some k)))))) ∧
    (∀ d, s.claim.joinWindow = some d → s.node = .joining → ∃ t, exec .joinWindowExpiry s = .next t ∧
      t.node = .active ∧ t.claim = { s.claim with joinWindow := none } ∧ queued t isReport = true ∧
      t.peers.isolation = (if c.craneCount = 1 then none else some (max s.now d + c.silenceCount * c.reportInterval)) ∧
      eventAt t.port 14 = (eventAt s.port 14).next (.nodeState .active .joining) ∧ t.travel = s.travel ∧
      t.halt = s.halt ∧ t.peers.table = s.peers.table ∧ t.tasks = s.tasks ∧ t.weigher = s.weigher) ∧
    (s.node = .active → ∀ p, s.claim.pending = some p → ∀ n d, p.phase = .window n d → ∀ k, s.claim.confirmed = some k →
      ∃ t, exec .extensionWindowExpiry s = .next t ∧
        let now := max s.now d
        let wider : Interval := match p.side with
          | .high => ⟨k.low, p.edge⟩
          | .low => ⟨p.edge, k.high⟩
        t.claim.confirmed = some wider ∧ t.claim.pending = none ∧ t.claim.shrink = s.claim.shrink ∧
        (s.claim.wanted = none → t.claim.wanted = none ∧ t.claim.retry = s.claim.retry) ∧
        (∀ w, s.claim.wanted = some w →
          let reached : Prop := (w.side = .high ∧ w.edge ≤ wider.high) ∨ (w.side = .low ∧ wider.low ≤ w.edge)
          (reached → t.claim.wanted = none ∧ t.claim.retry = none) ∧
          (¬ reached → t.claim.wanted = some w ∧ t.claim.retry = some (now + c.reportInterval))) ∧
        eventAt t.port 7 = (eventAt s.port 7).next (.claimChanged (.confirmed p.side p.edge) (some wider)) ∧
        queued t isReport = true ∧ t.now = now ∧ t.travel = s.travel ∧ t.halt = s.halt ∧ t.node = s.node ∧
        t.peers = s.peers ∧ t.store.slots = s.store.slots ∧ t.tasks = s.tasks ∧ t.weigher = s.weigher)

/-- R64, R73, R74: the retry timer and the shrink timer. An extension attempt needs a neighbour that allows it
(`neighbourFit`); it asks for the lesser of wanted edge and gap edge, which is the runway end or the facing end of a region
beyond the claim, and with no room only the timer starts again. Where the gap edge falls short, the nearest peer whose region
gives it, where it is LIVE, is asked to make way. A shrink is made only with no bridge move in hand: the claim becomes the
envelope with the rest margins and every reserved row and bay, within what it was. It ends a pending extension, with outcome
ABANDONED from its window; that one still QUEUED raises nothing is the model's reading (notes/assumptions/15.md). -/
def Obligations.ClaimTimers : Prop :=
  (∀ s : State, settled s → ∀ d, s.claim.retry = some d →
    let now := max s.now d
    let idle : State := { elapse s d with claim := { s.claim with retry := none } }
    let again : State := { elapse s d with claim := { s.claim with retry := some (now + s.conf.reportInterval) } }
    let expiry := exec .retryTimerExpiry s
    (s.node ≠ .active ∨ s.claim.wanted = none ∨ s.claim.pending.isSome ∨ s.claim.confirmed = none →
      expiry = .next idle) ∧
    (s.node = .active → s.claim.pending = none → ∀ w, s.claim.wanted = some w → ∀ k, s.claim.confirmed = some k →
      let gap := gapEdge s k w.side
      let edge := match w.side with
        | .high => min w.edge gap
        | .low => max w.edge gap
      let room : Prop := (w.side = .high ∧ k.high < edge) ∨ (w.side = .low ∧ edge < k.low)
      let view := match w.side with
        | .high => if s.conf.ownRank < s.conf.craneCount then (s.peer (s.conf.ownRank + 1)).lastSeq else none
        | .low => if 1 < s.conf.ownRank then (s.peer (s.conf.ownRank - 1)).lastSeq else none
      (w.side = .high → gap ≤ s.conf.runway ∧
        (∀ r ∈ peerRanks s, ∀ i, peerRegion (s.peer r) = some i → k.high < i.high → gap ≤ i.low) ∧
        (gap = s.conf.runway ∨
          ∃ r ∈ peerRanks s, ∃ i, peerRegion (s.peer r) = some i ∧ k.high < i.high ∧ gap = i.low)) ∧
      (w.side = .low → 0 ≤ gap ∧
        (∀ r ∈ peerRanks s, ∀ i, peerRegion (s.peer r) = some i → i.low < k.low → i.high ≤ gap) ∧
        (gap = 0 ∨ ∃ r ∈ peerRanks s, ∃ i, peerRegion (s.peer r) = some i ∧ i.low < k.low ∧ gap = i.high)) ∧
      (¬ neighbourFit s w.side → expiry = .next again) ∧
      (neighbourFit s w.side → ∃ t, expiry = .next t ∧
        (room → t.claim = { s.claim with pending := some ⟨w.side, edge, .queued⟩, retry := none } ∧
          (edge = w.edge → t.link = enqueue s.link (.extend ⟨w.side, edge, view⟩))) ∧
        (¬ room → t.claim = { s.claim with retry := some (now + s.conf.reportInterval) } ∧
          (edge = w.edge → t = again)) ∧
        (edge ≠ w.edge →
          let asked := if room then enqueue s.link (.extend ⟨w.side, edge, view⟩) else s.link
          (∀ r, limits s k w.side gap r →
            t.link = if (s.peer r).presence = .live then enqueue asked (.makeWay ⟨r, w.edge⟩) else asked) ∧
          ((∀ r ∈ peerRanks s, ¬ facesAt s k w.side r gap) → t.link = asked)) ∧
        t.travel = s.travel ∧ t.peers = s.peers ∧ t.port = s.port ∧ t.store = s.store ∧ t.now = now))) ∧
  (∀ s : State, settled s → ∀ d, s.claim.shrink = some d →
    let expiry := exec .shrinkTimerExpiry s
    (s.travel.bridge.move.isSome →
      expiry = .next { elapse s d with claim := { s.claim with shrink := none } }) ∧
    (s.node = .active ∨ s.node = .isolated → s.travel.bridge.move = none →
      ∀ k, s.claim.confirmed = some k → ∀ x, s.position .bridge = some x →
      let c := s.conf
      let v := s.travel.bridge.setpoint
      let stop := stopDistance (magnitude v) (stepInForce s .bridge)
      let low := x - c.halfLength - c.margin - (if v < 0 then stop else 0)
      let high := x + c.halfLength + c.margin + (if 0 < v then stop else 0)
      let envelope : Interval := ⟨clamp 0 c.runway low, clamp 0 c.runway high⟩
      ∃ t, expiry = .next t ∧ t.claim.pending = none ∧ t.claim.shrink = none ∧ t.claim.wanted = s.claim.wanted ∧
        ∃ i, t.claim.confirmed = some i ∧
          (k.low ≤ k.high → k.low ≤ i.low ∧ i.high ≤ k.high) ∧
          (0 ≤ k.low → k.low ≤ k.high → k.high ≤ c.runway → 0 ≤ c.restMargin →
            (inside envelope k → inside envelope i) ∧ ∀ j ∈ reservedCoverage s, inside j k → inside j i) ∧
          (reservedCoverage s = [] →
            i.low = clamp k.low k.high (clamp 0 c.runway (envelope.low - c.restMargin)) ∧
            i.high = clamp k.low k.high (clamp 0 c.runway (envelope.high + c.restMargin))) ∧
          (let ended := match s.claim.pending with
            | some ⟨side, edge, .window _ _⟩ => (eventAt s.port 7).next (.claimChanged (.abandoned side edge) (some k))
            | _ => eventAt s.port 7
           eventAt t.port 7 = if i = k then ended else ended.next (.claimChanged .shrunk (some i))) ∧
          (i ≠ k → queued t isReport = true) ∧
          t.travel = s.travel ∧ t.halt = s.halt ∧ t.peers = s.peers ∧ t.node = s.node ∧ t.tasks = s.tasks))

/-- R45, R46, R76 to R78: the node leaves ACTIVE and JOIN_BLOCKED. Isolation clears the wanted edge and any extension, orders
the moves stopped and shrinks; an Objection VOID or a Release that names the own rank voids the node: its nest is aborted,
its claim removed, both axes stopped and VOID set. Rejoin is refused with STATE unless the node is JOIN_BLOCKED, or VOIDED
with both axes standing; accepted, it clears VOID and the claim record, empties the queue and enters LISTENING. What then
becomes of a release in flight is the model's reading (notes/assumptions/19.md). -/
def Obligations.IsolationVoidAndRejoin : Prop :=
  (∀ s : State, settled s → s.record.isSome → lineOk s → axesOk s → ∀ d, s.peers.isolation = some d →
    (s.node ≠ .active →
      exec .isolationTimeout s = .next { elapse s d with peers := { s.peers with isolation := none } }) ∧
    (s.node = .active → ∃ t, exec .isolationTimeout s = .next t ∧ t.node = .isolated ∧ t.peers.isolation = none ∧
      t.claim.wanted = none ∧ t.claim.retry = none ∧ t.claim.pending = none ∧
      t.claim.confirmed.isSome = s.claim.confirmed.isSome ∧
      (∀ r, (t.peer r).arming = none ∧ (t.peer r).presence = (s.peer r).presence ∧
        (t.peer r).claim = (s.peer r).claim) ∧
      (∀ a, ((s.axis a).state = .moving → ∀ m, (s.axis a).move = some m →
          t.axis a = { s.axis a with move := some { m with stopOrder := m.stopOrder.or (some .isolated) } }) ∧
        ((s.axis a).state = .settling ∨ (s.axis a).state = .waiting → (t.axis a).state = .holding ∧
          (t.axis a).last.map (·.outcome) = some .isolated) ∧
        ((s.axis a).state = .releasing → (t.axis a).state = .parked ∧
          (t.axis a).last.map (·.outcome) = some .isolated) ∧
        ((s.axis a).move = none → t.axis a = s.axis a)) ∧
      eventAt t.port 14 = (eventAt s.port 14).next (.nodeState .isolated .active) ∧ queued t isReport = true ∧
      t.halt = s.halt ∧ t.tasks = s.tasks ∧ t.weigher = s.weigher ∧ t.now = max s.now d)) ∧
  (∀ (s : State) (r seq n : Nat) (byRelease : Bool), quiet s r seq → lineOk s → axesOk s →
    let c := if byRelease then Instr.release r seq ⟨s.conf.ownRank, n⟩ else .objection r seq ⟨s.conf.ownRank, n, .void⟩
    ∃ t, exec c s = .next t ∧ t.node = .voided ∧ t.claim = .reset ∧ t.halt.reasons.void = true ∧ t.tasks.nest = [] ∧
      (∀ a, axisStopped s t a .voided) ∧ t.halt.drives = true ∧ t.halt.asserted = true ∧ t.store.query = none ∧
      (eventAt t.port 7).detail = some (.claimChanged .removed none) ∧
      eventAt t.port 14 = (eventAt s.port 14).next (.nodeState .voided .active) ∧ queued t isReport = true ∧
      t.link.reportTimer = s.link.reportTimer ∧ t.peers.isolation = none ∧ t.weigher = s.weigher) ∧
  (∀ (s : State) (tag : Nat), ready s → settled s → s.record.isSome → lineOk s → axesOk s →
    let standing (a : Axis) : Prop := (s.axis a).state = .holding ∨ (s.axis a).state = .parked
    let may : Prop := s.node = .joinBlocked ∨ (s.node = .voided ∧ standing .bridge ∧ standing .trolley)
    (¬ may → exec (.rejoin tag (.fields ())) s = .next (answered (taken s 24 tag) 24 tag .state .none)) ∧
    (may → queueOk s.link → ∃ t, exec (.rejoin tag (.fields ())) s = .next t ∧ t.node = .listening ∧
      t.listen = some (s.now + s.conf.silenceCount * s.conf.reportInterval) ∧ t.claim = .reset ∧
      t.halt.reasons = { s.halt.reasons with void := false } ∧ t.halt.drives = false ∧
      t.halt.asserted = s.inputs.haltLine ∧
      (∀ e ∈ t.link.queue, e.offered = true ∧ e.withdrawn = true) ∧ t.link.reportTimer = none ∧
      t.link.attempt = s.link.attempt ∧ t.peers.table = s.peers.table ∧
      (∀ g, s.peers.inFlight = some g →
        (g.taken = true → t.peers.inFlight = some g ∧ eventAt t.port 15 = eventAt s.port 15) ∧
        (g.taken = false → t.peers.inFlight = none ∧
          eventAt t.port 15 = (eventAt s.port 15).next (.releaseOutcome g.rank .withdrawn none))) ∧
      eventAt t.port 14 = (eventAt s.port 14).next (.nodeState .listening s.node) ∧
      t.port.transmit = s.port.transmit ++ [⟨false, 24, tag, .ok, .none⟩] ∧ t.travel = s.travel ∧
      t.store.slots = s.store.slots ∧ t.tasks = s.tasks ∧ t.bays = s.bays))

/-! ## The Runway Link -/

/-- R16 to R18, R22, R23, R26, R27, R30, R31, R33, R36, R49, R50, R144: an attempt offers the head of the queue with its
content as it stands and the sequence due; a lost attempt leaves the entry its place; a taken one advances the sequence,
removes or renews the entry, whatever its kind, drops the outbox entries carried, starts the window of the own Release and the
expiry of the own query, and an own Objection that is taken has the effect of a peer's (R52, R69); a lost one ends a release
in flight whose Release was withdrawn. Where another Release was queued since, the release in flight is that one's (the
model's reading, notes/assumptions/33.md). The report timer's expiry queues a Position Report and starts again. -/
def Obligations.LinkAttempts : Prop :=
  ∀ s : State, settled s → queueOk s.link →
    let l := s.link
    (l.attempt.isSome ∨ l.queue = [] → exec .attempt s = .next s) ∧
    (l.attempt = none → exec .contentionLoss s = .next s ∧ exec .taken s = .next s ∧
      ∀ e ∈ l.queue.head?,
        let may : Prop := s.node ≠ .unconfigured ∧ (s.node = .listening → isJoin e.content = true)
        let frame : LinkFrame := match e.content with
          | .report => .report
              { nodeState := s.node, position := s.inputs.bridge.position, speed := s.travel.bridge.setpoint
                claim := s.claim.confirmed, hookLoad := s.weigher.load, hookCoil := s.tasks.hookCoil.map (·.coil) }
          | .storeNotice => .storeNotice ⟨none, (s.store.outbox.take 6).map fun o => noticeEntry o.slot o.state⟩
          | .bayNotice b => .bayNotice (bayNoticeOf s b)
          | .join f => .join f
          | .extend f => .extend f
          | .objection f => .objection f
          | .release f => .release f
          | .makeWay f => .makeWay f
          | .slotQuery f => .slotQuery f
          | .answer _ tag es => .storeNotice ⟨some tag, es⟩
        let carried := if e.content = .storeNotice then min 6 s.store.outbox.length else 0
        (¬ may → exec .attempt s = .next s) ∧
        (may → exec .attempt s = .next { s with link := { l with
          queue := { e with offered := true } :: l.queue.tail, attempt := some ⟨frame, l.seq, carried⟩ } })) ∧
    (∀ a, l.attempt = some a →
      let losses := if l.counters.contentionLosses < 65535 then l.counters.contentionLosses + 1 else 0
      (l.counters.contentionLosses ≤ 65535 → ∃ t, exec .contentionLoss s = .next t ∧
        t.link = { l with
          attempt := none, counters := { l.counters with contentionLosses := losses }
          queue := l.queue.filterMap fun e =>
            if e.offered = false then some e
            else if e.withdrawn then none
            else some ⟨match e.successor with
              | some c => c.1
              | none => e.content, e.age, false, false, false, none⟩ } ∧
        t.store = s.store ∧ t.claim = s.claim ∧ t.node = s.node ∧ t.peers.table = s.peers.table ∧
        (let gone : Prop := (∃ e ∈ l.queue, e.offered = true ∧ e.withdrawn = true ∧ isRelease e.content = true) ∧
          queued s isRelease = false
        ∀ g, s.peers.inFlight = some g →
          (gone ∧ g.taken = false → t.peers.inFlight = none ∧
            eventAt t.port 15 = (eventAt s.port 15).next (.releaseOutcome g.rank .withdrawn none)) ∧
          (¬ (gone ∧ g.taken = false) → t.peers.inFlight = some g ∧ eventAt t.port 15 = eventAt s.port 15))) ∧
      (∃ t, exec .taken s = .next t ∧ t.link.attempt = none ∧ t.link.seq = (l.seq + 1) % 65536 ∧
        t.link.counters = { l.counters with framesTaken :=
          if l.counters.framesTaken < 65535 then l.counters.framesTaken + 1 else l.counters.framesTaken } ∧
        t.store.outbox = s.store.outbox.drop a.carried ∧
        let plain : Bool := match a.frame with
          | .report _ | .storeNotice _ | .bayNotice _ | .makeWay _ | .slotQuery _ => true
          | .join _ | .extend _ | .objection _ | .release _ => false
        let waiting := l.queue.filter fun e => !e.offered
        let stays (e : Entry) : List Entry :=
          if e.withdrawn then [] else match e.content, e.successor with
            | .storeNotice, _ => if t.store.outbox = [] then [] else [⟨.storeNotice, l.stamp, false, false, false, none⟩]
            | c, none => if e.renewed then [⟨c, l.stamp, false, false, false, none⟩] else []
            | _, some c => [⟨c.1, c.2, false, false, false, none⟩]
        let left (p : Content → Bool) : Prop :=
          let now := t.link.queue.filter fun e => p e.content
          (waiting.filter fun e => p e.content).Sublist now ∧ ordered now = true ∧
            now.Perm ((waiting ++ (l.queue.filter (·.offered)).flatMap stays).filter fun e => p e.content)
        let retests : Prop := s.node = .listening ∨ ∃ x, s.claim.pending = some x ∧ x.phase = .queued
        (∀ e ∈ t.link.queue, e.offered = false) ∧
        (plain → t.claim = s.claim ∧ t.peers = s.peers ∧ t.node = s.node ∧ t.travel = s.travel ∧ t.port = s.port ∧
          left fun _ => true) ∧
        (∀ i, a.frame = .join i → left fun c => match c with
          | .report | .storeNotice | .slotQuery _ => false
          | _ => true) ∧
        (∀ f, a.frame = .extend f → left fun _ => true) ∧
        (∀ f, a.frame = .objection f → f.target ≠ s.conf.ownRank →
          let q := s.peer f.target
          let joined : Prop := f.targetSeq = 0 ∧ ∃ w, q.joinWindow = some w ∧ w.valid = true
          (f.reason = .void → left (fun _ => true) ∧ t.peers = s.peers ∧ t.claim = s.claim ∧ t.port = s.port) ∧
          (f.reason = .overlap → ¬ retests → left (fun _ => true) ∧ t.claim = s.claim ∧ t.port = s.port ∧
            (∀ k, k ≠ f.target → t.peer k = s.peer k) ∧
            (joined → t.peer f.target = { q with claim := none, joinWindow := none }) ∧
            (¬ joined → q.extension = none → t.peer f.target = q) ∧
            (¬ joined → ∀ x, q.extension = some x →
              (x.seq = f.targetSeq → s.now < x.expiry → t.peer f.target = { q with extension := none }) ∧
              (x.seq ≠ f.targetSeq ∨ x.expiry < s.now → t.peer f.target = q))) ∧
          (f.reason = .releaseDenied → left (fun c => !isRelease c) ∧ t.claim = s.claim ∧
            (∀ k ∈ peerRanks s, t.peer k = { s.peer k with
              releasePending := (s.peer k).releasePending.filter fun p => !p.releases.contains (f.target, f.targetSeq) }) ∧
            (s.peers.inFlight = none → t.peers.inFlight = none ∧ left fun _ => true) ∧
            ∀ g, s.peers.inFlight = some g →
              let denied : Prop := g.rank ∈ peerRanks s ∧
                ∃ p, (s.peer g.rank).releasePending = some p ∧ (f.target, f.targetSeq) ∈ p.releases
              (denied → t.peers.inFlight = none ∧ eventAt t.port 15 =
                (eventAt s.port 15).next (.releaseOutcome g.rank .denied (some s.conf.ownRank))) ∧
              (¬ denied → t.peers.inFlight = some g ∧ t.port = s.port ∧ left fun _ => true))) ∧
        (∀ f, a.frame = .slotQuery f → t.store.query = s.store.query.map fun q =>
          if q.row = f.row ∧ q.tag = f.tag then { q with expiry := some (s.now + 4 * s.conf.reportInterval) } else q) ∧
        (∀ f, a.frame = .release f →
          let p := s.peer f.rank
          left (fun c => match c with
            | .slotQuery _ => false
            | _ => true) ∧
          (p.presence ≠ .stale ∨ p.lastSeq = some f.lastSeq → left fun _ => true) ∧
          (p.presence = .stale → t.peers.inFlight = s.peers.inFlight.map (fun g =>
              { g with taken := g.taken || !queued t isRelease }) ∧
            t.peer f.rank = { p with releasePending := some (match p.releasePending with
              | none => ⟨[(s.conf.ownRank, a.seq)], s.now + 2 * s.conf.reportInterval⟩
              | some q => ⟨q.releases.filter (fun e => e.1 ≠ s.conf.ownRank) ++ [(s.conf.ownRank, a.seq)], q.expiry⟩) }) ∧
          (p.presence ≠ .stale → t.peers.table = s.peers.table ∧
            (queued t isRelease = true → t.peers.inFlight = s.peers.inFlight ∧ eventAt t.port 15 = eventAt s.port 15) ∧
            (queued t isRelease = false → t.peers.inFlight = none ∧ ∀ g, s.peers.inFlight = some g →
              eventAt t.port 15 = (eventAt s.port 15).next (.releaseOutcome g.rank .denied none)))))) ∧
    (∀ d, l.reportTimer = some d →
      let u : State := { elapse s d with link := { l with reportTimer := some (max s.now d + s.conf.reportInterval) } }
      let quietState : Prop := s.node = .unconfigured ∨ s.node = .listening ∨ s.node = .joinBlocked
      (quietState → exec .reportTimerExpiry s = .next u) ∧
      (¬ quietState → exec .reportTimerExpiry s = .next { u with link := enqueue u.link .report }))

/-- R11, R19, R20, R36: a frame that fails its check, comes from rank 0, from above N or from the own rank, shows a node
state without reports or a notice of no or more than six entries is counted as a check error and is nothing else; in
UNCONFIGURED any other frame is counted as received and is nothing else. That UNCONFIGURED, which knows neither N nor the own
rank, finds no sender rank but 0 malformed is the model's reading (notes/assumptions/10.md). -/
def Obligations.FramesDiscarded : Prop :=
  ∀ (s : State) (c : Instr) (r : Nat) (cause : DiscardCause),
    let k := s.link.counters
    let up (n : Nat) : Nat := if n < 65535 then n + 1 else n
    let discarded : Handled := .next
      { s with link := { s.link with counters := { k with checkErrors := up k.checkErrors } } }
    let counted : Handled := .next
      { s with link := { s.link with counters := { k with framesReceived := up k.framesReceived } } }
    let malformed : Prop := r = 0 ∨ (s.record.isSome ∧ (s.conf.craneCount < r ∨ r = s.conf.ownRank))
    exec (.checkError cause) s = discarded ∧
    (frameSender c = some r → malformed → exec c s = discarded) ∧
    (∀ (seq : Nat) (f : ReportFrame),
      f.nodeState = .unconfigured ∨ f.nodeState = .listening ∨ f.nodeState = .joinBlocked →
        exec (.positionReport r seq f) s = discarded) ∧
    (∀ (seq : Nat) (f : StoreNoticeFrame), f.entries = [] ∨ 6 < f.entries.length →
      exec (.storeNotice r seq f) s = discarded) ∧
    (s.record = none → r ≠ 0 → frameSender c = some r → c.wf = true → exec c s = counted)
end

