-- ==== Sys2Proof/Laws/Claims.lean ====
section
/-! SUPPORT. What the Claim Controller's tests of an own extension say: the neighbour test and the limiting rank (R64), and the re-test (R65). -/

namespace Sys2Proof.Machine

theorem mem_ranksBeyond (c : StartRecord) (d : Side) (r : Nat) : r ∈ ranksBeyond c d ↔ onSide c d r := by
  cases d <;> simp [ranksBeyond, onSide] <;> omega

/-- The ranks on a side are listed nearest first. -/
theorem ranksBeyond_ordered (c : StartRecord) (d : Side) :
    (ranksBeyond c d).Pairwise fun k r => (d = .high ∧ k < r) ∨ (d = .low ∧ r < k) := by
  cases d
  · simpa [ranksBeyond, List.pairwise_reverse] using List.pairwise_lt_range.filter _
  · simpa [ranksBeyond] using List.pairwise_lt_range.filter _

/-- R64 step 1: the rank that the neighbour test looks at. -/
theorem find_nearest (s : State) (d : Side) (r : Nat) :
    (ranksBeyond s.conf d).find? (fun k => (s.peer k).presence != .released) = some r ↔ nearestOn s d r := by
  have mem := mem_ranksBeyond s.conf d
  have order := ranksBeyond_ordered s.conf d
  constructor
  · intro h
    obtain ⟨hr, as, bs, hl, has⟩ := List.find?_eq_some_iff_append.mp h
    rw [hl] at mem order
    refine ⟨(mem r).mp (by simp), by simpa using hr, fun k hk near => ?_⟩
    have : k ∈ as := by
      rcases List.mem_append.mp ((mem k).mpr hk) with h | h
      · exact h
      · have after := (List.pairwise_append.mp order).2.1
        rcases List.mem_cons.mp h with rfl | h
        · omega
        · have := List.rel_of_pairwise_cons after h
          rcases near with ⟨rfl, _⟩ | ⟨rfl, _⟩ <;> simp at this <;> omega
    simpa using has k this
  · rintro ⟨on, live, before⟩
    obtain ⟨as, bs, hl⟩ := List.append_of_mem ((mem r).mpr on)
    rw [hl] at mem order ⊢
    refine List.find?_eq_some_iff_append.mpr ⟨by simpa using live, as, bs, rfl, fun a ha => ?_⟩
    simpa using before a ((mem a).mp (by simp [ha])) ((List.pairwise_append.mp order).2.2 a ha r (by simp))

/-- R64 step 1: what the neighbour test says. -/
theorem neighbourAllows_iff (s : State) (d : Side) : neighbourAllows s d = true ↔ neighbourFit s d := by
  unfold neighbourAllows neighbourFit
  cases h : (ranksBeyond s.conf d).find? fun r => (s.peer r).presence != .released with
  | none => simpa using fun r near => by simp [(find_nearest s d r).mpr near] at h
  | some r =>
    have near : ∀ k, nearestOn s d k ↔ k = r := fun k => by rw [← find_nearest, h]; simp [eq_comm]
    cases s.peers.inFlight <;> simp [near, and_assoc]

/-- R64 step 2: the regions beyond the own claim, each with its facing end. -/
theorem mem_gapEnds (s : State) (k : Interval) (d : Side) (r : Nat) (e : Int) :
    (r, e) ∈ gapEnds s k d ↔ r ∈ peerRanks s ∧ facesAt s k d r e := by
  unfold gapEnds facesAt
  simp only [List.mem_filterMap, Option.bind_eq_some_iff]
  constructor
  · rintro ⟨q, hq, i, hi, h⟩
    cases d <;> simp only [Option.ite_none_right_eq_some, Option.some.injEq, Prod.mk.injEq] at h <;>
      obtain ⟨lt, rfl, rfl⟩ := h <;> exact ⟨hq, i, hi, by simp [lt]⟩
  · rintro ⟨hr, i, hi, h⟩
    refine ⟨r, hr, i, hi, ?_⟩
    rcases h with ⟨rfl, lt, rfl⟩ | ⟨rfl, lt, rfl⟩ <;> simp [lt]

/-- A rank nearer than every other of a list is the one that a search for the nearest finds. -/
theorem foldl_nearest (f : Nat → Nat) (r : Nat) : ∀ (l : List Nat) (best : Option Nat),
    (∀ q ∈ l, q ≠ r → f r < f q) → (∀ b, best = some b → b ≠ r → f r < f b) → r ∈ l ∨ best = some r →
    l.foldl (fun best q => match best with
      | none => some q
      | some b => if f q < f b then some q else some b) best = some r
  | [], _, _, _, h => by simpa using h
  | q :: l, best, hl, hb, h => by
    refine foldl_nearest f r l _ (fun k hk => hl k (by simp [hk])) ?_ ?_
    all_goals
      have hq := hl q (by simp)
      rcases best with _ | b <;> simp_all <;> grind

/-- R64 step 2: the peer that limits the own claim at the gap edge is the limiting rank. -/
theorem limitingRank_of_limits {s : State} {k : Interval} {d : Side} {r : Nat} (h : limits s k d (gapEdge s k d) r) :
    limitingRank s k d = some r := by
  obtain ⟨hr, faces, nearest⟩ := h
  have mem : ∀ q, q ∈ ((gapEnds s k d).filter (·.2 == gapEdge s k d)).map (·.1) ↔
      q ∈ peerRanks s ∧ facesAt s k d q (gapEdge s k d) := fun q => by
    rw [← mem_gapEnds]
    simp
  exact foldl_nearest (apart s) r _ none (fun q hq ne => nearest q ((mem q).mp hq).1 ne ((mem q).mp hq).2) (by simp)
    (.inl ((mem r).mpr ⟨hr, faces⟩))

/-- R65: what the re-test of the own Extend says. -/
theorem extendVoid_iff (s : State) (k : Interval) (d : Side) (edge : Int) :
    extendVoid s k d edge = false ↔ extendStands s k d edge := by
  have peer : ∀ r ∈ peerRanks s, r ≠ s.conf.ownRank := fun r h => by simpa using (List.mem_filter.mp h).2
  unfold extendVoid extendStands
  rw [← neighbourAllows_iff]
  have tested : ∀ i, overlapsTested s s.conf.ownRank i = false ↔
      ∀ r ∈ peerRanks s, ∀ j, peerRegion (s.peer r) = some j → overlaps i j = false := fun i => by
    simp only [overlapsTested, testedSet, if_pos, List.append_nil, List.any_eq_false, List.mem_filterMap, List.mem_filter]
    exact ⟨fun h r hr j hj => by simpa using h j ⟨r, ⟨hr, by simpa using peer r hr⟩, hj⟩,
      fun h j ⟨r, hr, hj⟩ => by simpa using h r hr.1 j hj⟩
  rw [← tested]
  cases neighbourAllows s d <;> simp

end Sys2Proof.Machine
end

