-- ==== Sys2Proof/Laws/State.lean ====
section
/-! SUPPORT. What each named update of the state leaves as it was, field by field, and what it writes. -/

namespace Sys2Proof.Machine

variable (s : State)

/-! elapse -/

@[simp] theorem elapse_inputs (d : Nat) : (elapse s d).inputs = s.inputs := rfl
@[simp] theorem elapse_record (d : Nat) : (elapse s d).record = s.record := rfl
@[simp] theorem elapse_node (d : Nat) : (elapse s d).node = s.node := rfl
@[simp] theorem elapse_listen (d : Nat) : (elapse s d).listen = s.listen := rfl
@[simp] theorem elapse_link (d : Nat) : (elapse s d).link = s.link := rfl
@[simp] theorem elapse_peers (d : Nat) : (elapse s d).peers = s.peers := rfl
@[simp] theorem elapse_claim (d : Nat) : (elapse s d).claim = s.claim := rfl
@[simp] theorem elapse_travel (d : Nat) : (elapse s d).travel = s.travel := rfl
@[simp] theorem elapse_halt (d : Nat) : (elapse s d).halt = s.halt := rfl
@[simp] theorem elapse_weigher (d : Nat) : (elapse s d).weigher = s.weigher := rfl
@[simp] theorem elapse_store (d : Nat) : (elapse s d).store = s.store := rfl
@[simp] theorem elapse_tasks (d : Nat) : (elapse s d).tasks = s.tasks := rfl
@[simp] theorem elapse_bays (d : Nat) : (elapse s d).bays = s.bays := rfl
@[simp] theorem elapse_port (d : Nat) : (elapse s d).port = s.port := rfl
@[simp] theorem elapse_scanDue (d : Nat) : (elapse s d).scanDue = s.scanDue := rfl
@[simp] theorem elapse_pending (d : Nat) : (elapse s d).pending = s.pending := rfl

/-! withPeer -/

@[simp] theorem withPeer_inputs (r : Nat) (p : PeerRecord) : (s.withPeer r p).inputs = s.inputs := rfl
@[simp] theorem withPeer_record (r : Nat) (p : PeerRecord) : (s.withPeer r p).record = s.record := rfl
@[simp] theorem withPeer_node (r : Nat) (p : PeerRecord) : (s.withPeer r p).node = s.node := rfl
@[simp] theorem withPeer_listen (r : Nat) (p : PeerRecord) : (s.withPeer r p).listen = s.listen := rfl
@[simp] theorem withPeer_link (r : Nat) (p : PeerRecord) : (s.withPeer r p).link = s.link := rfl
@[simp] theorem withPeer_claim (r : Nat) (p : PeerRecord) : (s.withPeer r p).claim = s.claim := rfl
@[simp] theorem withPeer_travel (r : Nat) (p : PeerRecord) : (s.withPeer r p).travel = s.travel := rfl
@[simp] theorem withPeer_halt (r : Nat) (p : PeerRecord) : (s.withPeer r p).halt = s.halt := rfl
@[simp] theorem withPeer_weigher (r : Nat) (p : PeerRecord) : (s.withPeer r p).weigher = s.weigher := rfl
@[simp] theorem withPeer_store (r : Nat) (p : PeerRecord) : (s.withPeer r p).store = s.store := rfl
@[simp] theorem withPeer_tasks (r : Nat) (p : PeerRecord) : (s.withPeer r p).tasks = s.tasks := rfl
@[simp] theorem withPeer_bays (r : Nat) (p : PeerRecord) : (s.withPeer r p).bays = s.bays := rfl
@[simp] theorem withPeer_port (r : Nat) (p : PeerRecord) : (s.withPeer r p).port = s.port := rfl
@[simp] theorem withPeer_now (r : Nat) (p : PeerRecord) : (s.withPeer r p).now = s.now := rfl
@[simp] theorem withPeer_scanDue (r : Nat) (p : PeerRecord) : (s.withPeer r p).scanDue = s.scanDue := rfl
@[simp] theorem withPeer_pending (r : Nat) (p : PeerRecord) : (s.withPeer r p).pending = s.pending := rfl

/-! mapPeer -/

@[simp] theorem mapPeer_inputs (r : Nat) (f : PeerRecord → PeerRecord) : (s.mapPeer r f).inputs = s.inputs := rfl
@[simp] theorem mapPeer_record (r : Nat) (f : PeerRecord → PeerRecord) : (s.mapPeer r f).record = s.record := rfl
@[simp] theorem mapPeer_node (r : Nat) (f : PeerRecord → PeerRecord) : (s.mapPeer r f).node = s.node := rfl
@[simp] theorem mapPeer_listen (r : Nat) (f : PeerRecord → PeerRecord) : (s.mapPeer r f).listen = s.listen := rfl
@[simp] theorem mapPeer_link (r : Nat) (f : PeerRecord → PeerRecord) : (s.mapPeer r f).link = s.link := rfl
@[simp] theorem mapPeer_claim (r : Nat) (f : PeerRecord → PeerRecord) : (s.mapPeer r f).claim = s.claim := rfl
@[simp] theorem mapPeer_travel (r : Nat) (f : PeerRecord → PeerRecord) : (s.mapPeer r f).travel = s.travel := rfl
@[simp] theorem mapPeer_halt (r : Nat) (f : PeerRecord → PeerRecord) : (s.mapPeer r f).halt = s.halt := rfl
@[simp] theorem mapPeer_weigher (r : Nat) (f : PeerRecord → PeerRecord) : (s.mapPeer r f).weigher = s.weigher := rfl
@[simp] theorem mapPeer_store (r : Nat) (f : PeerRecord → PeerRecord) : (s.mapPeer r f).store = s.store := rfl
@[simp] theorem mapPeer_tasks (r : Nat) (f : PeerRecord → PeerRecord) : (s.mapPeer r f).tasks = s.tasks := rfl
@[simp] theorem mapPeer_bays (r : Nat) (f : PeerRecord → PeerRecord) : (s.mapPeer r f).bays = s.bays := rfl
@[simp] theorem mapPeer_port (r : Nat) (f : PeerRecord → PeerRecord) : (s.mapPeer r f).port = s.port := rfl
@[simp] theorem mapPeer_now (r : Nat) (f : PeerRecord → PeerRecord) : (s.mapPeer r f).now = s.now := rfl
@[simp] theorem mapPeer_scanDue (r : Nat) (f : PeerRecord → PeerRecord) : (s.mapPeer r f).scanDue = s.scanDue := rfl
@[simp] theorem mapPeer_pending (r : Nat) (f : PeerRecord → PeerRecord) : (s.mapPeer r f).pending = s.pending := rfl

/-! withAxis -/

@[simp] theorem withAxis_inputs (a : Axis) (r : AxisRecord) : (s.withAxis a r).inputs = s.inputs := by cases a <;> rfl
@[simp] theorem withAxis_record (a : Axis) (r : AxisRecord) : (s.withAxis a r).record = s.record := by cases a <;> rfl
@[simp] theorem withAxis_node (a : Axis) (r : AxisRecord) : (s.withAxis a r).node = s.node := by cases a <;> rfl
@[simp] theorem withAxis_listen (a : Axis) (r : AxisRecord) : (s.withAxis a r).listen = s.listen := by cases a <;> rfl
@[simp] theorem withAxis_link (a : Axis) (r : AxisRecord) : (s.withAxis a r).link = s.link := by cases a <;> rfl
@[simp] theorem withAxis_peers (a : Axis) (r : AxisRecord) : (s.withAxis a r).peers = s.peers := by cases a <;> rfl
@[simp] theorem withAxis_claim (a : Axis) (r : AxisRecord) : (s.withAxis a r).claim = s.claim := by cases a <;> rfl
@[simp] theorem withAxis_halt (a : Axis) (r : AxisRecord) : (s.withAxis a r).halt = s.halt := by cases a <;> rfl
@[simp] theorem withAxis_weigher (a : Axis) (r : AxisRecord) : (s.withAxis a r).weigher = s.weigher := by cases a <;> rfl
@[simp] theorem withAxis_store (a : Axis) (r : AxisRecord) : (s.withAxis a r).store = s.store := by cases a <;> rfl
@[simp] theorem withAxis_tasks (a : Axis) (r : AxisRecord) : (s.withAxis a r).tasks = s.tasks := by cases a <;> rfl
@[simp] theorem withAxis_bays (a : Axis) (r : AxisRecord) : (s.withAxis a r).bays = s.bays := by cases a <;> rfl
@[simp] theorem withAxis_port (a : Axis) (r : AxisRecord) : (s.withAxis a r).port = s.port := by cases a <;> rfl
@[simp] theorem withAxis_now (a : Axis) (r : AxisRecord) : (s.withAxis a r).now = s.now := by cases a <;> rfl
@[simp] theorem withAxis_scanDue (a : Axis) (r : AxisRecord) : (s.withAxis a r).scanDue = s.scanDue := by cases a <;> rfl
@[simp] theorem withAxis_pending (a : Axis) (r : AxisRecord) : (s.withAxis a r).pending = s.pending := by cases a <;> rfl

/-! withBay -/

@[simp] theorem withBay_inputs (b : Nat) (r : BayRecord) : (s.withBay b r).inputs = s.inputs := rfl
@[simp] theorem withBay_record (b : Nat) (r : BayRecord) : (s.withBay b r).record = s.record := rfl
@[simp] theorem withBay_node (b : Nat) (r : BayRecord) : (s.withBay b r).node = s.node := rfl
@[simp] theorem withBay_listen (b : Nat) (r : BayRecord) : (s.withBay b r).listen = s.listen := rfl
@[simp] theorem withBay_link (b : Nat) (r : BayRecord) : (s.withBay b r).link = s.link := rfl
@[simp] theorem withBay_peers (b : Nat) (r : BayRecord) : (s.withBay b r).peers = s.peers := rfl
@[simp] theorem withBay_claim (b : Nat) (r : BayRecord) : (s.withBay b r).claim = s.claim := rfl
@[simp] theorem withBay_travel (b : Nat) (r : BayRecord) : (s.withBay b r).travel = s.travel := rfl
@[simp] theorem withBay_halt (b : Nat) (r : BayRecord) : (s.withBay b r).halt = s.halt := rfl
@[simp] theorem withBay_weigher (b : Nat) (r : BayRecord) : (s.withBay b r).weigher = s.weigher := rfl
@[simp] theorem withBay_store (b : Nat) (r : BayRecord) : (s.withBay b r).store = s.store := rfl
@[simp] theorem withBay_tasks (b : Nat) (r : BayRecord) : (s.withBay b r).tasks = s.tasks := rfl
@[simp] theorem withBay_port (b : Nat) (r : BayRecord) : (s.withBay b r).port = s.port := rfl
@[simp] theorem withBay_now (b : Nat) (r : BayRecord) : (s.withBay b r).now = s.now := rfl
@[simp] theorem withBay_scanDue (b : Nat) (r : BayRecord) : (s.withBay b r).scanDue = s.scanDue := rfl
@[simp] theorem withBay_pending (b : Nat) (r : BayRecord) : (s.withBay b r).pending = s.pending := rfl

/-! withdraw -/

@[simp] theorem withdraw_inputs (p : Content → Bool) : (withdraw s p).inputs = s.inputs := rfl
@[simp] theorem withdraw_record (p : Content → Bool) : (withdraw s p).record = s.record := rfl
@[simp] theorem withdraw_node (p : Content → Bool) : (withdraw s p).node = s.node := rfl
@[simp] theorem withdraw_listen (p : Content → Bool) : (withdraw s p).listen = s.listen := rfl
@[simp] theorem withdraw_peers (p : Content → Bool) : (withdraw s p).peers = s.peers := rfl
@[simp] theorem withdraw_claim (p : Content → Bool) : (withdraw s p).claim = s.claim := rfl
@[simp] theorem withdraw_travel (p : Content → Bool) : (withdraw s p).travel = s.travel := rfl
@[simp] theorem withdraw_halt (p : Content → Bool) : (withdraw s p).halt = s.halt := rfl
@[simp] theorem withdraw_weigher (p : Content → Bool) : (withdraw s p).weigher = s.weigher := rfl
@[simp] theorem withdraw_store (p : Content → Bool) : (withdraw s p).store = s.store := rfl
@[simp] theorem withdraw_tasks (p : Content → Bool) : (withdraw s p).tasks = s.tasks := rfl
@[simp] theorem withdraw_bays (p : Content → Bool) : (withdraw s p).bays = s.bays := rfl
@[simp] theorem withdraw_port (p : Content → Bool) : (withdraw s p).port = s.port := rfl
@[simp] theorem withdraw_now (p : Content → Bool) : (withdraw s p).now = s.now := rfl
@[simp] theorem withdraw_scanDue (p : Content → Bool) : (withdraw s p).scanDue = s.scanDue := rfl
@[simp] theorem withdraw_pending (p : Content → Bool) : (withdraw s p).pending = s.pending := rfl

/-! offer -/

@[simp] theorem offer_inputs (c : Content) : (offer s c).inputs = s.inputs := by unfold offer; split <;> rfl
@[simp] theorem offer_record (c : Content) : (offer s c).record = s.record := by unfold offer; split <;> rfl
@[simp] theorem offer_node (c : Content) : (offer s c).node = s.node := by unfold offer; split <;> rfl
@[simp] theorem offer_listen (c : Content) : (offer s c).listen = s.listen := by unfold offer; split <;> rfl
@[simp] theorem offer_peers (c : Content) : (offer s c).peers = s.peers := by unfold offer; split <;> rfl
@[simp] theorem offer_claim (c : Content) : (offer s c).claim = s.claim := by unfold offer; split <;> rfl
@[simp] theorem offer_travel (c : Content) : (offer s c).travel = s.travel := by unfold offer; split <;> rfl
@[simp] theorem offer_halt (c : Content) : (offer s c).halt = s.halt := by unfold offer; split <;> rfl
@[simp] theorem offer_weigher (c : Content) : (offer s c).weigher = s.weigher := by unfold offer; split <;> rfl
@[simp] theorem offer_store (c : Content) : (offer s c).store = s.store := by unfold offer; split <;> rfl
@[simp] theorem offer_tasks (c : Content) : (offer s c).tasks = s.tasks := by unfold offer; split <;> rfl
@[simp] theorem offer_bays (c : Content) : (offer s c).bays = s.bays := by unfold offer; split <;> rfl
@[simp] theorem offer_port (c : Content) : (offer s c).port = s.port := by unfold offer; split <;> rfl
@[simp] theorem offer_now (c : Content) : (offer s c).now = s.now := by unfold offer; split <;> rfl
@[simp] theorem offer_scanDue (c : Content) : (offer s c).scanDue = s.scanDue := by unfold offer; split <;> rfl
@[simp] theorem offer_pending (c : Content) : (offer s c).pending = s.pending := by unfold offer; split <;> rfl

/-! transmit -/

@[simp] theorem transmit_inputs (f : PortFrame) : (transmit s f).inputs = s.inputs := rfl
@[simp] theorem transmit_record (f : PortFrame) : (transmit s f).record = s.record := rfl
@[simp] theorem transmit_node (f : PortFrame) : (transmit s f).node = s.node := rfl
@[simp] theorem transmit_listen (f : PortFrame) : (transmit s f).listen = s.listen := rfl
@[simp] theorem transmit_link (f : PortFrame) : (transmit s f).link = s.link := rfl
@[simp] theorem transmit_peers (f : PortFrame) : (transmit s f).peers = s.peers := rfl
@[simp] theorem transmit_claim (f : PortFrame) : (transmit s f).claim = s.claim := rfl
@[simp] theorem transmit_travel (f : PortFrame) : (transmit s f).travel = s.travel := rfl
@[simp] theorem transmit_halt (f : PortFrame) : (transmit s f).halt = s.halt := rfl
@[simp] theorem transmit_weigher (f : PortFrame) : (transmit s f).weigher = s.weigher := rfl
@[simp] theorem transmit_store (f : PortFrame) : (transmit s f).store = s.store := rfl
@[simp] theorem transmit_tasks (f : PortFrame) : (transmit s f).tasks = s.tasks := rfl
@[simp] theorem transmit_bays (f : PortFrame) : (transmit s f).bays = s.bays := rfl
@[simp] theorem transmit_now (f : PortFrame) : (transmit s f).now = s.now := rfl
@[simp] theorem transmit_scanDue (f : PortFrame) : (transmit s f).scanDue = s.scanDue := rfl
@[simp] theorem transmit_pending (f : PortFrame) : (transmit s f).pending = s.pending := rfl

/-! answerAtOnce -/

@[simp] theorem answerAtOnce_inputs (k t : Nat) (st : Status) (r : Result) : (answerAtOnce s k t st r).inputs = s.inputs := by unfold answerAtOnce; split <;> rfl
@[simp] theorem answerAtOnce_record (k t : Nat) (st : Status) (r : Result) : (answerAtOnce s k t st r).record = s.record := by unfold answerAtOnce; split <;> rfl
@[simp] theorem answerAtOnce_node (k t : Nat) (st : Status) (r : Result) : (answerAtOnce s k t st r).node = s.node := by unfold answerAtOnce; split <;> rfl
@[simp] theorem answerAtOnce_listen (k t : Nat) (st : Status) (r : Result) : (answerAtOnce s k t st r).listen = s.listen := by unfold answerAtOnce; split <;> rfl
@[simp] theorem answerAtOnce_link (k t : Nat) (st : Status) (r : Result) : (answerAtOnce s k t st r).link = s.link := by unfold answerAtOnce; split <;> rfl
@[simp] theorem answerAtOnce_peers (k t : Nat) (st : Status) (r : Result) : (answerAtOnce s k t st r).peers = s.peers := by unfold answerAtOnce; split <;> rfl
@[simp] theorem answerAtOnce_claim (k t : Nat) (st : Status) (r : Result) : (answerAtOnce s k t st r).claim = s.claim := by unfold answerAtOnce; split <;> rfl
@[simp] theorem answerAtOnce_travel (k t : Nat) (st : Status) (r : Result) : (answerAtOnce s k t st r).travel = s.travel := by unfold answerAtOnce; split <;> rfl
@[simp] theorem answerAtOnce_halt (k t : Nat) (st : Status) (r : Result) : (answerAtOnce s k t st r).halt = s.halt := by unfold answerAtOnce; split <;> rfl
@[simp] theorem answerAtOnce_weigher (k t : Nat) (st : Status) (r : Result) : (answerAtOnce s k t st r).weigher = s.weigher := by unfold answerAtOnce; split <;> rfl
@[simp] theorem answerAtOnce_store (k t : Nat) (st : Status) (r : Result) : (answerAtOnce s k t st r).store = s.store := by unfold answerAtOnce; split <;> rfl
@[simp] theorem answerAtOnce_tasks (k t : Nat) (st : Status) (r : Result) : (answerAtOnce s k t st r).tasks = s.tasks := by unfold answerAtOnce; split <;> rfl
@[simp] theorem answerAtOnce_bays (k t : Nat) (st : Status) (r : Result) : (answerAtOnce s k t st r).bays = s.bays := by unfold answerAtOnce; split <;> rfl
@[simp] theorem answerAtOnce_now (k t : Nat) (st : Status) (r : Result) : (answerAtOnce s k t st r).now = s.now := by unfold answerAtOnce; split <;> rfl
@[simp] theorem answerAtOnce_scanDue (k t : Nat) (st : Status) (r : Result) : (answerAtOnce s k t st r).scanDue = s.scanDue := by unfold answerAtOnce; split <;> rfl
@[simp] theorem answerAtOnce_pending (k t : Nat) (st : Status) (r : Result) : (answerAtOnce s k t st r).pending = s.pending := by unfold answerAtOnce; split <;> rfl

/-! raiseEvent -/

@[simp] theorem raiseEvent_inputs (d : Detail) : (raiseEvent s d).inputs = s.inputs := rfl
@[simp] theorem raiseEvent_record (d : Detail) : (raiseEvent s d).record = s.record := rfl
@[simp] theorem raiseEvent_node (d : Detail) : (raiseEvent s d).node = s.node := rfl
@[simp] theorem raiseEvent_listen (d : Detail) : (raiseEvent s d).listen = s.listen := rfl
@[simp] theorem raiseEvent_link (d : Detail) : (raiseEvent s d).link = s.link := rfl
@[simp] theorem raiseEvent_peers (d : Detail) : (raiseEvent s d).peers = s.peers := rfl
@[simp] theorem raiseEvent_claim (d : Detail) : (raiseEvent s d).claim = s.claim := rfl
@[simp] theorem raiseEvent_travel (d : Detail) : (raiseEvent s d).travel = s.travel := rfl
@[simp] theorem raiseEvent_halt (d : Detail) : (raiseEvent s d).halt = s.halt := rfl
@[simp] theorem raiseEvent_weigher (d : Detail) : (raiseEvent s d).weigher = s.weigher := rfl
@[simp] theorem raiseEvent_store (d : Detail) : (raiseEvent s d).store = s.store := rfl
@[simp] theorem raiseEvent_tasks (d : Detail) : (raiseEvent s d).tasks = s.tasks := rfl
@[simp] theorem raiseEvent_bays (d : Detail) : (raiseEvent s d).bays = s.bays := rfl
@[simp] theorem raiseEvent_now (d : Detail) : (raiseEvent s d).now = s.now := rfl
@[simp] theorem raiseEvent_scanDue (d : Detail) : (raiseEvent s d).scanDue = s.scanDue := rfl
@[simp] theorem raiseEvent_pending (d : Detail) : (raiseEvent s d).pending = s.pending := rfl

/-! putSlot -/

@[simp] theorem putSlot_inputs (n : Nat) (r : SlotRecord) : (putSlot s n r).inputs = s.inputs := rfl
@[simp] theorem putSlot_record (n : Nat) (r : SlotRecord) : (putSlot s n r).record = s.record := rfl
@[simp] theorem putSlot_node (n : Nat) (r : SlotRecord) : (putSlot s n r).node = s.node := rfl
@[simp] theorem putSlot_listen (n : Nat) (r : SlotRecord) : (putSlot s n r).listen = s.listen := rfl
@[simp] theorem putSlot_link (n : Nat) (r : SlotRecord) : (putSlot s n r).link = s.link := rfl
@[simp] theorem putSlot_peers (n : Nat) (r : SlotRecord) : (putSlot s n r).peers = s.peers := rfl
@[simp] theorem putSlot_claim (n : Nat) (r : SlotRecord) : (putSlot s n r).claim = s.claim := rfl
@[simp] theorem putSlot_travel (n : Nat) (r : SlotRecord) : (putSlot s n r).travel = s.travel := rfl
@[simp] theorem putSlot_halt (n : Nat) (r : SlotRecord) : (putSlot s n r).halt = s.halt := rfl
@[simp] theorem putSlot_weigher (n : Nat) (r : SlotRecord) : (putSlot s n r).weigher = s.weigher := rfl
@[simp] theorem putSlot_tasks (n : Nat) (r : SlotRecord) : (putSlot s n r).tasks = s.tasks := rfl
@[simp] theorem putSlot_bays (n : Nat) (r : SlotRecord) : (putSlot s n r).bays = s.bays := rfl
@[simp] theorem putSlot_port (n : Nat) (r : SlotRecord) : (putSlot s n r).port = s.port := rfl
@[simp] theorem putSlot_now (n : Nat) (r : SlotRecord) : (putSlot s n r).now = s.now := rfl
@[simp] theorem putSlot_scanDue (n : Nat) (r : SlotRecord) : (putSlot s n r).scanDue = s.scanDue := rfl
@[simp] theorem putSlot_pending (n : Nat) (r : SlotRecord) : (putSlot s n r).pending = s.pending := rfl

/-! putRow -/

@[simp] theorem putRow_inputs (n : Nat) (r : RowRecord) : (putRow s n r).inputs = s.inputs := rfl
@[simp] theorem putRow_record (n : Nat) (r : RowRecord) : (putRow s n r).record = s.record := rfl
@[simp] theorem putRow_node (n : Nat) (r : RowRecord) : (putRow s n r).node = s.node := rfl
@[simp] theorem putRow_listen (n : Nat) (r : RowRecord) : (putRow s n r).listen = s.listen := rfl
@[simp] theorem putRow_link (n : Nat) (r : RowRecord) : (putRow s n r).link = s.link := rfl
@[simp] theorem putRow_peers (n : Nat) (r : RowRecord) : (putRow s n r).peers = s.peers := rfl
@[simp] theorem putRow_claim (n : Nat) (r : RowRecord) : (putRow s n r).claim = s.claim := rfl
@[simp] theorem putRow_travel (n : Nat) (r : RowRecord) : (putRow s n r).travel = s.travel := rfl
@[simp] theorem putRow_halt (n : Nat) (r : RowRecord) : (putRow s n r).halt = s.halt := rfl
@[simp] theorem putRow_weigher (n : Nat) (r : RowRecord) : (putRow s n r).weigher = s.weigher := rfl
@[simp] theorem putRow_tasks (n : Nat) (r : RowRecord) : (putRow s n r).tasks = s.tasks := rfl
@[simp] theorem putRow_bays (n : Nat) (r : RowRecord) : (putRow s n r).bays = s.bays := rfl
@[simp] theorem putRow_port (n : Nat) (r : RowRecord) : (putRow s n r).port = s.port := rfl
@[simp] theorem putRow_now (n : Nat) (r : RowRecord) : (putRow s n r).now = s.now := rfl
@[simp] theorem putRow_scanDue (n : Nat) (r : RowRecord) : (putRow s n r).scanDue = s.scanDue := rfl
@[simp] theorem putRow_pending (n : Nat) (r : RowRecord) : (putRow s n r).pending = s.pending := rfl

/-! scanLater -/

@[simp] theorem scanLater_inputs : (scanLater s).inputs = s.inputs := rfl
@[simp] theorem scanLater_record : (scanLater s).record = s.record := rfl
@[simp] theorem scanLater_node : (scanLater s).node = s.node := rfl
@[simp] theorem scanLater_listen : (scanLater s).listen = s.listen := rfl
@[simp] theorem scanLater_link : (scanLater s).link = s.link := rfl
@[simp] theorem scanLater_peers : (scanLater s).peers = s.peers := rfl
@[simp] theorem scanLater_claim : (scanLater s).claim = s.claim := rfl
@[simp] theorem scanLater_travel : (scanLater s).travel = s.travel := rfl
@[simp] theorem scanLater_halt : (scanLater s).halt = s.halt := rfl
@[simp] theorem scanLater_weigher : (scanLater s).weigher = s.weigher := rfl
@[simp] theorem scanLater_store : (scanLater s).store = s.store := rfl
@[simp] theorem scanLater_tasks : (scanLater s).tasks = s.tasks := rfl
@[simp] theorem scanLater_bays : (scanLater s).bays = s.bays := rfl
@[simp] theorem scanLater_port : (scanLater s).port = s.port := rfl
@[simp] theorem scanLater_now : (scanLater s).now = s.now := rfl
@[simp] theorem scanLater_pending : (scanLater s).pending = s.pending := rfl

/-! closeQuery -/

@[simp] theorem closeQuery_inputs : (closeQuery s).inputs = s.inputs := rfl
@[simp] theorem closeQuery_record : (closeQuery s).record = s.record := rfl
@[simp] theorem closeQuery_node : (closeQuery s).node = s.node := rfl
@[simp] theorem closeQuery_listen : (closeQuery s).listen = s.listen := rfl
@[simp] theorem closeQuery_link : (closeQuery s).link = s.link := rfl
@[simp] theorem closeQuery_peers : (closeQuery s).peers = s.peers := rfl
@[simp] theorem closeQuery_claim : (closeQuery s).claim = s.claim := rfl
@[simp] theorem closeQuery_travel : (closeQuery s).travel = s.travel := rfl
@[simp] theorem closeQuery_halt : (closeQuery s).halt = s.halt := rfl
@[simp] theorem closeQuery_weigher : (closeQuery s).weigher = s.weigher := rfl
@[simp] theorem closeQuery_tasks : (closeQuery s).tasks = s.tasks := rfl
@[simp] theorem closeQuery_bays : (closeQuery s).bays = s.bays := rfl
@[simp] theorem closeQuery_port : (closeQuery s).port = s.port := rfl
@[simp] theorem closeQuery_now : (closeQuery s).now = s.now := rfl
@[simp] theorem closeQuery_scanDue : (closeQuery s).scanDue = s.scanDue := rfl
@[simp] theorem closeQuery_pending : (closeQuery s).pending = s.pending := rfl

/-! withHookCoil -/

@[simp] theorem withHookCoil_inputs (k : Option HookCoil) : (withHookCoil s k).inputs = s.inputs := rfl
@[simp] theorem withHookCoil_record (k : Option HookCoil) : (withHookCoil s k).record = s.record := rfl
@[simp] theorem withHookCoil_node (k : Option HookCoil) : (withHookCoil s k).node = s.node := rfl
@[simp] theorem withHookCoil_listen (k : Option HookCoil) : (withHookCoil s k).listen = s.listen := rfl
@[simp] theorem withHookCoil_link (k : Option HookCoil) : (withHookCoil s k).link = s.link := rfl
@[simp] theorem withHookCoil_peers (k : Option HookCoil) : (withHookCoil s k).peers = s.peers := rfl
@[simp] theorem withHookCoil_claim (k : Option HookCoil) : (withHookCoil s k).claim = s.claim := rfl
@[simp] theorem withHookCoil_travel (k : Option HookCoil) : (withHookCoil s k).travel = s.travel := rfl
@[simp] theorem withHookCoil_halt (k : Option HookCoil) : (withHookCoil s k).halt = s.halt := rfl
@[simp] theorem withHookCoil_weigher (k : Option HookCoil) : (withHookCoil s k).weigher = s.weigher := rfl
@[simp] theorem withHookCoil_store (k : Option HookCoil) : (withHookCoil s k).store = s.store := rfl
@[simp] theorem withHookCoil_bays (k : Option HookCoil) : (withHookCoil s k).bays = s.bays := rfl
@[simp] theorem withHookCoil_port (k : Option HookCoil) : (withHookCoil s k).port = s.port := rfl
@[simp] theorem withHookCoil_now (k : Option HookCoil) : (withHookCoil s k).now = s.now := rfl
@[simp] theorem withHookCoil_scanDue (k : Option HookCoil) : (withHookCoil s k).scanDue = s.scanDue := rfl
@[simp] theorem withHookCoil_pending (k : Option HookCoil) : (withHookCoil s k).pending = s.pending := rfl

/-! withLoose -/

@[simp] theorem withLoose_inputs (b : Bool) : (withLoose s b).inputs = s.inputs := rfl
@[simp] theorem withLoose_record (b : Bool) : (withLoose s b).record = s.record := rfl
@[simp] theorem withLoose_node (b : Bool) : (withLoose s b).node = s.node := rfl
@[simp] theorem withLoose_listen (b : Bool) : (withLoose s b).listen = s.listen := rfl
@[simp] theorem withLoose_link (b : Bool) : (withLoose s b).link = s.link := rfl
@[simp] theorem withLoose_peers (b : Bool) : (withLoose s b).peers = s.peers := rfl
@[simp] theorem withLoose_claim (b : Bool) : (withLoose s b).claim = s.claim := rfl
@[simp] theorem withLoose_travel (b : Bool) : (withLoose s b).travel = s.travel := rfl
@[simp] theorem withLoose_halt (b : Bool) : (withLoose s b).halt = s.halt := rfl
@[simp] theorem withLoose_weigher (b : Bool) : (withLoose s b).weigher = s.weigher := rfl
@[simp] theorem withLoose_store (b : Bool) : (withLoose s b).store = s.store := rfl
@[simp] theorem withLoose_bays (b : Bool) : (withLoose s b).bays = s.bays := rfl
@[simp] theorem withLoose_port (b : Bool) : (withLoose s b).port = s.port := rfl
@[simp] theorem withLoose_now (b : Bool) : (withLoose s b).now = s.now := rfl
@[simp] theorem withLoose_scanDue (b : Bool) : (withLoose s b).scanDue = s.scanDue := rfl
@[simp] theorem withLoose_pending (b : Bool) : (withLoose s b).pending = s.pending := rfl

/-! writeUnplaced -/

@[simp] theorem writeUnplaced_inputs (w : UnplacedWay) (c : Option Nat) (n : Option Int) : (writeUnplaced s w c n).inputs = s.inputs := rfl
@[simp] theorem writeUnplaced_record (w : UnplacedWay) (c : Option Nat) (n : Option Int) : (writeUnplaced s w c n).record = s.record := rfl
@[simp] theorem writeUnplaced_node (w : UnplacedWay) (c : Option Nat) (n : Option Int) : (writeUnplaced s w c n).node = s.node := rfl
@[simp] theorem writeUnplaced_listen (w : UnplacedWay) (c : Option Nat) (n : Option Int) : (writeUnplaced s w c n).listen = s.listen := rfl
@[simp] theorem writeUnplaced_link (w : UnplacedWay) (c : Option Nat) (n : Option Int) : (writeUnplaced s w c n).link = s.link := rfl
@[simp] theorem writeUnplaced_peers (w : UnplacedWay) (c : Option Nat) (n : Option Int) : (writeUnplaced s w c n).peers = s.peers := rfl
@[simp] theorem writeUnplaced_claim (w : UnplacedWay) (c : Option Nat) (n : Option Int) : (writeUnplaced s w c n).claim = s.claim := rfl
@[simp] theorem writeUnplaced_travel (w : UnplacedWay) (c : Option Nat) (n : Option Int) : (writeUnplaced s w c n).travel = s.travel := rfl
@[simp] theorem writeUnplaced_halt (w : UnplacedWay) (c : Option Nat) (n : Option Int) : (writeUnplaced s w c n).halt = s.halt := rfl
@[simp] theorem writeUnplaced_weigher (w : UnplacedWay) (c : Option Nat) (n : Option Int) : (writeUnplaced s w c n).weigher = s.weigher := rfl
@[simp] theorem writeUnplaced_store (w : UnplacedWay) (c : Option Nat) (n : Option Int) : (writeUnplaced s w c n).store = s.store := rfl
@[simp] theorem writeUnplaced_bays (w : UnplacedWay) (c : Option Nat) (n : Option Int) : (writeUnplaced s w c n).bays = s.bays := rfl
@[simp] theorem writeUnplaced_port (w : UnplacedWay) (c : Option Nat) (n : Option Int) : (writeUnplaced s w c n).port = s.port := rfl
@[simp] theorem writeUnplaced_now (w : UnplacedWay) (c : Option Nat) (n : Option Int) : (writeUnplaced s w c n).now = s.now := rfl
@[simp] theorem writeUnplaced_scanDue (w : UnplacedWay) (c : Option Nat) (n : Option Int) : (writeUnplaced s w c n).scanDue = s.scanDue := rfl
@[simp] theorem writeUnplaced_pending (w : UnplacedWay) (c : Option Nat) (n : Option Int) : (writeUnplaced s w c n).pending = s.pending := rfl

/-! putTop -/

@[simp] theorem putTop_inputs (t : Task) : (putTop s t).inputs = s.inputs := rfl
@[simp] theorem putTop_record (t : Task) : (putTop s t).record = s.record := rfl
@[simp] theorem putTop_node (t : Task) : (putTop s t).node = s.node := rfl
@[simp] theorem putTop_listen (t : Task) : (putTop s t).listen = s.listen := rfl
@[simp] theorem putTop_link (t : Task) : (putTop s t).link = s.link := rfl
@[simp] theorem putTop_peers (t : Task) : (putTop s t).peers = s.peers := rfl
@[simp] theorem putTop_claim (t : Task) : (putTop s t).claim = s.claim := rfl
@[simp] theorem putTop_travel (t : Task) : (putTop s t).travel = s.travel := rfl
@[simp] theorem putTop_halt (t : Task) : (putTop s t).halt = s.halt := rfl
@[simp] theorem putTop_weigher (t : Task) : (putTop s t).weigher = s.weigher := rfl
@[simp] theorem putTop_store (t : Task) : (putTop s t).store = s.store := rfl
@[simp] theorem putTop_bays (t : Task) : (putTop s t).bays = s.bays := rfl
@[simp] theorem putTop_port (t : Task) : (putTop s t).port = s.port := rfl
@[simp] theorem putTop_now (t : Task) : (putTop s t).now = s.now := rfl
@[simp] theorem putTop_scanDue (t : Task) : (putTop s t).scanDue = s.scanDue := rfl
@[simp] theorem putTop_pending (t : Task) : (putTop s t).pending = s.pending := rfl

/-! addOutcome -/

@[simp] theorem addOutcome_inputs (o : TaskOutcome) : (addOutcome s o).inputs = s.inputs := rfl
@[simp] theorem addOutcome_record (o : TaskOutcome) : (addOutcome s o).record = s.record := rfl
@[simp] theorem addOutcome_node (o : TaskOutcome) : (addOutcome s o).node = s.node := rfl
@[simp] theorem addOutcome_listen (o : TaskOutcome) : (addOutcome s o).listen = s.listen := rfl
@[simp] theorem addOutcome_link (o : TaskOutcome) : (addOutcome s o).link = s.link := rfl
@[simp] theorem addOutcome_peers (o : TaskOutcome) : (addOutcome s o).peers = s.peers := rfl
@[simp] theorem addOutcome_claim (o : TaskOutcome) : (addOutcome s o).claim = s.claim := rfl
@[simp] theorem addOutcome_travel (o : TaskOutcome) : (addOutcome s o).travel = s.travel := rfl
@[simp] theorem addOutcome_halt (o : TaskOutcome) : (addOutcome s o).halt = s.halt := rfl
@[simp] theorem addOutcome_weigher (o : TaskOutcome) : (addOutcome s o).weigher = s.weigher := rfl
@[simp] theorem addOutcome_store (o : TaskOutcome) : (addOutcome s o).store = s.store := rfl
@[simp] theorem addOutcome_bays (o : TaskOutcome) : (addOutcome s o).bays = s.bays := rfl
@[simp] theorem addOutcome_port (o : TaskOutcome) : (addOutcome s o).port = s.port := rfl
@[simp] theorem addOutcome_now (o : TaskOutcome) : (addOutcome s o).now = s.now := rfl
@[simp] theorem addOutcome_scanDue (o : TaskOutcome) : (addOutcome s o).scanDue = s.scanDue := rfl
@[simp] theorem addOutcome_pending (o : TaskOutcome) : (addOutcome s o).pending = s.pending := rfl

/-! withClaim -/

@[simp] theorem withClaim_inputs (k : ClaimRecord) : (withClaim s k).inputs = s.inputs := rfl
@[simp] theorem withClaim_record (k : ClaimRecord) : (withClaim s k).record = s.record := rfl
@[simp] theorem withClaim_node (k : ClaimRecord) : (withClaim s k).node = s.node := rfl
@[simp] theorem withClaim_listen (k : ClaimRecord) : (withClaim s k).listen = s.listen := rfl
@[simp] theorem withClaim_link (k : ClaimRecord) : (withClaim s k).link = s.link := rfl
@[simp] theorem withClaim_peers (k : ClaimRecord) : (withClaim s k).peers = s.peers := rfl
@[simp] theorem withClaim_travel (k : ClaimRecord) : (withClaim s k).travel = s.travel := rfl
@[simp] theorem withClaim_halt (k : ClaimRecord) : (withClaim s k).halt = s.halt := rfl
@[simp] theorem withClaim_weigher (k : ClaimRecord) : (withClaim s k).weigher = s.weigher := rfl
@[simp] theorem withClaim_store (k : ClaimRecord) : (withClaim s k).store = s.store := rfl
@[simp] theorem withClaim_tasks (k : ClaimRecord) : (withClaim s k).tasks = s.tasks := rfl
@[simp] theorem withClaim_bays (k : ClaimRecord) : (withClaim s k).bays = s.bays := rfl
@[simp] theorem withClaim_port (k : ClaimRecord) : (withClaim s k).port = s.port := rfl
@[simp] theorem withClaim_now (k : ClaimRecord) : (withClaim s k).now = s.now := rfl
@[simp] theorem withClaim_scanDue (k : ClaimRecord) : (withClaim s k).scanDue = s.scanDue := rfl
@[simp] theorem withClaim_pending (k : ClaimRecord) : (withClaim s k).pending = s.pending := rfl

/-! setConfirmed -/

@[simp] theorem setConfirmed_inputs (k : Option Interval) : (setConfirmed s k).inputs = s.inputs := rfl
@[simp] theorem setConfirmed_record (k : Option Interval) : (setConfirmed s k).record = s.record := rfl
@[simp] theorem setConfirmed_node (k : Option Interval) : (setConfirmed s k).node = s.node := rfl
@[simp] theorem setConfirmed_listen (k : Option Interval) : (setConfirmed s k).listen = s.listen := rfl
@[simp] theorem setConfirmed_link (k : Option Interval) : (setConfirmed s k).link = s.link := rfl
@[simp] theorem setConfirmed_peers (k : Option Interval) : (setConfirmed s k).peers = s.peers := rfl
@[simp] theorem setConfirmed_travel (k : Option Interval) : (setConfirmed s k).travel = s.travel := rfl
@[simp] theorem setConfirmed_halt (k : Option Interval) : (setConfirmed s k).halt = s.halt := rfl
@[simp] theorem setConfirmed_weigher (k : Option Interval) : (setConfirmed s k).weigher = s.weigher := rfl
@[simp] theorem setConfirmed_store (k : Option Interval) : (setConfirmed s k).store = s.store := rfl
@[simp] theorem setConfirmed_tasks (k : Option Interval) : (setConfirmed s k).tasks = s.tasks := rfl
@[simp] theorem setConfirmed_bays (k : Option Interval) : (setConfirmed s k).bays = s.bays := rfl
@[simp] theorem setConfirmed_port (k : Option Interval) : (setConfirmed s k).port = s.port := rfl
@[simp] theorem setConfirmed_now (k : Option Interval) : (setConfirmed s k).now = s.now := rfl
@[simp] theorem setConfirmed_pending (k : Option Interval) : (setConfirmed s k).pending = s.pending := rfl

/-! judgeLine -/

@[simp] theorem judgeLine_inputs : (judgeLine s).inputs = s.inputs := rfl
@[simp] theorem judgeLine_record : (judgeLine s).record = s.record := rfl
@[simp] theorem judgeLine_node : (judgeLine s).node = s.node := rfl
@[simp] theorem judgeLine_listen : (judgeLine s).listen = s.listen := rfl
@[simp] theorem judgeLine_link : (judgeLine s).link = s.link := rfl
@[simp] theorem judgeLine_peers : (judgeLine s).peers = s.peers := rfl
@[simp] theorem judgeLine_claim : (judgeLine s).claim = s.claim := rfl
@[simp] theorem judgeLine_travel : (judgeLine s).travel = s.travel := rfl
@[simp] theorem judgeLine_weigher : (judgeLine s).weigher = s.weigher := rfl
@[simp] theorem judgeLine_store : (judgeLine s).store = s.store := rfl
@[simp] theorem judgeLine_tasks : (judgeLine s).tasks = s.tasks := rfl
@[simp] theorem judgeLine_bays : (judgeLine s).bays = s.bays := rfl
@[simp] theorem judgeLine_port : (judgeLine s).port = s.port := rfl
@[simp] theorem judgeLine_now : (judgeLine s).now = s.now := rfl
@[simp] theorem judgeLine_scanDue : (judgeLine s).scanDue = s.scanDue := rfl
@[simp] theorem judgeLine_pending : (judgeLine s).pending = s.pending := rfl

/-! clearReason -/

@[simp] theorem clearReason_inputs (r : HaltReason) : (clearReason s r).inputs = s.inputs := rfl
@[simp] theorem clearReason_record (r : HaltReason) : (clearReason s r).record = s.record := rfl
@[simp] theorem clearReason_node (r : HaltReason) : (clearReason s r).node = s.node := rfl
@[simp] theorem clearReason_listen (r : HaltReason) : (clearReason s r).listen = s.listen := rfl
@[simp] theorem clearReason_link (r : HaltReason) : (clearReason s r).link = s.link := rfl
@[simp] theorem clearReason_peers (r : HaltReason) : (clearReason s r).peers = s.peers := rfl
@[simp] theorem clearReason_claim (r : HaltReason) : (clearReason s r).claim = s.claim := rfl
@[simp] theorem clearReason_travel (r : HaltReason) : (clearReason s r).travel = s.travel := rfl
@[simp] theorem clearReason_weigher (r : HaltReason) : (clearReason s r).weigher = s.weigher := rfl
@[simp] theorem clearReason_store (r : HaltReason) : (clearReason s r).store = s.store := rfl
@[simp] theorem clearReason_tasks (r : HaltReason) : (clearReason s r).tasks = s.tasks := rfl
@[simp] theorem clearReason_bays (r : HaltReason) : (clearReason s r).bays = s.bays := rfl
@[simp] theorem clearReason_port (r : HaltReason) : (clearReason s r).port = s.port := rfl
@[simp] theorem clearReason_now (r : HaltReason) : (clearReason s r).now = s.now := rfl
@[simp] theorem clearReason_scanDue (r : HaltReason) : (clearReason s r).scanDue = s.scanDue := rfl
@[simp] theorem clearReason_pending (r : HaltReason) : (clearReason s r).pending = s.pending := rfl

/-! countCheckError -/

@[simp] theorem countCheckError_inputs : (countCheckError s).inputs = s.inputs := rfl
@[simp] theorem countCheckError_record : (countCheckError s).record = s.record := rfl
@[simp] theorem countCheckError_node : (countCheckError s).node = s.node := rfl
@[simp] theorem countCheckError_listen : (countCheckError s).listen = s.listen := rfl
@[simp] theorem countCheckError_peers : (countCheckError s).peers = s.peers := rfl
@[simp] theorem countCheckError_claim : (countCheckError s).claim = s.claim := rfl
@[simp] theorem countCheckError_travel : (countCheckError s).travel = s.travel := rfl
@[simp] theorem countCheckError_halt : (countCheckError s).halt = s.halt := rfl
@[simp] theorem countCheckError_weigher : (countCheckError s).weigher = s.weigher := rfl
@[simp] theorem countCheckError_store : (countCheckError s).store = s.store := rfl
@[simp] theorem countCheckError_tasks : (countCheckError s).tasks = s.tasks := rfl
@[simp] theorem countCheckError_bays : (countCheckError s).bays = s.bays := rfl
@[simp] theorem countCheckError_port : (countCheckError s).port = s.port := rfl
@[simp] theorem countCheckError_now : (countCheckError s).now = s.now := rfl
@[simp] theorem countCheckError_scanDue : (countCheckError s).scanDue = s.scanDue := rfl
@[simp] theorem countCheckError_pending : (countCheckError s).pending = s.pending := rfl

/-! countReceived -/

@[simp] theorem countReceived_inputs : (countReceived s).inputs = s.inputs := rfl
@[simp] theorem countReceived_record : (countReceived s).record = s.record := rfl
@[simp] theorem countReceived_node : (countReceived s).node = s.node := rfl
@[simp] theorem countReceived_listen : (countReceived s).listen = s.listen := rfl
@[simp] theorem countReceived_peers : (countReceived s).peers = s.peers := rfl
@[simp] theorem countReceived_claim : (countReceived s).claim = s.claim := rfl
@[simp] theorem countReceived_travel : (countReceived s).travel = s.travel := rfl
@[simp] theorem countReceived_halt : (countReceived s).halt = s.halt := rfl
@[simp] theorem countReceived_weigher : (countReceived s).weigher = s.weigher := rfl
@[simp] theorem countReceived_store : (countReceived s).store = s.store := rfl
@[simp] theorem countReceived_tasks : (countReceived s).tasks = s.tasks := rfl
@[simp] theorem countReceived_bays : (countReceived s).bays = s.bays := rfl
@[simp] theorem countReceived_port : (countReceived s).port = s.port := rfl
@[simp] theorem countReceived_now : (countReceived s).now = s.now := rfl
@[simp] theorem countReceived_scanDue : (countReceived s).scanDue = s.scanDue := rfl
@[simp] theorem countReceived_pending : (countReceived s).pending = s.pending := rfl

/-! withWeigher -/

@[simp] theorem withWeigher_inputs (w : Weigher) : (withWeigher s w).inputs = s.inputs := rfl
@[simp] theorem withWeigher_record (w : Weigher) : (withWeigher s w).record = s.record := rfl
@[simp] theorem withWeigher_node (w : Weigher) : (withWeigher s w).node = s.node := rfl
@[simp] theorem withWeigher_listen (w : Weigher) : (withWeigher s w).listen = s.listen := rfl
@[simp] theorem withWeigher_link (w : Weigher) : (withWeigher s w).link = s.link := rfl
@[simp] theorem withWeigher_peers (w : Weigher) : (withWeigher s w).peers = s.peers := rfl
@[simp] theorem withWeigher_claim (w : Weigher) : (withWeigher s w).claim = s.claim := rfl
@[simp] theorem withWeigher_travel (w : Weigher) : (withWeigher s w).travel = s.travel := rfl
@[simp] theorem withWeigher_halt (w : Weigher) : (withWeigher s w).halt = s.halt := rfl
@[simp] theorem withWeigher_store (w : Weigher) : (withWeigher s w).store = s.store := rfl
@[simp] theorem withWeigher_tasks (w : Weigher) : (withWeigher s w).tasks = s.tasks := rfl
@[simp] theorem withWeigher_bays (w : Weigher) : (withWeigher s w).bays = s.bays := rfl
@[simp] theorem withWeigher_port (w : Weigher) : (withWeigher s w).port = s.port := rfl
@[simp] theorem withWeigher_now (w : Weigher) : (withWeigher s w).now = s.now := rfl
@[simp] theorem withWeigher_scanDue (w : Weigher) : (withWeigher s w).scanDue = s.scanDue := rfl
@[simp] theorem withWeigher_pending (w : Weigher) : (withWeigher s w).pending = s.pending := rfl

/-! closeAttempt -/

@[simp] theorem closeAttempt_inputs (a : Attempt) : (closeAttempt s a).inputs = s.inputs := rfl
@[simp] theorem closeAttempt_record (a : Attempt) : (closeAttempt s a).record = s.record := rfl
@[simp] theorem closeAttempt_node (a : Attempt) : (closeAttempt s a).node = s.node := rfl
@[simp] theorem closeAttempt_listen (a : Attempt) : (closeAttempt s a).listen = s.listen := rfl
@[simp] theorem closeAttempt_peers (a : Attempt) : (closeAttempt s a).peers = s.peers := rfl
@[simp] theorem closeAttempt_claim (a : Attempt) : (closeAttempt s a).claim = s.claim := rfl
@[simp] theorem closeAttempt_travel (a : Attempt) : (closeAttempt s a).travel = s.travel := rfl
@[simp] theorem closeAttempt_halt (a : Attempt) : (closeAttempt s a).halt = s.halt := rfl
@[simp] theorem closeAttempt_weigher (a : Attempt) : (closeAttempt s a).weigher = s.weigher := rfl
@[simp] theorem closeAttempt_tasks (a : Attempt) : (closeAttempt s a).tasks = s.tasks := rfl
@[simp] theorem closeAttempt_bays (a : Attempt) : (closeAttempt s a).bays = s.bays := rfl
@[simp] theorem closeAttempt_port (a : Attempt) : (closeAttempt s a).port = s.port := rfl
@[simp] theorem closeAttempt_now (a : Attempt) : (closeAttempt s a).now = s.now := rfl
@[simp] theorem closeAttempt_scanDue (a : Attempt) : (closeAttempt s a).scanDue = s.scanDue := rfl
@[simp] theorem closeAttempt_pending (a : Attempt) : (closeAttempt s a).pending = s.pending := rfl

/-! restartHostTimer -/

@[simp] theorem restartHostTimer_inputs : (restartHostTimer s).inputs = s.inputs := by unfold restartHostTimer; split <;> rfl
@[simp] theorem restartHostTimer_record : (restartHostTimer s).record = s.record := by unfold restartHostTimer; split <;> rfl
@[simp] theorem restartHostTimer_node : (restartHostTimer s).node = s.node := by unfold restartHostTimer; split <;> rfl
@[simp] theorem restartHostTimer_listen : (restartHostTimer s).listen = s.listen := by unfold restartHostTimer; split <;> rfl
@[simp] theorem restartHostTimer_link : (restartHostTimer s).link = s.link := by unfold restartHostTimer; split <;> rfl
@[simp] theorem restartHostTimer_peers : (restartHostTimer s).peers = s.peers := by unfold restartHostTimer; split <;> rfl
@[simp] theorem restartHostTimer_claim : (restartHostTimer s).claim = s.claim := by unfold restartHostTimer; split <;> rfl
@[simp] theorem restartHostTimer_travel : (restartHostTimer s).travel = s.travel := by unfold restartHostTimer; split <;> rfl
@[simp] theorem restartHostTimer_halt : (restartHostTimer s).halt = s.halt := by unfold restartHostTimer; split <;> rfl
@[simp] theorem restartHostTimer_weigher : (restartHostTimer s).weigher = s.weigher := by unfold restartHostTimer; split <;> rfl
@[simp] theorem restartHostTimer_store : (restartHostTimer s).store = s.store := by unfold restartHostTimer; split <;> rfl
@[simp] theorem restartHostTimer_tasks : (restartHostTimer s).tasks = s.tasks := by unfold restartHostTimer; split <;> rfl
@[simp] theorem restartHostTimer_bays : (restartHostTimer s).bays = s.bays := by unfold restartHostTimer; split <;> rfl
@[simp] theorem restartHostTimer_now : (restartHostTimer s).now = s.now := by unfold restartHostTimer; split <;> rfl
@[simp] theorem restartHostTimer_scanDue : (restartHostTimer s).scanDue = s.scanDue := by unfold restartHostTimer; split <;> rfl
@[simp] theorem restartHostTimer_pending : (restartHostTimer s).pending = s.pending := by unfold restartHostTimer; split <;> rfl

/-! takeInHand -/

@[simp] theorem takeInHand_inputs (k t : Nat) : (takeInHand s k t).inputs = s.inputs := rfl
@[simp] theorem takeInHand_record (k t : Nat) : (takeInHand s k t).record = s.record := rfl
@[simp] theorem takeInHand_node (k t : Nat) : (takeInHand s k t).node = s.node := rfl
@[simp] theorem takeInHand_listen (k t : Nat) : (takeInHand s k t).listen = s.listen := rfl
@[simp] theorem takeInHand_link (k t : Nat) : (takeInHand s k t).link = s.link := rfl
@[simp] theorem takeInHand_peers (k t : Nat) : (takeInHand s k t).peers = s.peers := rfl
@[simp] theorem takeInHand_claim (k t : Nat) : (takeInHand s k t).claim = s.claim := rfl
@[simp] theorem takeInHand_travel (k t : Nat) : (takeInHand s k t).travel = s.travel := rfl
@[simp] theorem takeInHand_halt (k t : Nat) : (takeInHand s k t).halt = s.halt := rfl
@[simp] theorem takeInHand_weigher (k t : Nat) : (takeInHand s k t).weigher = s.weigher := rfl
@[simp] theorem takeInHand_store (k t : Nat) : (takeInHand s k t).store = s.store := rfl
@[simp] theorem takeInHand_tasks (k t : Nat) : (takeInHand s k t).tasks = s.tasks := rfl
@[simp] theorem takeInHand_bays (k t : Nat) : (takeInHand s k t).bays = s.bays := rfl
@[simp] theorem takeInHand_now (k t : Nat) : (takeInHand s k t).now = s.now := rfl
@[simp] theorem takeInHand_scanDue (k t : Nat) : (takeInHand s k t).scanDue = s.scanDue := rfl
@[simp] theorem takeInHand_pending (k t : Nat) : (takeInHand s k t).pending = s.pending := rfl

/-! framingError -/

@[simp] theorem framingError_inputs (r : Receiver) : (framingError s r).inputs = s.inputs := rfl
@[simp] theorem framingError_record (r : Receiver) : (framingError s r).record = s.record := rfl
@[simp] theorem framingError_node (r : Receiver) : (framingError s r).node = s.node := rfl
@[simp] theorem framingError_listen (r : Receiver) : (framingError s r).listen = s.listen := rfl
@[simp] theorem framingError_link (r : Receiver) : (framingError s r).link = s.link := rfl
@[simp] theorem framingError_peers (r : Receiver) : (framingError s r).peers = s.peers := rfl
@[simp] theorem framingError_claim (r : Receiver) : (framingError s r).claim = s.claim := rfl
@[simp] theorem framingError_travel (r : Receiver) : (framingError s r).travel = s.travel := rfl
@[simp] theorem framingError_halt (r : Receiver) : (framingError s r).halt = s.halt := rfl
@[simp] theorem framingError_weigher (r : Receiver) : (framingError s r).weigher = s.weigher := rfl
@[simp] theorem framingError_store (r : Receiver) : (framingError s r).store = s.store := rfl
@[simp] theorem framingError_tasks (r : Receiver) : (framingError s r).tasks = s.tasks := rfl
@[simp] theorem framingError_bays (r : Receiver) : (framingError s r).bays = s.bays := rfl
@[simp] theorem framingError_now (r : Receiver) : (framingError s r).now = s.now := rfl
@[simp] theorem framingError_scanDue (r : Receiver) : (framingError s r).scanDue = s.scanDue := rfl
@[simp] theorem framingError_pending (r : Receiver) : (framingError s r).pending = s.pending := rfl

/-! clearReturned -/

@[simp] theorem clearReturned_inputs : (clearReturned s).inputs = s.inputs := rfl
@[simp] theorem clearReturned_record : (clearReturned s).record = s.record := rfl
@[simp] theorem clearReturned_node : (clearReturned s).node = s.node := rfl
@[simp] theorem clearReturned_listen : (clearReturned s).listen = s.listen := rfl
@[simp] theorem clearReturned_link : (clearReturned s).link = s.link := rfl
@[simp] theorem clearReturned_peers : (clearReturned s).peers = s.peers := rfl
@[simp] theorem clearReturned_claim : (clearReturned s).claim = s.claim := rfl
@[simp] theorem clearReturned_travel : (clearReturned s).travel = s.travel := rfl
@[simp] theorem clearReturned_halt : (clearReturned s).halt = s.halt := rfl
@[simp] theorem clearReturned_weigher : (clearReturned s).weigher = s.weigher := rfl
@[simp] theorem clearReturned_store : (clearReturned s).store = s.store := rfl
@[simp] theorem clearReturned_tasks : (clearReturned s).tasks = s.tasks := rfl
@[simp] theorem clearReturned_bays : (clearReturned s).bays = s.bays := rfl
@[simp] theorem clearReturned_now : (clearReturned s).now = s.now := rfl
@[simp] theorem clearReturned_scanDue : (clearReturned s).scanDue = s.scanDue := rfl
@[simp] theorem clearReturned_pending : (clearReturned s).pending = s.pending := rfl

/-! withInputs -/

@[simp] theorem withInputs_record (i : Inputs) : (withInputs s i).record = s.record := rfl
@[simp] theorem withInputs_node (i : Inputs) : (withInputs s i).node = s.node := rfl
@[simp] theorem withInputs_listen (i : Inputs) : (withInputs s i).listen = s.listen := rfl
@[simp] theorem withInputs_link (i : Inputs) : (withInputs s i).link = s.link := rfl
@[simp] theorem withInputs_peers (i : Inputs) : (withInputs s i).peers = s.peers := rfl
@[simp] theorem withInputs_claim (i : Inputs) : (withInputs s i).claim = s.claim := rfl
@[simp] theorem withInputs_travel (i : Inputs) : (withInputs s i).travel = s.travel := rfl
@[simp] theorem withInputs_halt (i : Inputs) : (withInputs s i).halt = s.halt := rfl
@[simp] theorem withInputs_weigher (i : Inputs) : (withInputs s i).weigher = s.weigher := rfl
@[simp] theorem withInputs_store (i : Inputs) : (withInputs s i).store = s.store := rfl
@[simp] theorem withInputs_tasks (i : Inputs) : (withInputs s i).tasks = s.tasks := rfl
@[simp] theorem withInputs_bays (i : Inputs) : (withInputs s i).bays = s.bays := rfl
@[simp] theorem withInputs_port (i : Inputs) : (withInputs s i).port = s.port := rfl
@[simp] theorem withInputs_now (i : Inputs) : (withInputs s i).now = s.now := rfl
@[simp] theorem withInputs_scanDue (i : Inputs) : (withInputs s i).scanDue = s.scanDue := rfl
@[simp] theorem withInputs_pending (i : Inputs) : (withInputs s i).pending = s.pending := rfl

/-! enterHolding -/

@[simp] theorem enterHolding_inputs (a : Axis) : (enterHolding s a).inputs = s.inputs := by cases a <;> rfl
@[simp] theorem enterHolding_record (a : Axis) : (enterHolding s a).record = s.record := by cases a <;> rfl
@[simp] theorem enterHolding_node (a : Axis) : (enterHolding s a).node = s.node := by cases a <;> rfl
@[simp] theorem enterHolding_listen (a : Axis) : (enterHolding s a).listen = s.listen := by cases a <;> rfl
@[simp] theorem enterHolding_link (a : Axis) : (enterHolding s a).link = s.link := by cases a <;> rfl
@[simp] theorem enterHolding_peers (a : Axis) : (enterHolding s a).peers = s.peers := by cases a <;> rfl
@[simp] theorem enterHolding_claim (a : Axis) : (enterHolding s a).claim = s.claim := by cases a <;> rfl
@[simp] theorem enterHolding_halt (a : Axis) : (enterHolding s a).halt = s.halt := by cases a <;> rfl
@[simp] theorem enterHolding_weigher (a : Axis) : (enterHolding s a).weigher = s.weigher := by cases a <;> rfl
@[simp] theorem enterHolding_store (a : Axis) : (enterHolding s a).store = s.store := by cases a <;> rfl
@[simp] theorem enterHolding_tasks (a : Axis) : (enterHolding s a).tasks = s.tasks := by cases a <;> rfl
@[simp] theorem enterHolding_bays (a : Axis) : (enterHolding s a).bays = s.bays := by cases a <;> rfl
@[simp] theorem enterHolding_port (a : Axis) : (enterHolding s a).port = s.port := by cases a <;> rfl
@[simp] theorem enterHolding_now (a : Axis) : (enterHolding s a).now = s.now := by cases a <;> rfl
@[simp] theorem enterHolding_scanDue (a : Axis) : (enterHolding s a).scanDue = s.scanDue := by cases a <;> rfl
@[simp] theorem enterHolding_pending (a : Axis) : (enterHolding s a).pending = s.pending := by cases a <;> rfl

/-! enterParked -/

@[simp] theorem enterParked_inputs (a : Axis) : (enterParked s a).inputs = s.inputs := by cases a <;> rfl
@[simp] theorem enterParked_record (a : Axis) : (enterParked s a).record = s.record := by cases a <;> rfl
@[simp] theorem enterParked_node (a : Axis) : (enterParked s a).node = s.node := by cases a <;> rfl
@[simp] theorem enterParked_listen (a : Axis) : (enterParked s a).listen = s.listen := by cases a <;> rfl
@[simp] theorem enterParked_link (a : Axis) : (enterParked s a).link = s.link := by cases a <;> rfl
@[simp] theorem enterParked_peers (a : Axis) : (enterParked s a).peers = s.peers := by cases a <;> rfl
@[simp] theorem enterParked_claim (a : Axis) : (enterParked s a).claim = s.claim := by cases a <;> rfl
@[simp] theorem enterParked_halt (a : Axis) : (enterParked s a).halt = s.halt := by cases a <;> rfl
@[simp] theorem enterParked_weigher (a : Axis) : (enterParked s a).weigher = s.weigher := by cases a <;> rfl
@[simp] theorem enterParked_store (a : Axis) : (enterParked s a).store = s.store := by cases a <;> rfl
@[simp] theorem enterParked_tasks (a : Axis) : (enterParked s a).tasks = s.tasks := by cases a <;> rfl
@[simp] theorem enterParked_bays (a : Axis) : (enterParked s a).bays = s.bays := by cases a <;> rfl
@[simp] theorem enterParked_port (a : Axis) : (enterParked s a).port = s.port := by cases a <;> rfl
@[simp] theorem enterParked_now (a : Axis) : (enterParked s a).now = s.now := by cases a <;> rfl
@[simp] theorem enterParked_scanDue (a : Axis) : (enterParked s a).scanDue = s.scanDue := by cases a <;> rfl
@[simp] theorem enterParked_pending (a : Axis) : (enterParked s a).pending = s.pending := by cases a <;> rfl

/-! enterMoving -/

@[simp] theorem enterMoving_inputs (a : Axis) : (enterMoving s a).inputs = s.inputs := by cases a <;> rfl
@[simp] theorem enterMoving_record (a : Axis) : (enterMoving s a).record = s.record := by cases a <;> rfl
@[simp] theorem enterMoving_node (a : Axis) : (enterMoving s a).node = s.node := by cases a <;> rfl
@[simp] theorem enterMoving_listen (a : Axis) : (enterMoving s a).listen = s.listen := by cases a <;> rfl
@[simp] theorem enterMoving_link (a : Axis) : (enterMoving s a).link = s.link := by cases a <;> rfl
@[simp] theorem enterMoving_peers (a : Axis) : (enterMoving s a).peers = s.peers := by cases a <;> rfl
@[simp] theorem enterMoving_claim (a : Axis) : (enterMoving s a).claim = s.claim := by cases a <;> rfl
@[simp] theorem enterMoving_halt (a : Axis) : (enterMoving s a).halt = s.halt := by cases a <;> rfl
@[simp] theorem enterMoving_weigher (a : Axis) : (enterMoving s a).weigher = s.weigher := by cases a <;> rfl
@[simp] theorem enterMoving_store (a : Axis) : (enterMoving s a).store = s.store := by cases a <;> rfl
@[simp] theorem enterMoving_tasks (a : Axis) : (enterMoving s a).tasks = s.tasks := by cases a <;> rfl
@[simp] theorem enterMoving_bays (a : Axis) : (enterMoving s a).bays = s.bays := by cases a <;> rfl
@[simp] theorem enterMoving_port (a : Axis) : (enterMoving s a).port = s.port := by cases a <;> rfl
@[simp] theorem enterMoving_now (a : Axis) : (enterMoving s a).now = s.now := by cases a <;> rfl
@[simp] theorem enterMoving_scanDue (a : Axis) : (enterMoving s a).scanDue = s.scanDue := by cases a <;> rfl
@[simp] theorem enterMoving_pending (a : Axis) : (enterMoving s a).pending = s.pending := by cases a <;> rfl

/-! ## What the updates write -/

@[simp] theorem elapse_now (d : Nat) : (elapse s d).now = max s.now d := rfl
@[simp] theorem scanLater_scanDue : (scanLater s).scanDue = true := rfl
@[simp] theorem withClaim_claim (k : ClaimRecord) : (withClaim s k).claim = k := rfl
@[simp] theorem withWeigher_weigher (w : Weigher) : (withWeigher s w).weigher = w := rfl
@[simp] theorem withInputs_inputs (i : Inputs) : (withInputs s i).inputs = i := rfl
@[simp] theorem withHookCoil_hookCoil (k : Option HookCoil) : (withHookCoil s k).tasks.hookCoil = k := rfl
@[simp] theorem withHookCoil_nest (k : Option HookCoil) : (withHookCoil s k).tasks.nest = s.tasks.nest := rfl
@[simp] theorem withLoose_loose (b : Bool) : (withLoose s b).tasks.loose = b := rfl
@[simp] theorem withLoose_nest (b : Bool) : (withLoose s b).tasks.nest = s.tasks.nest := rfl
@[simp] theorem transmit_transmit (f : PortFrame) : (transmit s f).port.transmit = s.port.transmit ++ [f] := rfl
@[simp] theorem transmit_inHand (f : PortFrame) : (transmit s f).port.inHand = s.port.inHand := rfl
@[simp] theorem transmit_events (f : PortFrame) : (transmit s f).port.events = s.port.events := rfl
@[simp] theorem takeInHand_inHand (k t : Nat) : (takeInHand s k t).port.inHand = some (k, t) := rfl
@[simp] theorem takeInHand_transmit (k t : Nat) : (takeInHand s k t).port.transmit = s.port.transmit := rfl
@[simp] theorem raiseEvent_transmit (d : Detail) : (raiseEvent s d).port.transmit = s.port.transmit := rfl
@[simp] theorem raiseEvent_inHand (d : Detail) : (raiseEvent s d).port.inHand = s.port.inHand := rfl
@[simp] theorem raiseEvent_mask (d : Detail) : (raiseEvent s d).port.mask = s.port.mask := rfl
@[simp] theorem raiseEvent_receiver (d : Detail) : (raiseEvent s d).port.receiver = s.port.receiver := rfl
@[simp] theorem raiseEvent_framing (d : Detail) : (raiseEvent s d).port.framing = s.port.framing := rfl
@[simp] theorem raiseEvent_overrun (d : Detail) : (raiseEvent s d).port.overrun = s.port.overrun := rfl
@[simp] theorem raiseEvent_hostTimer (d : Detail) : (raiseEvent s d).port.hostTimer = s.port.hostTimer := rfl
@[simp] theorem judgeLine_reasons : (judgeLine s).halt.reasons = s.halt.reasons := rfl
@[simp] theorem judgeLine_drives : (judgeLine s).halt.drives = driveDue s := rfl
@[simp] theorem judgeLine_asserted : (judgeLine s).halt.asserted = lineDue s := rfl

/-! ## Axes -/

@[simp] theorem withAxis_axis (a : Axis) (r : AxisRecord) : (s.withAxis a r).axis a = r := by cases a <;> rfl

@[simp] theorem withAxis_bridge_trolley (r : AxisRecord) : (s.withAxis .bridge r).axis .trolley = s.axis .trolley := rfl

@[simp] theorem withAxis_trolley_bridge (r : AxisRecord) : (s.withAxis .trolley r).axis .bridge = s.axis .bridge := rfl

theorem withAxis_other {a b : Axis} (h : b ≠ a) (r : AxisRecord) : (s.withAxis a r).axis b = s.axis b := by
  cases a <;> cases b <;> first | rfl | exact absurd rfl h

@[simp] theorem withAxis_hoist (a : Axis) (r : AxisRecord) : (s.withAxis a r).travel.hoist = s.travel.hoist := by
  cases a <;> rfl

/-! ## Ranks and bays -/

/-- The record written for a rank of 1..8 is the one read. -/
theorem putPeer_same (t : PeerTable) {r : Nat} (p : PeerRecord) (h : 1 ≤ r ∧ r ≤ 8) : peerAt (putPeer t r p) r = p := by
  obtain ⟨h1, h8⟩ := h
  interval_cases r <;> rfl

/-- A record written for one rank leaves every other rank's. -/
theorem putPeer_other (t : PeerTable) {r q : Nat} (p : PeerRecord) (h : q ≠ r) : peerAt (putPeer t r p) q = peerAt t q := by
  unfold putPeer
  split <;> (unfold peerAt; split <;> first | rfl | exact absurd rfl h)

theorem withPeer_peer {r : Nat} (p : PeerRecord) (h : 1 ≤ r ∧ r ≤ 8) : (s.withPeer r p).peer r = p :=
  putPeer_same _ p h

theorem withPeer_other {r q : Nat} (p : PeerRecord) (h : q ≠ r) : (s.withPeer r p).peer q = s.peer q :=
  putPeer_other _ p h

/-- The record written for a bay of 0..3 is the one read. -/
theorem putBay_same (t : Bays) {b : Nat} (r : BayRecord) (h : b ≤ 3) : bayAt (putBay t b r) b = r := by
  interval_cases b <;> rfl

/-- A record written for one bay leaves every other bay's. -/
theorem putBay_other (t : Bays) {b c : Nat} (r : BayRecord) (h : c ≠ b) : bayAt (putBay t b r) c = bayAt t c := by
  unfold putBay
  split <;> (unfold bayAt; split <;> first | rfl | exact absurd rfl h)

theorem withBay_bay {b : Nat} (r : BayRecord) (h : b ≤ 3) : (s.withBay b r).bay b = r := putBay_same _ r h

theorem withBay_other {b c : Nat} (r : BayRecord) (h : c ≠ b) : (s.withBay b r).bay c = s.bay c := putBay_other _ r h

end Sys2Proof.Machine
end

