-- ==== Sys2Proof/Laws/Effects.lean ====
section
/-! SUPPORT. What the shared operations leave as it was: for each, the fields of the state that no run of it changes. -/

namespace Sys2Proof.Machine

variable (s : State)

/-! ## Query scans -/

/-- R143: clearing spent flags changes the row table alone. -/
theorem clearSpent_store : ∃ rows, clearSpent s = { s with store := { s.store with rows := rows } } := by
  unfold clearSpent
  generalize List.range s.conf.rows = l
  suffices h : ∀ t : State, (∃ rows, t = { s with store := { s.store with rows := rows } }) →
      ∃ rows, l.foldl (fun t r => if (rowAt t r).spent && !rowCovered t r then
        putRow t r { rowAt t r with spent := false } else t) t = { s with store := { s.store with rows := rows } } from
    h s ⟨_, rfl⟩
  induction l with
  | nil => exact fun t h => h
  | cons r l ih =>
    rintro t ⟨rows, rfl⟩
    refine ih _ ?_
    dsimp only
    split <;> exact ⟨_, rfl⟩

@[simp] theorem clearSpent_keeps :
    (clearSpent s).inputs = s.inputs ∧ (clearSpent s).record = s.record ∧ (clearSpent s).node = s.node ∧
    (clearSpent s).listen = s.listen ∧ (clearSpent s).link = s.link ∧ (clearSpent s).peers = s.peers ∧
    (clearSpent s).claim = s.claim ∧ (clearSpent s).travel = s.travel ∧ (clearSpent s).halt = s.halt ∧
    (clearSpent s).weigher = s.weigher ∧ (clearSpent s).tasks = s.tasks ∧ (clearSpent s).bays = s.bays ∧
    (clearSpent s).port = s.port ∧ (clearSpent s).now = s.now ∧ (clearSpent s).scanDue = s.scanDue ∧
    (clearSpent s).pending = s.pending ∧ (clearSpent s).store.slots = s.store.slots ∧
    (clearSpent s).store.outbox = s.store.outbox ∧ (clearSpent s).store.plan = s.store.plan ∧
    (clearSpent s).store.query = s.store.query ∧ (clearSpent s).store.counter = s.store.counter := by
  obtain ⟨rows, h⟩ := clearSpent_store s
  simp [h]

@[simp] theorem offer_keeps (c : Content) :
    (offer s c).link.attempt = s.link.attempt ∧ (offer s c).link.seq = s.link.seq ∧
    (offer s c).link.counters = s.link.counters ∧ (offer s c).link.reportTimer = s.link.reportTimer := by
  unfold offer enqueue
  repeat' split
  all_goals simp [*]

@[simp] theorem queryScan_keeps :
    (queryScan s).inputs = s.inputs ∧ (queryScan s).record = s.record ∧ (queryScan s).node = s.node ∧
    (queryScan s).listen = s.listen ∧ (queryScan s).peers = s.peers ∧ (queryScan s).claim = s.claim ∧
    (queryScan s).travel = s.travel ∧ (queryScan s).halt = s.halt ∧ (queryScan s).weigher = s.weigher ∧
    (queryScan s).tasks = s.tasks ∧ (queryScan s).bays = s.bays ∧ (queryScan s).port = s.port ∧
    (queryScan s).now = s.now ∧ (queryScan s).scanDue = s.scanDue ∧ (queryScan s).pending = s.pending ∧
    (queryScan s).store.slots = s.store.slots ∧ (queryScan s).store.outbox = s.store.outbox ∧
    (queryScan s).store.plan = s.store.plan ∧ (queryScan s).link.attempt = s.link.attempt ∧
    (queryScan s).link.seq = s.link.seq ∧ (queryScan s).link.counters = s.link.counters ∧
    (queryScan s).link.reportTimer = s.link.reportTimer := by
  unfold queryScan
  try dsimp only
  repeat' split
  all_goals simp [*]

@[simp] theorem finish_keeps :
    (finish s).inputs = s.inputs ∧ (finish s).record = s.record ∧ (finish s).node = s.node ∧
    (finish s).listen = s.listen ∧ (finish s).peers = s.peers ∧ (finish s).claim = s.claim ∧
    (finish s).travel = s.travel ∧ (finish s).halt = s.halt ∧ (finish s).weigher = s.weigher ∧
    (finish s).tasks = s.tasks ∧ (finish s).bays = s.bays ∧ (finish s).port = s.port ∧ (finish s).now = s.now ∧
    (finish s).pending = s.pending ∧ (finish s).store.slots = s.store.slots ∧
    (finish s).store.outbox = s.store.outbox ∧ (finish s).store.plan = s.store.plan ∧
    (finish s).link.attempt = s.link.attempt ∧ (finish s).link.seq = s.link.seq ∧
    (finish s).link.counters = s.link.counters ∧ (finish s).link.reportTimer = s.link.reportTimer := by
  unfold finish
  try dsimp only
  repeat' split
  all_goals simp [*]

theorem finish_settled (h : s.scanDue = false) : finish s = s := by simp [finish, h]

@[simp] theorem finish_scanDue : (finish s).scanDue = false := by
  unfold finish
  split
  · simp
  · simp_all

/-! ## The claim -/

@[simp] theorem startRetry_keeps :
    (startRetry s).inputs = s.inputs ∧ (startRetry s).record = s.record ∧ (startRetry s).node = s.node ∧
    (startRetry s).listen = s.listen ∧ (startRetry s).link = s.link ∧ (startRetry s).peers = s.peers ∧
    (startRetry s).travel = s.travel ∧ (startRetry s).halt = s.halt ∧ (startRetry s).weigher = s.weigher ∧
    (startRetry s).store = s.store ∧ (startRetry s).tasks = s.tasks ∧ (startRetry s).bays = s.bays ∧
    (startRetry s).port = s.port ∧ (startRetry s).now = s.now ∧ (startRetry s).scanDue = s.scanDue ∧
    (startRetry s).pending = s.pending ∧ (startRetry s).claim.confirmed = s.claim.confirmed ∧
    (startRetry s).claim.joinWindow = s.claim.joinWindow ∧ (startRetry s).claim.pending = s.claim.pending ∧
    (startRetry s).claim.wanted = s.claim.wanted ∧ (startRetry s).claim.shrink = s.claim.shrink := by
  simp [startRetry]

@[simp] theorem retryIfWanted_keeps :
    (retryIfWanted s).inputs = s.inputs ∧ (retryIfWanted s).record = s.record ∧ (retryIfWanted s).node = s.node ∧
    (retryIfWanted s).listen = s.listen ∧ (retryIfWanted s).link = s.link ∧ (retryIfWanted s).peers = s.peers ∧
    (retryIfWanted s).travel = s.travel ∧ (retryIfWanted s).halt = s.halt ∧ (retryIfWanted s).weigher = s.weigher ∧
    (retryIfWanted s).store = s.store ∧ (retryIfWanted s).tasks = s.tasks ∧ (retryIfWanted s).bays = s.bays ∧
    (retryIfWanted s).port = s.port ∧ (retryIfWanted s).now = s.now ∧ (retryIfWanted s).scanDue = s.scanDue ∧
    (retryIfWanted s).pending = s.pending ∧ (retryIfWanted s).claim.confirmed = s.claim.confirmed ∧
    (retryIfWanted s).claim.joinWindow = s.claim.joinWindow ∧ (retryIfWanted s).claim.pending = s.claim.pending ∧
    (retryIfWanted s).claim.wanted = s.claim.wanted ∧ (retryIfWanted s).claim.shrink = s.claim.shrink := by
  unfold retryIfWanted
  try dsimp only
  repeat' split
  all_goals simp [*]

@[simp] theorem clearWanted_keeps :
    (clearWanted s).inputs = s.inputs ∧ (clearWanted s).record = s.record ∧ (clearWanted s).node = s.node ∧
    (clearWanted s).listen = s.listen ∧ (clearWanted s).link = s.link ∧ (clearWanted s).peers = s.peers ∧
    (clearWanted s).travel = s.travel ∧ (clearWanted s).halt = s.halt ∧ (clearWanted s).weigher = s.weigher ∧
    (clearWanted s).store = s.store ∧ (clearWanted s).tasks = s.tasks ∧ (clearWanted s).bays = s.bays ∧
    (clearWanted s).port = s.port ∧ (clearWanted s).now = s.now ∧ (clearWanted s).scanDue = s.scanDue ∧
    (clearWanted s).pending = s.pending ∧ (clearWanted s).claim.confirmed = s.claim.confirmed ∧
    (clearWanted s).claim.joinWindow = s.claim.joinWindow ∧ (clearWanted s).claim.pending = s.claim.pending ∧
    (clearWanted s).claim.shrink = s.claim.shrink := by
  simp [clearWanted]

@[simp] theorem claimEvent_keeps (o : ClaimOutcome) :
    (claimEvent s o).inputs = s.inputs ∧ (claimEvent s o).record = s.record ∧ (claimEvent s o).node = s.node ∧
    (claimEvent s o).listen = s.listen ∧ (claimEvent s o).link = s.link ∧ (claimEvent s o).peers = s.peers ∧
    (claimEvent s o).claim = s.claim ∧ (claimEvent s o).travel = s.travel ∧ (claimEvent s o).halt = s.halt ∧
    (claimEvent s o).weigher = s.weigher ∧ (claimEvent s o).store = s.store ∧ (claimEvent s o).tasks = s.tasks ∧
    (claimEvent s o).bays = s.bays ∧ (claimEvent s o).now = s.now ∧ (claimEvent s o).scanDue = s.scanDue ∧
    (claimEvent s o).pending = s.pending ∧ (claimEvent s o).port.receiver = s.port.receiver ∧
    (claimEvent s o).port.inHand = s.port.inHand ∧ (claimEvent s o).port.transmit = s.port.transmit ∧
    (claimEvent s o).port.framing = s.port.framing ∧ (claimEvent s o).port.overrun = s.port.overrun ∧
    (claimEvent s o).port.mask = s.port.mask ∧ (claimEvent s o).port.hostTimer = s.port.hostTimer := by
  simp [claimEvent]

@[simp] theorem proposeEdge_keeps (k : Interval) (d : Side) (e : Int) :
    (proposeEdge s k d e).inputs = s.inputs ∧ (proposeEdge s k d e).record = s.record ∧
    (proposeEdge s k d e).node = s.node ∧ (proposeEdge s k d e).listen = s.listen ∧
    (proposeEdge s k d e).peers = s.peers ∧ (proposeEdge s k d e).travel = s.travel ∧
    (proposeEdge s k d e).halt = s.halt ∧ (proposeEdge s k d e).weigher = s.weigher ∧
    (proposeEdge s k d e).store = s.store ∧ (proposeEdge s k d e).tasks = s.tasks ∧
    (proposeEdge s k d e).bays = s.bays ∧ (proposeEdge s k d e).port = s.port ∧ (proposeEdge s k d e).now = s.now ∧
    (proposeEdge s k d e).scanDue = s.scanDue ∧ (proposeEdge s k d e).pending = s.pending ∧
    (proposeEdge s k d e).claim.confirmed = s.claim.confirmed ∧
    (proposeEdge s k d e).claim.joinWindow = s.claim.joinWindow ∧
    (proposeEdge s k d e).claim.wanted = s.claim.wanted ∧ (proposeEdge s k d e).claim.shrink = s.claim.shrink ∧
    (proposeEdge s k d e).link.attempt = s.link.attempt ∧ (proposeEdge s k d e).link.seq = s.link.seq ∧
    (proposeEdge s k d e).link.counters = s.link.counters ∧
    (proposeEdge s k d e).link.reportTimer = s.link.reportTimer := by
  unfold proposeEdge
  try dsimp only
  repeat' split
  all_goals simp [*]

@[simp] theorem extensionAttempt_keeps :
    (extensionAttempt s).inputs = s.inputs ∧ (extensionAttempt s).record = s.record ∧
    (extensionAttempt s).node = s.node ∧ (extensionAttempt s).listen = s.listen ∧
    (extensionAttempt s).peers = s.peers ∧ (extensionAttempt s).travel = s.travel ∧
    (extensionAttempt s).halt = s.halt ∧ (extensionAttempt s).weigher = s.weigher ∧
    (extensionAttempt s).store = s.store ∧ (extensionAttempt s).tasks = s.tasks ∧ (extensionAttempt s).bays = s.bays ∧
    (extensionAttempt s).port = s.port ∧ (extensionAttempt s).now = s.now ∧ (extensionAttempt s).scanDue = s.scanDue ∧
    (extensionAttempt s).pending = s.pending ∧ (extensionAttempt s).claim.confirmed = s.claim.confirmed ∧
    (extensionAttempt s).claim.joinWindow = s.claim.joinWindow ∧ (extensionAttempt s).claim.wanted = s.claim.wanted ∧
    (extensionAttempt s).claim.shrink = s.claim.shrink ∧ (extensionAttempt s).link.attempt = s.link.attempt ∧
    (extensionAttempt s).link.seq = s.link.seq ∧ (extensionAttempt s).link.counters = s.link.counters ∧
    (extensionAttempt s).link.reportTimer = s.link.reportTimer := by
  unfold extensionAttempt
  dsimp only
  repeat' split
  all_goals simp [*]

@[simp] theorem reportMove_keeps (x : Int) :
    (reportMove s x).inputs = s.inputs ∧ (reportMove s x).record = s.record ∧ (reportMove s x).node = s.node ∧
    (reportMove s x).listen = s.listen ∧ (reportMove s x).peers = s.peers ∧ (reportMove s x).travel = s.travel ∧
    (reportMove s x).halt = s.halt ∧ (reportMove s x).weigher = s.weigher ∧ (reportMove s x).store = s.store ∧
    (reportMove s x).tasks = s.tasks ∧ (reportMove s x).bays = s.bays ∧ (reportMove s x).port = s.port ∧
    (reportMove s x).now = s.now ∧ (reportMove s x).scanDue = s.scanDue ∧ (reportMove s x).pending = s.pending ∧
    (reportMove s x).claim.confirmed = s.claim.confirmed ∧ (reportMove s x).claim.joinWindow = s.claim.joinWindow ∧
    (reportMove s x).link.attempt = s.link.attempt ∧ (reportMove s x).link.seq = s.link.seq ∧
    (reportMove s x).link.counters = s.link.counters ∧ (reportMove s x).link.reportTimer = s.link.reportTimer := by
  unfold reportMove
  try dsimp only
  repeat' split
  all_goals simp [*]

@[simp] theorem abandonPending_keeps :
    (abandonPending s).inputs = s.inputs ∧ (abandonPending s).record = s.record ∧ (abandonPending s).node = s.node ∧
    (abandonPending s).listen = s.listen ∧ (abandonPending s).peers = s.peers ∧ (abandonPending s).travel = s.travel ∧
    (abandonPending s).halt = s.halt ∧ (abandonPending s).weigher = s.weigher ∧ (abandonPending s).store = s.store ∧
    (abandonPending s).tasks = s.tasks ∧ (abandonPending s).bays = s.bays ∧ (abandonPending s).now = s.now ∧
    (abandonPending s).scanDue = s.scanDue ∧ (abandonPending s).pending = s.pending ∧
    (abandonPending s).claim.confirmed = s.claim.confirmed ∧
    (abandonPending s).claim.joinWindow = s.claim.joinWindow ∧ (abandonPending s).claim.wanted = s.claim.wanted ∧
    (abandonPending s).claim.retry = s.claim.retry ∧ (abandonPending s).claim.shrink = s.claim.shrink ∧
    (abandonPending s).link.attempt = s.link.attempt ∧ (abandonPending s).link.seq = s.link.seq ∧
    (abandonPending s).link.counters = s.link.counters ∧ (abandonPending s).link.reportTimer = s.link.reportTimer ∧
    (abandonPending s).port.receiver = s.port.receiver ∧ (abandonPending s).port.inHand = s.port.inHand ∧
    (abandonPending s).port.transmit = s.port.transmit ∧ (abandonPending s).port.framing = s.port.framing ∧
    (abandonPending s).port.overrun = s.port.overrun ∧ (abandonPending s).port.mask = s.port.mask ∧
    (abandonPending s).port.hostTimer = s.port.hostTimer := by
  unfold abandonPending withdrawClaimFrame
  repeat' split
  all_goals simp [*, withdraw]

@[simp] theorem shrink_keeps :
    (shrink s).inputs = s.inputs ∧ (shrink s).record = s.record ∧ (shrink s).node = s.node ∧
    (shrink s).listen = s.listen ∧ (shrink s).peers = s.peers ∧ (shrink s).travel = s.travel ∧
    (shrink s).halt = s.halt ∧ (shrink s).weigher = s.weigher ∧ (shrink s).store = s.store ∧
    (shrink s).tasks = s.tasks ∧ (shrink s).bays = s.bays ∧ (shrink s).now = s.now ∧ (shrink s).pending = s.pending ∧
    (shrink s).claim.joinWindow = s.claim.joinWindow ∧ (shrink s).claim.wanted = s.claim.wanted ∧
    (shrink s).claim.retry = s.claim.retry ∧ (shrink s).claim.shrink = s.claim.shrink ∧
    (shrink s).link.attempt = s.link.attempt ∧ (shrink s).link.seq = s.link.seq ∧
    (shrink s).link.counters = s.link.counters ∧ (shrink s).link.reportTimer = s.link.reportTimer ∧
    (shrink s).port.receiver = s.port.receiver ∧ (shrink s).port.inHand = s.port.inHand ∧
    (shrink s).port.transmit = s.port.transmit ∧ (shrink s).port.framing = s.port.framing ∧
    (shrink s).port.overrun = s.port.overrun ∧ (shrink s).port.mask = s.port.mask ∧
    (shrink s).port.hostTimer = s.port.hostTimer := by
  unfold shrink setConfirmed scanLater
  dsimp only
  repeat' split
  all_goals simp [*]

@[simp] theorem shrinkIfIdle_keeps :
    (shrinkIfIdle s).inputs = s.inputs ∧ (shrinkIfIdle s).record = s.record ∧ (shrinkIfIdle s).node = s.node ∧
    (shrinkIfIdle s).listen = s.listen ∧ (shrinkIfIdle s).peers = s.peers ∧ (shrinkIfIdle s).travel = s.travel ∧
    (shrinkIfIdle s).halt = s.halt ∧ (shrinkIfIdle s).weigher = s.weigher ∧ (shrinkIfIdle s).store = s.store ∧
    (shrinkIfIdle s).tasks = s.tasks ∧ (shrinkIfIdle s).bays = s.bays ∧ (shrinkIfIdle s).now = s.now ∧
    (shrinkIfIdle s).pending = s.pending ∧ (shrinkIfIdle s).claim.joinWindow = s.claim.joinWindow ∧
    (shrinkIfIdle s).claim.wanted = s.claim.wanted ∧ (shrinkIfIdle s).claim.retry = s.claim.retry ∧
    (shrinkIfIdle s).claim.shrink = s.claim.shrink ∧ (shrinkIfIdle s).link.attempt = s.link.attempt ∧
    (shrinkIfIdle s).link.seq = s.link.seq ∧ (shrinkIfIdle s).link.counters = s.link.counters ∧
    (shrinkIfIdle s).link.reportTimer = s.link.reportTimer ∧ (shrinkIfIdle s).port.receiver = s.port.receiver ∧
    (shrinkIfIdle s).port.inHand = s.port.inHand ∧ (shrinkIfIdle s).port.transmit = s.port.transmit ∧
    (shrinkIfIdle s).port.framing = s.port.framing ∧ (shrinkIfIdle s).port.overrun = s.port.overrun ∧
    (shrinkIfIdle s).port.mask = s.port.mask ∧ (shrinkIfIdle s).port.hostTimer = s.port.hostTimer := by
  unfold shrinkIfIdle
  try dsimp only
  repeat' split
  all_goals simp [*]

@[simp] theorem reportEnd_keeps (o : MoveOutcome) :
    (reportEnd s o).inputs = s.inputs ∧ (reportEnd s o).record = s.record ∧ (reportEnd s o).node = s.node ∧
    (reportEnd s o).listen = s.listen ∧ (reportEnd s o).peers = s.peers ∧ (reportEnd s o).travel = s.travel ∧
    (reportEnd s o).halt = s.halt ∧ (reportEnd s o).weigher = s.weigher ∧ (reportEnd s o).store = s.store ∧
    (reportEnd s o).tasks = s.tasks ∧ (reportEnd s o).bays = s.bays ∧ (reportEnd s o).now = s.now ∧
    (reportEnd s o).pending = s.pending ∧ (reportEnd s o).claim.joinWindow = s.claim.joinWindow ∧
    (reportEnd s o).link.attempt = s.link.attempt ∧ (reportEnd s o).link.seq = s.link.seq ∧
    (reportEnd s o).link.counters = s.link.counters ∧ (reportEnd s o).link.reportTimer = s.link.reportTimer ∧
    (reportEnd s o).port.receiver = s.port.receiver ∧ (reportEnd s o).port.inHand = s.port.inHand ∧
    (reportEnd s o).port.transmit = s.port.transmit ∧ (reportEnd s o).port.framing = s.port.framing ∧
    (reportEnd s o).port.overrun = s.port.overrun ∧ (reportEnd s o).port.mask = s.port.mask ∧
    (reportEnd s o).port.hostTimer = s.port.hostTimer := by
  unfold reportEnd
  dsimp only
  repeat' split
  all_goals simp [*]

/-! ## Axes -/

@[simp] theorem recordEnd_keeps (a : Axis) (o : MoveOutcome) (x : Int) :
    (recordEnd s a o x).inputs = s.inputs ∧ (recordEnd s a o x).record = s.record ∧
    (recordEnd s a o x).node = s.node ∧ (recordEnd s a o x).listen = s.listen ∧ (recordEnd s a o x).peers = s.peers ∧
    (recordEnd s a o x).halt = s.halt ∧ (recordEnd s a o x).weigher = s.weigher ∧
    (recordEnd s a o x).store = s.store ∧ (recordEnd s a o x).tasks = s.tasks ∧ (recordEnd s a o x).bays = s.bays ∧
    (recordEnd s a o x).now = s.now ∧ (recordEnd s a o x).pending = s.pending ∧
    (recordEnd s a o x).travel.hoist = s.travel.hoist ∧ (recordEnd s a o x).claim.joinWindow = s.claim.joinWindow ∧
    (recordEnd s a o x).link.attempt = s.link.attempt ∧ (recordEnd s a o x).link.seq = s.link.seq ∧
    (recordEnd s a o x).link.counters = s.link.counters ∧ (recordEnd s a o x).link.reportTimer = s.link.reportTimer ∧
    (recordEnd s a o x).port.receiver = s.port.receiver ∧ (recordEnd s a o x).port.inHand = s.port.inHand ∧
    (recordEnd s a o x).port.transmit = s.port.transmit ∧ (recordEnd s a o x).port.framing = s.port.framing ∧
    (recordEnd s a o x).port.overrun = s.port.overrun ∧ (recordEnd s a o x).port.mask = s.port.mask ∧
    (recordEnd s a o x).port.hostTimer = s.port.hostTimer := by
  unfold recordEnd
  cases a <;> dsimp only <;> split <;> simp

@[simp] theorem endMove_keeps (a : Axis) (o : MoveOutcome) :
    (endMove s a o).inputs = s.inputs ∧ (endMove s a o).record = s.record ∧ (endMove s a o).node = s.node ∧
    (endMove s a o).listen = s.listen ∧ (endMove s a o).peers = s.peers ∧ (endMove s a o).halt = s.halt ∧
    (endMove s a o).weigher = s.weigher ∧ (endMove s a o).store = s.store ∧ (endMove s a o).tasks = s.tasks ∧
    (endMove s a o).bays = s.bays ∧ (endMove s a o).now = s.now ∧ (endMove s a o).pending = s.pending ∧
    (endMove s a o).travel.hoist = s.travel.hoist ∧ (endMove s a o).claim.joinWindow = s.claim.joinWindow ∧
    (endMove s a o).link.attempt = s.link.attempt ∧ (endMove s a o).link.seq = s.link.seq ∧
    (endMove s a o).link.counters = s.link.counters ∧ (endMove s a o).link.reportTimer = s.link.reportTimer ∧
    (endMove s a o).port.receiver = s.port.receiver ∧ (endMove s a o).port.inHand = s.port.inHand ∧
    (endMove s a o).port.transmit = s.port.transmit ∧ (endMove s a o).port.framing = s.port.framing ∧
    (endMove s a o).port.overrun = s.port.overrun ∧ (endMove s a o).port.mask = s.port.mask ∧
    (endMove s a o).port.hostTimer = s.port.hostTimer := by
  unfold endMove
  try dsimp only
  repeat' split
  all_goals simp [*]

@[simp] theorem enterStopping_keeps (a : Axis) :
    (enterStopping s a).inputs = s.inputs ∧ (enterStopping s a).record = s.record ∧
    (enterStopping s a).node = s.node ∧ (enterStopping s a).listen = s.listen ∧ (enterStopping s a).link = s.link ∧
    (enterStopping s a).peers = s.peers ∧ (enterStopping s a).claim = s.claim ∧ (enterStopping s a).halt = s.halt ∧
    (enterStopping s a).weigher = s.weigher ∧ (enterStopping s a).store = s.store ∧
    (enterStopping s a).tasks = s.tasks ∧ (enterStopping s a).bays = s.bays ∧ (enterStopping s a).port = s.port ∧
    (enterStopping s a).now = s.now ∧ (enterStopping s a).scanDue = s.scanDue ∧
    (enterStopping s a).pending = s.pending ∧ (enterStopping s a).travel.hoist = s.travel.hoist := by
  unfold enterStopping
  try dsimp only
  repeat' split
  all_goals simp [*, enterHolding]

@[simp] theorem stopAxis_keeps (a : Axis) (o : MoveOutcome) :
    (stopAxis s a o).inputs = s.inputs ∧ (stopAxis s a o).record = s.record ∧ (stopAxis s a o).node = s.node ∧
    (stopAxis s a o).listen = s.listen ∧ (stopAxis s a o).peers = s.peers ∧ (stopAxis s a o).halt = s.halt ∧
    (stopAxis s a o).weigher = s.weigher ∧ (stopAxis s a o).store = s.store ∧ (stopAxis s a o).tasks = s.tasks ∧
    (stopAxis s a o).bays = s.bays ∧ (stopAxis s a o).now = s.now ∧ (stopAxis s a o).pending = s.pending ∧
    (stopAxis s a o).travel.hoist = s.travel.hoist ∧ (stopAxis s a o).claim.joinWindow = s.claim.joinWindow ∧
    (stopAxis s a o).link.attempt = s.link.attempt ∧ (stopAxis s a o).link.seq = s.link.seq ∧
    (stopAxis s a o).link.counters = s.link.counters ∧ (stopAxis s a o).link.reportTimer = s.link.reportTimer ∧
    (stopAxis s a o).port.receiver = s.port.receiver ∧ (stopAxis s a o).port.inHand = s.port.inHand ∧
    (stopAxis s a o).port.transmit = s.port.transmit ∧ (stopAxis s a o).port.framing = s.port.framing ∧
    (stopAxis s a o).port.overrun = s.port.overrun ∧ (stopAxis s a o).port.mask = s.port.mask ∧
    (stopAxis s a o).port.hostTimer = s.port.hostTimer := by
  unfold stopAxis
  try dsimp only
  repeat' split
  all_goals simp [*, enterParked]

@[simp] theorem orderStop_keeps (a : Axis) (o : MoveOutcome) :
    (orderStop s a o).inputs = s.inputs ∧ (orderStop s a o).record = s.record ∧ (orderStop s a o).node = s.node ∧
    (orderStop s a o).listen = s.listen ∧ (orderStop s a o).link = s.link ∧ (orderStop s a o).peers = s.peers ∧
    (orderStop s a o).claim = s.claim ∧ (orderStop s a o).halt = s.halt ∧ (orderStop s a o).weigher = s.weigher ∧
    (orderStop s a o).store = s.store ∧ (orderStop s a o).tasks = s.tasks ∧ (orderStop s a o).bays = s.bays ∧
    (orderStop s a o).port = s.port ∧ (orderStop s a o).now = s.now ∧ (orderStop s a o).scanDue = s.scanDue ∧
    (orderStop s a o).pending = s.pending ∧ (orderStop s a o).travel.hoist = s.travel.hoist := by
  unfold orderStop
  try dsimp only
  repeat' split
  all_goals simp [*]

@[simp] theorem isolateAxis_keeps (a : Axis) :
    (isolateAxis s a).inputs = s.inputs ∧ (isolateAxis s a).record = s.record ∧ (isolateAxis s a).node = s.node ∧
    (isolateAxis s a).listen = s.listen ∧ (isolateAxis s a).peers = s.peers ∧ (isolateAxis s a).halt = s.halt ∧
    (isolateAxis s a).weigher = s.weigher ∧ (isolateAxis s a).store = s.store ∧ (isolateAxis s a).tasks = s.tasks ∧
    (isolateAxis s a).bays = s.bays ∧ (isolateAxis s a).now = s.now ∧ (isolateAxis s a).pending = s.pending ∧
    (isolateAxis s a).travel.hoist = s.travel.hoist ∧ (isolateAxis s a).claim.joinWindow = s.claim.joinWindow ∧
    (isolateAxis s a).link.attempt = s.link.attempt ∧ (isolateAxis s a).link.seq = s.link.seq ∧
    (isolateAxis s a).link.counters = s.link.counters ∧ (isolateAxis s a).link.reportTimer = s.link.reportTimer ∧
    (isolateAxis s a).port.receiver = s.port.receiver ∧ (isolateAxis s a).port.inHand = s.port.inHand ∧
    (isolateAxis s a).port.transmit = s.port.transmit ∧ (isolateAxis s a).port.framing = s.port.framing ∧
    (isolateAxis s a).port.overrun = s.port.overrun ∧ (isolateAxis s a).port.mask = s.port.mask ∧
    (isolateAxis s a).port.hostTimer = s.port.hostTimer := by
  unfold isolateAxis
  try dsimp only
  repeat' split
  all_goals simp [*, enterParked, enterHolding]

@[simp] theorem lowHookAxis_keeps (a : Axis) :
    (lowHookAxis s a).inputs = s.inputs ∧ (lowHookAxis s a).record = s.record ∧ (lowHookAxis s a).node = s.node ∧
    (lowHookAxis s a).listen = s.listen ∧ (lowHookAxis s a).peers = s.peers ∧ (lowHookAxis s a).halt = s.halt ∧
    (lowHookAxis s a).weigher = s.weigher ∧ (lowHookAxis s a).store = s.store ∧ (lowHookAxis s a).tasks = s.tasks ∧
    (lowHookAxis s a).bays = s.bays ∧ (lowHookAxis s a).now = s.now ∧ (lowHookAxis s a).pending = s.pending ∧
    (lowHookAxis s a).travel.hoist = s.travel.hoist ∧ (lowHookAxis s a).claim.joinWindow = s.claim.joinWindow ∧
    (lowHookAxis s a).link.attempt = s.link.attempt ∧ (lowHookAxis s a).link.seq = s.link.seq ∧
    (lowHookAxis s a).link.counters = s.link.counters ∧ (lowHookAxis s a).link.reportTimer = s.link.reportTimer ∧
    (lowHookAxis s a).port.receiver = s.port.receiver ∧ (lowHookAxis s a).port.inHand = s.port.inHand ∧
    (lowHookAxis s a).port.transmit = s.port.transmit ∧ (lowHookAxis s a).port.framing = s.port.framing ∧
    (lowHookAxis s a).port.overrun = s.port.overrun ∧ (lowHookAxis s a).port.mask = s.port.mask ∧
    (lowHookAxis s a).port.hostTimer = s.port.hostTimer := by
  unfold lowHookAxis
  try dsimp only
  repeat' split
  all_goals simp [*, enterParked, enterHolding]

@[simp] theorem stopMoveAxis_keeps (a : Axis) :
    (stopMoveAxis s a).inputs = s.inputs ∧ (stopMoveAxis s a).record = s.record ∧ (stopMoveAxis s a).node = s.node ∧
    (stopMoveAxis s a).listen = s.listen ∧ (stopMoveAxis s a).peers = s.peers ∧ (stopMoveAxis s a).halt = s.halt ∧
    (stopMoveAxis s a).weigher = s.weigher ∧ (stopMoveAxis s a).store = s.store ∧ (stopMoveAxis s a).tasks = s.tasks ∧
    (stopMoveAxis s a).bays = s.bays ∧ (stopMoveAxis s a).now = s.now ∧ (stopMoveAxis s a).pending = s.pending ∧
    (stopMoveAxis s a).travel.hoist = s.travel.hoist ∧ (stopMoveAxis s a).claim.joinWindow = s.claim.joinWindow ∧
    (stopMoveAxis s a).link.attempt = s.link.attempt ∧ (stopMoveAxis s a).link.seq = s.link.seq ∧
    (stopMoveAxis s a).link.counters = s.link.counters ∧ (stopMoveAxis s a).link.reportTimer = s.link.reportTimer ∧
    (stopMoveAxis s a).port.receiver = s.port.receiver ∧ (stopMoveAxis s a).port.inHand = s.port.inHand ∧
    (stopMoveAxis s a).port.transmit = s.port.transmit ∧ (stopMoveAxis s a).port.framing = s.port.framing ∧
    (stopMoveAxis s a).port.overrun = s.port.overrun ∧ (stopMoveAxis s a).port.mask = s.port.mask ∧
    (stopMoveAxis s a).port.hostTimer = s.port.hostTimer := by
  unfold stopMoveAxis
  try dsimp only
  repeat' split
  all_goals simp [*, enterParked, enterHolding]

@[simp] theorem lowHookEdge_keeps (b : State) :
    (lowHookEdge b s).inputs = s.inputs ∧ (lowHookEdge b s).record = s.record ∧ (lowHookEdge b s).node = s.node ∧
    (lowHookEdge b s).listen = s.listen ∧ (lowHookEdge b s).peers = s.peers ∧ (lowHookEdge b s).halt = s.halt ∧
    (lowHookEdge b s).weigher = s.weigher ∧ (lowHookEdge b s).store = s.store ∧ (lowHookEdge b s).tasks = s.tasks ∧
    (lowHookEdge b s).bays = s.bays ∧ (lowHookEdge b s).now = s.now ∧ (lowHookEdge b s).pending = s.pending ∧
    (lowHookEdge b s).travel.hoist = s.travel.hoist ∧ (lowHookEdge b s).claim.joinWindow = s.claim.joinWindow ∧
    (lowHookEdge b s).link.attempt = s.link.attempt ∧ (lowHookEdge b s).link.seq = s.link.seq ∧
    (lowHookEdge b s).link.counters = s.link.counters ∧ (lowHookEdge b s).link.reportTimer = s.link.reportTimer ∧
    (lowHookEdge b s).port.receiver = s.port.receiver ∧ (lowHookEdge b s).port.inHand = s.port.inHand ∧
    (lowHookEdge b s).port.transmit = s.port.transmit ∧ (lowHookEdge b s).port.framing = s.port.framing ∧
    (lowHookEdge b s).port.overrun = s.port.overrun ∧ (lowHookEdge b s).port.mask = s.port.mask ∧
    (lowHookEdge b s).port.hostTimer = s.port.hostTimer := by
  unfold lowHookEdge
  try dsimp only
  repeat' split
  all_goals simp [*]

/-! ## The Halt Line -/

@[simp] theorem haltEvent_keeps (c : HaltCause) :
    (haltEvent s c).inputs = s.inputs ∧ (haltEvent s c).record = s.record ∧ (haltEvent s c).node = s.node ∧
    (haltEvent s c).listen = s.listen ∧ (haltEvent s c).link = s.link ∧ (haltEvent s c).peers = s.peers ∧
    (haltEvent s c).claim = s.claim ∧ (haltEvent s c).travel = s.travel ∧ (haltEvent s c).halt = s.halt ∧
    (haltEvent s c).weigher = s.weigher ∧ (haltEvent s c).store = s.store ∧ (haltEvent s c).tasks = s.tasks ∧
    (haltEvent s c).bays = s.bays ∧ (haltEvent s c).now = s.now ∧ (haltEvent s c).scanDue = s.scanDue ∧
    (haltEvent s c).pending = s.pending ∧ (haltEvent s c).port.receiver = s.port.receiver ∧
    (haltEvent s c).port.inHand = s.port.inHand ∧ (haltEvent s c).port.transmit = s.port.transmit ∧
    (haltEvent s c).port.framing = s.port.framing ∧ (haltEvent s c).port.overrun = s.port.overrun ∧
    (haltEvent s c).port.mask = s.port.mask ∧ (haltEvent s c).port.hostTimer = s.port.hostTimer := by
  simp [haltEvent]

@[simp] theorem lineEdge_keeps (b : State) :
    (lineEdge b s).inputs = s.inputs ∧ (lineEdge b s).record = s.record ∧ (lineEdge b s).node = s.node ∧
    (lineEdge b s).listen = s.listen ∧ (lineEdge b s).peers = s.peers ∧ (lineEdge b s).halt = s.halt ∧
    (lineEdge b s).weigher = s.weigher ∧ (lineEdge b s).store = s.store ∧ (lineEdge b s).tasks = s.tasks ∧
    (lineEdge b s).bays = s.bays ∧ (lineEdge b s).now = s.now ∧ (lineEdge b s).pending = s.pending ∧
    (lineEdge b s).travel.hoist = s.travel.hoist ∧ (lineEdge b s).claim.joinWindow = s.claim.joinWindow ∧
    (lineEdge b s).link.attempt = s.link.attempt ∧ (lineEdge b s).link.seq = s.link.seq ∧
    (lineEdge b s).link.counters = s.link.counters ∧ (lineEdge b s).link.reportTimer = s.link.reportTimer ∧
    (lineEdge b s).port.receiver = s.port.receiver ∧ (lineEdge b s).port.inHand = s.port.inHand ∧
    (lineEdge b s).port.transmit = s.port.transmit ∧ (lineEdge b s).port.framing = s.port.framing ∧
    (lineEdge b s).port.overrun = s.port.overrun ∧ (lineEdge b s).port.mask = s.port.mask ∧
    (lineEdge b s).port.hostTimer = s.port.hostTimer := by
  unfold lineEdge
  try dsimp only
  repeat' split
  all_goals simp [*]

@[simp] theorem refreshLine_keeps :
    (refreshLine s).inputs = s.inputs ∧ (refreshLine s).record = s.record ∧ (refreshLine s).node = s.node ∧
    (refreshLine s).listen = s.listen ∧ (refreshLine s).peers = s.peers ∧ (refreshLine s).weigher = s.weigher ∧
    (refreshLine s).store = s.store ∧ (refreshLine s).tasks = s.tasks ∧ (refreshLine s).bays = s.bays ∧
    (refreshLine s).now = s.now ∧ (refreshLine s).pending = s.pending ∧
    (refreshLine s).travel.hoist = s.travel.hoist ∧ (refreshLine s).claim.joinWindow = s.claim.joinWindow ∧
    (refreshLine s).link.attempt = s.link.attempt ∧ (refreshLine s).link.seq = s.link.seq ∧
    (refreshLine s).link.counters = s.link.counters ∧ (refreshLine s).link.reportTimer = s.link.reportTimer ∧
    (refreshLine s).port.receiver = s.port.receiver ∧ (refreshLine s).port.inHand = s.port.inHand ∧
    (refreshLine s).port.transmit = s.port.transmit ∧ (refreshLine s).port.framing = s.port.framing ∧
    (refreshLine s).port.overrun = s.port.overrun ∧ (refreshLine s).port.mask = s.port.mask ∧
    (refreshLine s).port.hostTimer = s.port.hostTimer ∧ (refreshLine s).halt.reasons = s.halt.reasons := by
  simp [refreshLine]

@[simp] theorem setReason_keeps (r : HaltReason) :
    (setReason s r).inputs = s.inputs ∧ (setReason s r).record = s.record ∧ (setReason s r).node = s.node ∧
    (setReason s r).listen = s.listen ∧ (setReason s r).peers = s.peers ∧ (setReason s r).weigher = s.weigher ∧
    (setReason s r).store = s.store ∧ (setReason s r).tasks = s.tasks ∧ (setReason s r).bays = s.bays ∧
    (setReason s r).now = s.now ∧ (setReason s r).pending = s.pending ∧
    (setReason s r).travel.hoist = s.travel.hoist ∧ (setReason s r).claim.joinWindow = s.claim.joinWindow ∧
    (setReason s r).link.attempt = s.link.attempt ∧ (setReason s r).link.seq = s.link.seq ∧
    (setReason s r).link.counters = s.link.counters ∧ (setReason s r).link.reportTimer = s.link.reportTimer ∧
    (setReason s r).port.receiver = s.port.receiver ∧ (setReason s r).port.inHand = s.port.inHand ∧
    (setReason s r).port.transmit = s.port.transmit ∧ (setReason s r).port.framing = s.port.framing ∧
    (setReason s r).port.overrun = s.port.overrun ∧ (setReason s r).port.mask = s.port.mask ∧
    (setReason s r).port.hostTimer = s.port.hostTimer := by
  unfold setReason
  dsimp only
  split <;> simp

end Sys2Proof.Machine
end

