-- ==== Sys2Proof/Laws/Tables.lean ====
section
/-! SUPPORT. The sparse tables: reading after writing, and that a write keeps the canonical form; with them, the events
and the store records read through a table. -/

namespace Sys2Proof.Machine

variable {α : Type} [DecidableEq α] {d : α}

/-- Every key of a canonical table above a bound lies above it. -/
theorem tableGet_below {t : Table α} {b n : Nat} (h : tableAbove d (some b) t = true) (hn : n ≤ b) :
    tableGet d t n = d := by
  induction t generalizing b with
  | nil => rfl
  | cons e t ih =>
    obtain ⟨k, v⟩ := e
    simp only [tableAbove, Option.all_some, Bool.and_eq_true, decide_eq_true_eq] at h
    obtain ⟨⟨hk, -⟩, ht⟩ := h
    rw [tableGet, if_neg (by omega)]
    exact ih ht (by omega)

/-- A bound can be lowered. -/
theorem tableAbove_mono {t : Table α} {b c : Nat} (hc : c ≤ b) (h : tableAbove d (some b) t = true) :
    tableAbove d (some c) t = true := by
  cases t with
  | nil => rfl
  | cons e t =>
    obtain ⟨k, v⟩ := e
    simp only [tableAbove, Option.all_some, Bool.and_eq_true, decide_eq_true_eq] at h ⊢
    exact ⟨⟨by omega, h.1.2⟩, h.2⟩

/-- Without a bound is weaker than with one. -/
theorem tableAbove_none {t : Table α} {b : Nat} (h : tableAbove d (some b) t = true) : tableAbove d none t = true := by
  cases t with
  | nil => rfl
  | cons e t =>
    obtain ⟨k, v⟩ := e
    simp only [tableAbove, Option.all_some, Option.all_none, Bool.and_eq_true, Bool.true_and] at h ⊢
    exact ⟨h.1.2, h.2⟩

/-- A write keeps every key above a bound that the written key is above. -/
theorem tablePut_above {t : Table α} {b n : Nat} (v : α) (hn : b < n) (h : tableAbove d (some b) t = true) :
    tableAbove d (some b) (tablePut d t n v) = true := by
  induction t generalizing b with
  | nil =>
    simp only [tablePut]
    split
    · rfl
    · simp [tableAbove, *]
  | cons e t ih =>
    obtain ⟨k, w⟩ := e
    have h' := h
    simp only [tableAbove, Option.all_some, Bool.and_eq_true, decide_eq_true_eq] at h
    obtain ⟨⟨hk, hw⟩, ht⟩ := h
    simp only [tablePut]
    split
    · split
      · exact h'
      · simp [tableAbove, *]
    · split
      · subst k
        split
        · exact tableAbove_mono (by omega) ht
        · simp [tableAbove, *]
      · have : k < n := by omega
        simp [tableAbove, hk, hw, ih this ht]

/-- A write keeps the canonical form. -/
theorem tablePut_wf {t : Table α} (n : Nat) (v : α) (h : tableWf d t = true) : tableWf d (tablePut d t n v) = true := by
  unfold tableWf at *
  cases t with
  | nil =>
    simp only [tablePut]
    split <;> simp [tableAbove, *]
  | cons e t =>
    obtain ⟨k, w⟩ := e
    have h' := h
    simp only [tableAbove, Option.all_none, Bool.true_and, Bool.and_eq_true, decide_eq_true_eq] at h
    simp only [tablePut]
    split
    · split
      · exact h'
      · simp [tableAbove, *]
    · split
      · split
        · exact tableAbove_none h.2
        · simp only [tableAbove, Option.all_none, Bool.true_and, Bool.and_eq_true, decide_eq_true_eq]
          exact ⟨by assumption, by simp_all⟩
      · simp only [tableAbove, Option.all_none, Bool.true_and, Bool.and_eq_true, decide_eq_true_eq]
        exact ⟨h.1, tablePut_above v (by omega) h.2⟩

/-- What is written at a key above every listed one before it is read back. -/
theorem tableGet_put_same {t : Table α} (n : Nat) (v : α) (h : tableWf d t = true) :
    tableGet d (tablePut d t n v) n = v := by
  unfold tableWf at h
  suffices H : ∀ b, tableAbove d b t = true → tableGet d (tablePut d t n v) n = v from H _ h
  clear h
  induction t with
  | nil =>
    intro b _
    simp only [tablePut]
    split <;> simp_all [tableGet]
  | cons e t ih =>
    intro b h
    obtain ⟨k, w⟩ := e
    simp only [tableAbove, Bool.and_eq_true, decide_eq_true_eq] at h
    simp only [tablePut]
    split
    · split
      · rw [tableGet, if_neg (by omega), tableGet_below h.2 (by omega)]
        simp_all
      · simp [tableGet]
    · split
      · split
        · subst k
          rw [tableGet_below h.2 (Nat.le_refl _)]
          simp_all
        · simp [tableGet]
      · rw [tableGet, if_neg (by omega)]
        exact ih _ h.2

/-- A value other than the default is read back from any table, canonical or not. -/
theorem tableGet_put_listed {t : Table α} (n : Nat) {v : α} (hv : v ≠ d) : tableGet d (tablePut d t n v) n = v := by
  induction t with
  | nil => simp [tablePut, tableGet, hv]
  | cons e t ih =>
    obtain ⟨j, w⟩ := e
    simp only [tablePut, hv, if_false]
    split
    · simp [tableGet]
    · split
      · simp [tableGet]
      · simp [tableGet, *]

/-- A write leaves every other key. -/
theorem tableGet_put_other {t : Table α} {n k : Nat} (v : α) (hk : k ≠ n) :
    tableGet d (tablePut d t n v) k = tableGet d t k := by
  induction t with
  | nil =>
    simp only [tablePut]
    split <;> simp [tableGet, Ne.symm hk]
  | cons e t ih =>
    obtain ⟨j, w⟩ := e
    simp only [tablePut]
    split
    · split <;> simp [tableGet, Ne.symm hk]
    · split
      · subst j
        split <;> simp [tableGet, Ne.symm hk]
      · simp [tableGet, ih]

/-! ## Events and store records -/

/-- R193: the event raised. -/
@[simp] theorem eventAt_raise_same (s : State) (d : Detail) :
    eventAt (raiseEvent s d).port d.number = (eventAt s.port d.number).next d :=
  tableGet_put_listed _ (by simp [EventRecord.next, EventRecord.reset])

/-- R193: every other event is as it was. -/
theorem eventAt_raise_other (s : State) (d : Detail) {n : Nat} (h : n ≠ d.number) :
    eventAt (raiseEvent s d).port n = eventAt s.port n := tableGet_put_other _ h

/-- R193: every event after one is raised. -/
theorem eventAt_raise (s : State) (d : Detail) (n : Nat) :
    eventAt (raiseEvent s d).port n = if n = d.number then (eventAt s.port n).next d else eventAt s.port n := by
  split
  · subst n; exact eventAt_raise_same s d
  · exact eventAt_raise_other s d ‹_›

/-- R194: raising an event keeps the events in canonical form. -/
theorem raiseEvent_wf (s : State) (d : Detail) (h : tableWf .reset s.port.events = true) :
    tableWf .reset (raiseEvent s d).port.events = true := tablePut_wf _ _ h

/-- A slot record written is read back. -/
theorem slotAt_put_same (s : State) (n : Nat) (r : SlotRecord) (h : tableWf .unknown s.store.slots = true) :
    slotAt (putSlot s n r) n = r := tableGet_put_same _ _ h

/-- A slot record written leaves every other slot's. -/
theorem slotAt_put_other (s : State) {n k : Nat} (r : SlotRecord) (h : k ≠ n) :
    slotAt (putSlot s n r) k = slotAt s k := tableGet_put_other _ h

/-- A row record written is read back. -/
theorem rowAt_put_same (s : State) (n : Nat) (r : RowRecord) (h : tableWf .reset s.store.rows = true) :
    rowAt (putRow s n r) n = r := tableGet_put_same _ _ h

/-- A row record written leaves every other row's. -/
theorem rowAt_put_other (s : State) {n k : Nat} (r : RowRecord) (h : k ≠ n) :
    rowAt (putRow s n r) k = rowAt s k := tableGet_put_other _ h

end Sys2Proof.Machine
end

