-- ==== Sys2Proof/Laws/Moves.lean ====
section
/-! SUPPORT. The end of a move (R104) and what follows it: the axis records and the events it leaves. -/

namespace Sys2Proof.Machine

variable (s : State)

/-- An operation that leaves the Travel Profiler leaves every axis. -/
theorem axis_of_travel {s t : State} (h : t.travel = s.travel) (a : Axis) : t.axis a = s.axis a := by
  cases a <;> simp [State.axis, h]

/-- An operation that leaves the inputs leaves every position. -/
theorem position_of_inputs {s t : State} (h : t.inputs = s.inputs) (a : Axis) : t.position a = s.position a := by
  simp [State.position, h]

/-- An operation that leaves the record leaves the start record in force. -/
theorem conf_of_record {s t : State} (h : t.record = s.record) : t.conf = s.conf := by simp [State.conf, h]

/-- R79: a shrink raises CLAIM_CHANGED alone. -/
theorem shrink_events {n : Nat} (h : n ≠ 7) : eventAt (shrink s).port n = eventAt s.port n := by
  unfold shrink abandonPending setConfirmed withdrawClaimFrame
  dsimp only
  repeat' split
  all_goals simp [claimEvent, eventAt_raise, Detail.number, h, withdraw]

/-- R79: an end reported raises CLAIM_CHANGED alone. -/
theorem reportEnd_events (o : MoveOutcome) {n : Nat} (h : n ≠ 7) :
    eventAt (reportEnd s o).port n = eventAt s.port n := by
  unfold reportEnd shrinkIfIdle
  dsimp only
  repeat' split
  all_goals simp [shrink_events, h, clearWanted]

/-- R104: what the end of a move does to the Travel Profiler. -/
theorem recordEnd_travel (a : Axis) (o : MoveOutcome) (x : Int) :
    (recordEnd s a o x).travel =
      (s.withAxis a { s.axis a with move := none, last := some ⟨o, x, s.position a⟩ }).travel := by
  unfold recordEnd
  cases a <;> dsimp only <;> split <;> simp

/-- R104: the record of the axis whose move ends. -/
@[simp] theorem recordEnd_axis (a : Axis) (o : MoveOutcome) (x : Int) :
    (recordEnd s a o x).axis a = { s.axis a with move := none, last := some ⟨o, x, s.position a⟩ } := by
  rw [axis_of_travel (recordEnd_travel s a o x), withAxis_axis]

/-- R104: the end of a move leaves the other axis. -/
theorem recordEnd_other {a b : Axis} (h : b ≠ a) (o : MoveOutcome) (x : Int) :
    (recordEnd s a o x).axis b = s.axis b := by
  rw [axis_of_travel (recordEnd_travel s a o x), withAxis_other s h]

/-- R104: MOVE_DONE is raised for every outcome but REPLACED. -/
theorem recordEnd_event (a : Axis) (o : MoveOutcome) (x : Int) (h : o ≠ .replaced) :
    eventAt (recordEnd s a o x).port 0 = (eventAt s.port 0).next (.moveDone a o x (s.position a)) := by
  unfold recordEnd
  cases a <;> simp [reportEnd_events, h, eventAt_raise, Detail.number]

/-- R79, R104: the end of a move raises MOVE_DONE and, through the shrink that may follow, CLAIM_CHANGED. -/
theorem recordEnd_events (a : Axis) (o : MoveOutcome) (x : Int) {n : Nat} (h : n ≠ 0) (h7 : n ≠ 7) :
    eventAt (recordEnd s a o x).port n = eventAt s.port n := by
  unfold recordEnd
  cases a <;> dsimp only <;> split <;> simp [reportEnd_events, h7, eventAt_raise, Detail.number, h]

end Sys2Proof.Machine
end

