-- ==== Sys2Proof/Laws/Requests.lean ====
section
/-! SUPPORT. What the shared operations around a command do: the handling of a request (R191, R192), the expiry of a timer,
the receiving of a frame (R19 to R21, R38), and the tests of a Move (R81) in the words of Safety.lean. -/

namespace Sys2Proof.Machine

variable (s : State)

/-! ## Requests -/

/-- R189, R191, R192: everything that a completed request does. -/
theorem request_cases {α : Type} (kind tag : Nat) (early : Bool) (unfit : Result) (body : Body α)
    (own : α → State → Reply) :
    request kind tag early unfit body own s =
      if s.port.receiver = .resync then s
      else if s.port.inHand.isSome then answerAtOnce (restartHostTimer s) kind tag .busy .none
      else respond kind tag (replyTo early unfit body own (taken s kind tag)) := by
  have h : (restartHostTimer s).port.inHand = s.port.inHand := by unfold restartHostTimer; split <;> rfl
  unfold request taken
  dsimp only
  rw [h]

/-- R191, R192: a request that the port can take in hand is answered by what its handling gives. -/
theorem request_ready {α : Type} (h : ready s = true) (kind tag : Nat) (early : Bool) (unfit : Result) (body : Body α)
    (own : α → State → Reply) :
    request kind tag early unfit body own s = respond kind tag (replyTo early unfit body own (taken s kind tag)) := by
  simp only [ready, Bool.and_eq_true, beq_iff_eq] at h
  rw [request_cases, if_neg (by rw [h.1]; simp), if_neg (by simp [Option.isNone_iff_eq_none.mp h.2])]

/-- R192: a request in a configured node whose payload fits is handled by its own rules. -/
theorem replyTo_fields {α : Type} (h : s.record.isSome = true) (early : Bool) (unfit : Result) (a : α)
    (own : α → State → Reply) : replyTo early unfit (.fields a) own s = own a s := by
  have : s.record.isNone = false := by rw [← Option.not_isSome, h]; rfl
  simp [replyTo, this]

/-- R143, R191: with no scan owed, a response only joins the transmitter's list. -/
theorem respond_settled (kind tag : Nat) (r : Reply) (h : settled r.state = true) :
    respond kind tag r = answered r.state kind tag r.status r.result := by
  have : r.state.scanDue = false := by simpa [settled] using h
  simp [respond, answered, finish, this]

@[simp] theorem taken_record (kind tag : Nat) : (taken s kind tag).record = s.record := by
  unfold taken takeInHand restartHostTimer; split <;> rfl
@[simp] theorem taken_node (kind tag : Nat) : (taken s kind tag).node = s.node := by
  unfold taken takeInHand restartHostTimer; split <;> rfl
@[simp] theorem taken_claim (kind tag : Nat) : (taken s kind tag).claim = s.claim := by
  unfold taken takeInHand restartHostTimer; split <;> rfl
@[simp] theorem taken_link (kind tag : Nat) : (taken s kind tag).link = s.link := by
  unfold taken takeInHand restartHostTimer; split <;> rfl
@[simp] theorem taken_peers (kind tag : Nat) : (taken s kind tag).peers = s.peers := by
  unfold taken takeInHand restartHostTimer; split <;> rfl
@[simp] theorem taken_travel (kind tag : Nat) : (taken s kind tag).travel = s.travel := by
  unfold taken takeInHand restartHostTimer; split <;> rfl
@[simp] theorem taken_halt (kind tag : Nat) : (taken s kind tag).halt = s.halt := by
  unfold taken takeInHand restartHostTimer; split <;> rfl
@[simp] theorem taken_weigher (kind tag : Nat) : (taken s kind tag).weigher = s.weigher := by
  unfold taken takeInHand restartHostTimer; split <;> rfl
@[simp] theorem taken_store (kind tag : Nat) : (taken s kind tag).store = s.store := by
  unfold taken takeInHand restartHostTimer; split <;> rfl
@[simp] theorem taken_tasks (kind tag : Nat) : (taken s kind tag).tasks = s.tasks := by
  unfold taken takeInHand restartHostTimer; split <;> rfl
@[simp] theorem taken_bays (kind tag : Nat) : (taken s kind tag).bays = s.bays := by
  unfold taken takeInHand restartHostTimer; split <;> rfl
@[simp] theorem taken_inputs (kind tag : Nat) : (taken s kind tag).inputs = s.inputs := by
  unfold taken takeInHand restartHostTimer; split <;> rfl
@[simp] theorem taken_now (kind tag : Nat) : (taken s kind tag).now = s.now := by
  unfold taken takeInHand restartHostTimer; split <;> rfl
@[simp] theorem taken_scanDue (kind tag : Nat) : (taken s kind tag).scanDue = s.scanDue := by
  unfold taken takeInHand restartHostTimer; split <;> rfl
@[simp] theorem taken_events (kind tag : Nat) : (taken s kind tag).port.events = s.port.events := by
  unfold taken takeInHand restartHostTimer; split <;> rfl
@[simp] theorem taken_transmit (kind tag : Nat) : (taken s kind tag).port.transmit = s.port.transmit := by
  unfold taken takeInHand restartHostTimer; split <;> rfl
@[simp] theorem taken_conf (kind tag : Nat) : (taken s kind tag).conf = s.conf := by simp [State.conf]

/-! ## Timers -/

/-- The expiry of a stopped timer does nothing. -/
@[simp] theorem expire_none (act : State → State) : expire none act s = s := rfl

/-- The expiry of a running timer with no scan owed after it. -/
theorem expire_some (d : Nat) (act : State → State) (h : settled (act (elapse s d)) = true) :
    expire (some d) act s = act (elapse s d) := by
  have : (act (elapse s d)).scanDue = false := by simpa [settled] using h
  simp [expire, finish, this]

/-! ## Frames -/

/-- R19, R20, R36: a malformed frame is counted and is nothing else. -/
theorem receive_malformed {sender : Nat} {wellCoded : Bool} (deliver : State → State)
    (h : senderMalformed s sender = true ∨ wellCoded = false) : receive s sender wellCoded deliver = countCheckError s := by
  unfold receive
  rw [if_pos (by rcases h with h | h <;> simp [h])]

/-- R11, R36: in UNCONFIGURED a frame is counted as received and not delivered. -/
theorem receive_unconfigured {sender : Nat} (deliver : State → State) (h : s.record = none) (hs : sender ≠ 0) :
    receive s sender true deliver = countReceived s := by
  have : senderMalformed s sender = false := by simp [senderMalformed, h, hs]
  simp [receive, this, countReceived, h]

/-- R21: a well-formed frame is counted and delivered. -/
theorem receive_delivered {sender : Nat} (deliver : State → State) (h : senderMalformed s sender = false)
    (hr : s.record.isSome = true) : receive s sender true deliver = finish (deliver (countReceived s)) := by
  simp [receive, h, countReceived, hr]

/-- R37: a record read back after it is replaced, for one of the eight ranks. -/
theorem peerAt_put (t : PeerTable) {r : Nat} (h : 1 ≤ r ∧ r ≤ 8) (p : PeerRecord) : peerAt (putPeer t r p) r = p := by
  obtain ⟨h1, h8⟩ := h
  interval_cases r <;> rfl

/-- R37: replacing a record leaves the others. -/
theorem peerAt_put_other (t : PeerTable) {r k : Nat} (h : k ≠ r) (p : PeerRecord) :
    peerAt (putPeer t r p) k = peerAt t k := by
  unfold putPeer peerAt
  repeat' split
  all_goals first | rfl | contradiction

/-- R37: the last of two replacements of a record stands. -/
theorem putPeer_put (t : PeerTable) (r : Nat) (p q : PeerRecord) : putPeer (putPeer t r p) r q = putPeer t r q := by
  unfold putPeer
  split <;> first | rfl | (split <;> first | rfl | simp_all)

/-- R38: what `quiet` says, part by part. -/
theorem quiet_parts {sender seq : Nat} (h : quiet s sender seq = true) :
    s.record.isSome = true ∧ s.node = .active ∧ s.scanDue = false ∧ senderMalformed s sender = false ∧
      s.conf.craneCount ≠ 1 ∧ (s.peer sender).presence = .live ∧
      (∃ l, (s.peer sender).lastSeq = some l ∧ seq = (l + 1) % Config.sequenceModulus) ∧
      ∀ p, s.claim.pending = some p → p.phase ≠ .queued := by
  simp only [quiet, settled, Bool.and_eq_true, beq_iff_eq, bne_iff_ne, Bool.not_eq_true', decide_eq_true_eq,
    Option.any_eq_true, Option.all_eq_true] at h
  obtain ⟨⟨⟨⟨⟨⟨⟨⟨⟨hr, hn⟩, hs⟩, h0⟩, hc⟩, ho⟩, h1⟩, hp⟩, l, hl, hq⟩, hpend⟩ := h
  refine ⟨hr, hn, hs, ?_, h1, hp, ⟨l, hl, hq⟩, fun p e => hpend p e⟩
  simp [senderMalformed, h0, ho, Nat.not_lt.mpr hc]

/-- R65: with no own Extend waiting, and outside LISTENING, a re-test does nothing. -/
theorem retest_idle (h : s.node ≠ .listening) (hp : ∀ p, s.claim.pending = some p → p.phase ≠ .queued) : retest s = s := by
  have hj : retestJoin s = s := by simp [retestJoin, h]
  unfold retest retestExtend
  rw [hj]
  split
  · rename_i d e k h1 h2; exact absurd rfl (hp _ h1)
  · rfl

/-- R38, R46: a frame, not a Join, from a peer heard without a break leaves the Peer Table as `heard` says. -/
theorem noteFrame_quiet {sender seq : Nat} (h : quiet s sender seq = true) (isReport : Bool) :
    noteFrame (countReceived s) sender seq isReport = heard s sender seq := by
  obtain ⟨hr, hn, hs, hm, h1, hp, ⟨l, hl, hq⟩, hpend⟩ := quiet_parts s h
  have gap : showsGap (s.peer sender).lastSeq seq = false := by simp [showsGap, hl, hq]
  have after : presenceAfter .live isReport false = .live := rfl
  have hrange : 1 ≤ sender ∧ sender ≤ 8 := by
    by_contra hc
    have : s.peer sender = .reset := by
      unfold State.peer peerAt; split <;> first | rfl | (exfalso; omega)
    rw [this] at hp; cases hp
  have get (t : PeerTable) (p : PeerRecord) : peerAt (putPeer t sender p) sender = p := peerAt_put t hrange p
  have hp' : (countReceived s).peer sender = s.peer sender := rfl
  unfold noteFrame
  dsimp only
  rw [hp', gap, hp, after]
  simp only [Bool.false_eq_true, ↓reduceIte]
  simp only [State.mapPeer, State.withPeer, State.peer, get, setPresence, leaveStale, putPeer_put]
  have live : (peerAt s.peers.table sender).presence = .live := hp
  have other : (peerAt (countReceived s).peers.table sender) = peerAt s.peers.table sender := rfl
  simp only [other, live]
  simp only [reduceCtorEq, ↓reduceIte, get]
  rw [retest_idle]
  · simp [heardAnyPeer, hn, heard, countReceived, putPeer_put]
    exact ⟨by rw [← live]; rfl, h1, rfl⟩
  · show s.node ≠ _
    rw [hn]; simp
  · exact hpend

/-- R38, R21: such a frame is handed to its owning block in the state that `heard` gives. -/
theorem receive_quiet {sender seq : Nat} (h : quiet s sender seq = true) (isReport : Bool) (handle : State → State) :
    receive s sender true (fun t => hearFrame t sender seq isReport handle) = finish (handle (heard s sender seq)) := by
  obtain ⟨hr, hn, hs, hm, h1, hp, -, -⟩ := quiet_parts s h
  rw [receive_delivered s _ hm hr]
  have : ((countReceived s).peer sender).presence ≠ .released := by
    show (s.peer sender).presence ≠ _
    rw [hp]; simp
  rw [hearFrame, if_neg this, noteFrame_quiet s h]

/-! ## The tests of a Move -/

/-- R81: the STATE tests of a Move, as the machine makes them. -/
theorem moveState_iff (q : MoveRequest) :
    moveState s q ↔ (s.node ≠ .active ∨ s.halt.asserted = true ∨
      (namedMoves q).any (fun n => (s.axis n.1).state == .stopping || (s.axis n.1).state == .fault) = true ∨
      (namedMoves q).any (fun n => (s.position n.1).isNone) = true) := by
  unfold moveState
  simp only [List.any_eq_true, Bool.or_eq_true, beq_iff_eq, Option.isNone_iff_eq_none]
  constructor
  · rintro (h | h | ⟨n, hn, h | h | h⟩)
    · exact .inl h
    · exact .inr (.inl h)
    · exact .inr (.inr (.inl ⟨n, hn, .inl h⟩))
    · exact .inr (.inr (.inl ⟨n, hn, .inr h⟩))
    · exact .inr (.inr (.inr ⟨n, hn, h⟩))
  · rintro (h | h | ⟨n, hn, h | h⟩ | ⟨n, hn, h⟩)
    · exact .inl h
    · exact .inr (.inl h)
    · exact .inr (.inr ⟨n, hn, .inl h⟩)
    · exact .inr (.inr ⟨n, hn, .inr (.inl h)⟩)
    · exact .inr (.inr ⟨n, hn, .inr (.inr h)⟩)

/-- R81, R102: the hook test of a Move. -/
theorem moveLowHook_iff : moveLowHook s ↔ hookForbids s = true := by
  unfold moveLowHook hookForbids belowClear
  cases h : s.travel.hoist.referenced <;> simp

/-- R81: the limit test of a Move; R9 gives every window a positive value. -/
theorem moveLimit_iff (hw : ∀ a, 0 ≤ (axisParams s.conf a).window) (q : MoveRequest) :
    moveLimit s q ↔
      (namedMoves q).any (fun n => heldToward s n.1 (clampTarget s.conf n.1 n.2.target)) = true := by
  unfold moveLimit
  simp only [List.any_eq_true]
  constructor
  · rintro ⟨n, hn, x, hx, far, h⟩
    refine ⟨n, hn, ?_⟩
    simp only [heldToward, hx]
    rw [if_neg (by omega)]
    rcases h with ⟨h, e⟩ | ⟨h, e⟩
    · rw [if_pos h, e]
    · rw [if_neg (by omega), e]
  · rintro ⟨n, hn, h⟩
    refine ⟨n, hn, ?_⟩
    unfold heldToward at h
    split at h
    · cases h
    · rename_i x hx
      refine ⟨x, hx, ?_⟩
      split at h
      · cases h
      · rename_i far
        refine ⟨by omega, ?_⟩
        split at h
        · exact .inl ⟨‹_›, h⟩
        · rename_i hlt
          refine .inr ⟨?_, h⟩
          by_contra hge
          have e : clampTarget s.conf n.1 n.2.target = x := by omega
          exact far (by rw [e]; simpa [magnitude] using hw n.1)

/-- R81: a Move passes its tests exactly where no status refuses it. -/
theorem moveAccepted_iff (hw : ∀ a, 0 ≤ (axisParams s.conf a).window) (q : MoveRequest) :
    moveAccepted s q ↔ moveRefusal s q = none := by
  unfold moveAccepted
  rw [moveState_iff, moveLowHook_iff, moveLimit_iff s hw]
  unfold moveRefusal
  dsimp only
  generalize (namedMoves q).any _ = b1
  generalize (namedMoves q).any _ = b2
  generalize (namedMoves q).any _ = b3
  generalize hookForbids s = b4
  generalize s.halt.asserted = b5
  by_cases h : s.node = .active
  · cases b1 <;> cases b2 <;> cases b3 <;> cases b4 <;> cases b5 <;> simp [h]
  · simp [h]

/-! ## The checks of a request -/

/-- A request that passes every check gets the answer of none. -/
theorem inOrder_of_all {answer : Option (Status × Result) → Prop} :
    ∀ {l : List Check}, (∀ c ∈ l, c.1) → answer none → inOrder answer l
  | [], _, h => h
  | c :: _, hc, h => ⟨fun hn => absurd (hc c (by simp)) hn, fun _ => inOrder_of_all (fun d hd => hc d (by simp [hd])) h⟩

/-- Checks made after others are made where those pass. -/
theorem inOrder_append {answer : Option (Status × Result) → Prop} (m : List Check) :
    ∀ l : List Check, inOrder answer (l ++ m) ↔
      inOrder (fun o => match o with | none => inOrder answer m | some r => answer (some r)) l
  | [] => Iff.rfl
  | _ :: l => and_congr Iff.rfl (imp_congr Iff.rfl (inOrder_append m l))

end Sys2Proof.Machine
end

