-- ==== Sys2Proof/Tests/Slice0.lean ====
section
/-! SUPPORT. The model's own tests. First the operands that the well-formedness check refuses; then the figures the manual
works out; then, for each statement of Certificates/Slice0/Obligations.lean that has hypotheses, a state and operands that
meet them (`witness_<statement>…`); then single steps with results read from the manual. -/

namespace Sys2Proof.Tests

open Sys2Proof.Machine

/-! ## A start record and a configured node -/

/-- The fields of an axis. -/
def testAxis (top : Int) : AxisParams := ⟨top, 100, 40, 40, 20, 40, 300, 10, 20, 100, 2000⟩

/-- Rank 2 of 3 on a runway of 60 m, h 2,000 and m 100; four rows of three lowers, two bays; every input active high. -/
def testRecord : StartRecord :=
  { ownRank := 2, craneCount := 3, runway := 60000, halfLength := 2000, margin := 100, restMargin := 500,
    bridge := testAxis 2000, span := 20000, trolley := testAxis 1000, brakeSettle := 100, parkDelay := 1,
    waitTimeout := 1, releaseDelay := 5, polarities := 0x3ff#10, hoistTop := 10000, clearHeight := 5000,
    rowBase := 5000, rowPitch := 3000, rows := 4, lateralBase := 1000, lateralPitch := 2000, lowers := 3,
    saddle := [7, 7, 7, 7, 7, 7, 7, 7], intakeCount := 1, intake0 := ⟨12000, 3000⟩, intake1 := ⟨0, 0⟩, bayCount := 2,
    bay0 := ⟨12000, 4000⟩, bay1 := ⟨20000, 4000⟩, bay2 := ⟨0, 0⟩, bay3 := ⟨0, 0⟩, zeroCount := 0, scale := 65535,
    pick := 1000, releaseLevel := 300, band := 40, settleCount := 5, swl := 20000, tolPerMille := 10, tolMin := 100,
    liftWindow := 100, reportInterval := 50, silenceCount := 4, hostTimeout := 5000 }

/-- An axis standing in HOLDING. -/
def holdingAxis : AxisRecord := { AxisRecord.reset with state := .holding, brake := true, parkTimer := some 1000 }

/-- A move in hand. -/
def testMove (target speed : Int) (d : Side) : MoveRecord := ⟨target, speed, speed, d, none⟩

/-- An axis in MOVING at a setpoint, its commanded position at `x` millimetres. -/
def movingAxis (m : MoveRecord) (v x : Int) : AxisRecord :=
  { AxisRecord.reset with
    state := .moving, brake := true, setpoint := v, commanded := some (100 * x), move := some m, profileTimer := some 10 }

/-- An axis in RELEASING. -/
def releasingAxis (m : MoveRecord) : AxisRecord :=
  { AxisRecord.reset with state := .releasing, brake := true, move := some m, brakeTimer := some 100 }

/-- An axis in SETTLING. -/
def settlingAxis (m : MoveRecord) (x : Int) (u : SettleTimes) : AxisRecord :=
  { movingAxis m 0 x with state := .settling, settle := some u }

/-- An axis in WAITING. -/
def waitingAxis (m : MoveRecord) (x : Int) : AxisRecord :=
  { movingAxis m 0 x with state := .waiting, waitTimer := some 1000 }

/-- An axis in STOPPING. -/
def stoppingAxis (v x : Int) : AxisRecord := { movingAxis (testMove x 100 .high) v x with state := .stopping, move := none }

/-- An axis in FAULT. -/
def faultAxis (x : Int) : AxisRecord :=
  { AxisRecord.reset with state := .fault, brake := true, commanded := some (100 * x) }

/-- A LIVE peer with a claim. -/
def livePeer (last : Nat) (claim : Interval) : PeerRecord :=
  { PeerRecord.reset with presence := .live, lastSeq := some last, silence := some 200, claim := some claim }

/-- The node ACTIVE with the claim [8,000, 40,000] between its two peers: both axes HOLDING at (20,000, 4,000), the hook empty
and referenced, the sensor OK and tared, row 2 KNOWN with a coil in its first lower slot. -/
def yard : State :=
  { State.reset with
    record := some testRecord, node := .active
    inputs := { Inputs.reset with
      bridge := ⟨some 20000, false, false, false, false⟩, trolley := ⟨some 4000, false, false, false, false⟩ }
    link := { Link.reset with seq := 7, reportTimer := some 50 }
    peers := { Peers.reset with
      table := { Peers.reset.table with
        rank1 := livePeer 10 ⟨0, 8000⟩, rank3 := livePeer 20 ⟨40000, 60000⟩ }
      isolation := some 200 }
    claim := { ClaimRecord.reset with confirmed := some ⟨8000, 40000⟩ }
    travel := ⟨holdingAxis, holdingAxis, ⟨9000, true⟩⟩
    weigher := { Weigher.reset with
      converter := .armed, raw := some 0, window := [0, 0, 0, 0, 0, 0, 0, 0], filtered := some 0, tared := true
      timer := some 100 }
    store := { Store.reset with
      slots := [(32, .occupied 7 (some 5000) 1), (33, .free), (34, .blocked), (40, .free), (41, .free)]
      rows := [(2, ⟨true, false⟩)] }
    port := { Port.reset with hostTimer := some 5000 } }

/-- The yard with another record for one axis. -/
def yardWith (a : Axis) (r : AxisRecord) : State := yard.withAxis a r

/-- The yard with other parts. -/
def yardClaim (k : ClaimRecord) : State := { yard with claim := k }
def yardPeer (rank : Nat) (p : PeerRecord) : State := yard.withPeer rank p
def yardStore (slots : Table SlotRecord) (rows : Table RowRecord) : State :=
  { yard with store := { yard.store with slots := slots, rows := rows } }
def yardTasks (t : Tasks) : State := { yard with tasks := t }
def yardWeigher (w : Weigher) : State := { yard with weigher := w }
def yardHalt (h : HaltUnit) (level : Bool) : State :=
  { yard with halt := h, inputs := { yard.inputs with haltLine := level } }

/-- The yard before its start record. -/
def bare : State := { State.reset with inputs := yard.inputs }

/-- One part of what a command leaves. -/
def after {α : Type} (c : Instr) (s : State) (f : State → α) : Option α :=
  match exec c s with
  | .next t => some (f t)
  | .fault _ | .refused _ => none

/-- Every promise of Safety.lean at once. -/
def kept (s : State) : Bool :=
  eventsOk s.port && transmitterOk s.port && queueOk s.link && lineOk s && axesOk s && haltedOk s && speedOk s .bridge
    && speedOk s .trolley && claimOk s && boundsOk s && tablesOk s && baysOk s && peersOk s && configuredOk s && settled s
    && ready s

theorem test_yard_kept : kept yard = true := by decide
theorem test_bare_kept : kept bare = true := by decide

/-! ## Well-formed operands -/

theorem test_wf_tag : (Instr.halt 256 (.fields ())).wf = false ∧ (Instr.halt 255 (.fields ())).wf = true := by decide
theorem test_wf_sender : (Instr.join 256 0 ⟨0, 0⟩).wf = false ∧ (Instr.join 1 65536 ⟨0, 0⟩).wf = false ∧
    (Instr.join 1 0 ⟨-1, 0⟩).wf = false ∧ (Instr.join 1 0 ⟨0, 4294967296⟩).wf = false ∧
    (Instr.join 255 65535 ⟨0, 4294967295⟩).wf = true := by decide
theorem test_wf_rank : (Instr.silenceTimeout 0).wf = false ∧ (Instr.armingExpiry 9).wf = false ∧
    (Instr.releaseWindowExpiry 0).wf = false ∧ (Instr.peerJoinWindowExpiry 9).wf = false ∧
    (Instr.peerJoinWindowExpiry 8).wf = true := by decide
theorem test_wf_move : (Instr.move 1 (.fields ⟨none, none⟩)).wf = false ∧
    (Instr.move 1 (.fields ⟨some ⟨2147483648, 0⟩, none⟩)).wf = false ∧
    (Instr.move 1 (.fields ⟨none, some ⟨0, -2147483649⟩⟩)).wf = false ∧
    (Instr.move 1 (.fields ⟨some ⟨2147483647, -2147483648⟩, none⟩)).wf = true := by decide
theorem test_wf_go_to : (Instr.goTo 1 (.fields ⟨.slot 65536, 0, 0⟩)).wf = false ∧
    (Instr.goTo 1 (.fields ⟨.cradle 0 256, 0, 0⟩)).wf = false ∧ (Instr.goTo 1 (.fields ⟨.intake 256, 0, 0⟩)).wf = false ∧
    (Instr.goTo 1 (.fields ⟨.hook, 2147483648, 0⟩)).wf = false ∧ (Instr.goTo 1 (.fields ⟨.hook, 0, 0⟩)).wf = true := by
  decide
theorem test_wf_set_speed : (Instr.setSpeed 1 (.fields ⟨none, none⟩)).wf = false ∧
    (Instr.setSpeed 1 (.fields ⟨some 2147483648, none⟩)).wf = false ∧
    (Instr.setSpeed 1 (.fields ⟨none, some (-1)⟩)).wf = true := by decide
theorem test_wf_stop_move : (Instr.stopMove 1 (.fields ⟨false, false⟩)).wf = false ∧
    (Instr.stopMove 1 (.fields ⟨false, true⟩)).wf = true := by decide
theorem test_wf_configure : (Instr.configure 1 (.fields { testRecord with saddle := [7, 7, 7] })).wf = false ∧
    (Instr.configure 1 (.fields { testRecord with ownRank := 256 })).wf = false ∧
    (Instr.configure 1 (.fields { testRecord with runway := 4294967296 })).wf = false ∧
    (Instr.configure 1 (.fields { testRecord with zeroCount := -2147483649 })).wf = false ∧
    (Instr.configure 1 (.fields { testRecord with intake1 := ⟨0, 65536⟩ })).wf = false ∧
    (Instr.configure 1 (.fields { testRecord with bridge := { testAxis 2000 with accel := 256 } })).wf = false ∧
    (Instr.configure 1 (.fields testRecord)).wf = true := by decide
theorem test_wf_begin_task : (Instr.beginTask 1 (.fields ⟨.store, .intake 0, .slot 33, none⟩)).wf = false ∧
    (Instr.beginTask 1 (.fields ⟨.shift, .slot 32, .slot 33, some ⟨1, 0, none⟩⟩)).wf = false ∧
    (Instr.beginTask 1 (.fields ⟨.store, .intake 0, .slot 33, some ⟨4294967296, 0, none⟩⟩)).wf = false ∧
    (Instr.beginTask 1 (.fields ⟨.store, .intake 0, .slot 33, some ⟨9, 1, some 65536⟩⟩)).wf = false ∧
    (Instr.beginTask 1 (.fields ⟨.store, .intake 0, .slot 33, some ⟨9, 1, some 5000⟩⟩)).wf = true := by decide
theorem test_wf_row_and_slot : (Instr.readRow 1 (.fields 256)).wf = false ∧ (Instr.blockSlot 1 (.fields 65536)).wf = false ∧
    (Instr.unblockSlot 1 (.fields 65535)).wf = true ∧ (Instr.abortTask 1 (.fields 256)).wf = false ∧
    (Instr.closeBay 1 (.fields 256)).wf = false ∧ (Instr.prepareRelease 1 (.fields ⟨3, 65536⟩)).wf = false ∧
    (Instr.prepareRelease 1 (.fields ⟨3, 65535⟩)).wf = true := by decide
theorem test_wf_survey : (Instr.surveyRow 1 (.fields ⟨256, []⟩)).wf = false ∧
    (Instr.surveyRow 1 (.fields ⟨2, [.occupied 1 (some 2147483648) 0]⟩)).wf = false ∧
    (Instr.surveyRow 1 (.fields ⟨2, [.free, .occupied 1 none 7, .blocked]⟩)).wf = true := by decide
theorem test_wf_survey_length : (Instr.surveyRow 1 (.fields ⟨2, List.replicate 256 .free⟩)).wf = false := by
  decide +kernel
theorem test_wf_trailer : (Instr.dockTruck 1 (.fields ⟨0, ⟨1000, 8000, 2, [2000], 9, 9, 9, 1⟩⟩)).wf = false ∧
    (Instr.dockTruck 1 (.fields ⟨0, ⟨1000, 8000, 1, [65536], 9, 9, 9, 1⟩⟩)).wf = false ∧
    (Instr.dockTruck 1 (.fields ⟨0, ⟨1000, 8000, 2, [2000, 3500], 9, 9, 9, 1⟩⟩)).wf = true := by decide
theorem test_wf_unknown_request : (Instr.unknownRequest 27 1).wf = false ∧ (Instr.unknownRequest 1 1).wf = false ∧
    (Instr.unknownRequest 256 1).wf = false ∧ (Instr.unknownRequest 0 1).wf = true ∧
    (Instr.unknownRequest 28 1).wf = true := by decide
theorem test_wf_framing : (Instr.incomplete (some (256, 0))).wf = false ∧ (Instr.incomplete none).wf = true ∧
    (Instr.badCheck 0 256).wf = false ∧ (Instr.busy 256 0).wf = false ∧ (Instr.busy 5 255).wf = true := by decide
theorem test_wf_report : (Instr.positionReport 1 0 ⟨.listening, none, 0, none, .empty, none⟩).wf = false ∧
    (Instr.positionReport 1 0 ⟨.active, some (-1), 0, none, .empty, none⟩).wf = false ∧
    (Instr.positionReport 1 0 ⟨.active, none, 32768, none, .empty, none⟩).wf = false ∧
    (Instr.positionReport 1 0 ⟨.active, none, -32768, some ⟨0, 8000⟩, .loaded, some 4294967295⟩).wf = true := by decide
theorem test_wf_peer_frames : (Instr.extend 1 0 ⟨.low, -1, none⟩).wf = false ∧
    (Instr.extend 1 0 ⟨.low, 0, some 65536⟩).wf = false ∧ (Instr.objection 1 0 ⟨256, 0, .void⟩).wf = false ∧
    (Instr.release 1 0 ⟨3, 65536⟩).wf = false ∧ (Instr.makeWay 1 0 ⟨2, 4294967296⟩).wf = false ∧
    (Instr.slotQuery 1 0 ⟨0, 256⟩).wf = false ∧ (Instr.slotQuery 1 0 ⟨255, 255⟩).wf = true := by decide
theorem test_wf_store_notice : (Instr.storeNotice 1 0 ⟨none, []⟩).wf = false ∧
    (Instr.storeNotice 1 0 ⟨none, List.replicate 7 ⟨0, .free, 0, none, none⟩⟩).wf = false ∧
    (Instr.storeNotice 1 0 ⟨none, [⟨0, .free, 8, none, none⟩]⟩).wf = false ∧
    (Instr.storeNotice 1 0 ⟨some 256, [⟨0, .free, 0, none, none⟩]⟩).wf = false ∧
    (Instr.storeNotice 1 0 ⟨some 255, List.replicate 6 ⟨0, .occupied, 7, some 1, some 65535⟩⟩).wf = true := by decide
theorem test_wf_bay_notice : (Instr.bayNotice 1 0 (.fields ⟨0, .empty, 256, none⟩)).wf = false ∧
    (Instr.bayNotice 1 0 (.fields ⟨0, .docked, 0, none⟩)).wf = false ∧
    (Instr.bayNotice 1 0 (.fields ⟨0, .docked, 1, some ⟨⟨1000, 8000, 1, [2000], 9, 9, 9, 8⟩, [.empty]⟩⟩)).wf = false ∧
    (Instr.bayNotice 1 0 (.fields ⟨0, .docked, 1, some ⟨⟨1000, 8000, 1, [2000], 9, 9, 9, 1⟩, []⟩⟩)).wf = false ∧
    (Instr.bayNotice 1 0 (.fields ⟨0, .docked, 1, some ⟨⟨1000, 8000, 1, [2000], 9, 9, 9, 1⟩, [.unnamed 65536]⟩⟩)).wf
      = false ∧
    (Instr.bayNotice 1 0 (.fields ⟨0, .docked, 1, some ⟨⟨1000, 8000, 1, [2000], 9, 9, 9, 1⟩, [.empty]⟩⟩)).wf = true := by
  decide

/-! ## Figures of the manual -/

/-- R56, and the approach of Chapter 5. -/
theorem test_stop_distance_figures : stopDistance 3000 1 = 44985 ∧ stopDistance 100 2 = 25 ∧ stopDistance 1 2 = 0 ∧
    creepDistance 100 1000 4 = 1233 ∧ creepDistance 100 996 4 = 1224 ∧ creepDistance 100 100 4 = 0 := by decide

/-- The worked geometry of Chapter 1: h 6,000, m 500. -/
def workedRecord : StartRecord :=
  { testRecord with
    craneCount := 5, ownRank := 4, runway := 120000, halfLength := 6000, margin := 500, rowBase := 20000, rows := 30
    lateralBase := 4000, lateralPitch := 2200, lowers := 6, span := 22000, bay0 := ⟨90000, 18000⟩, bayCount := 1
    tolPerMille := 15, tolMin := 100, intakeCount := 0 }

/-- A node with that record and a claim. -/
def workedNode (k : Interval) (b : BayRecord) : State :=
  { State.reset with
    record := some workedRecord, node := .active, claim := { ClaimRecord.reset with confirmed := some k }
    bays := { Bays.reset with bay0 := b } }

/-- Section 1.3: rows and slots. -/
theorem test_worked_slots : bridgeMin workedRecord = 6500 ∧ bridgeMax workedRecord = 113500 ∧
    rowX workedRecord 29 = 107000 ∧ slotPoint workedRecord 165 = ⟨50000, 15000⟩ ∧
    slotPoint workedRecord 170 = ⟨50000, 9500⟩ ∧ slotInUse workedRecord 170 = true ∧
    slotInUse workedRecord 166 = false ∧ slotInUse workedRecord 172 = true ∧ slotInUse workedRecord 173 = false := by
  decide

/-- Section 1.5: the rows a claim covers. -/
theorem test_worked_coverage : (List.range 30).filter (rowCovered (workedNode ⟨40000, 60000⟩ .reset)) = [9, 10, 11] := by
  decide

/-- Chapter 10: the trailer of the worked figures. -/
def workedTrailer : Trailer := ⟨1000, 8000, 3, [2500, 5000, 7500], 27000, 16000, 40000, 2⟩

/-- Section 1.5: an empty bay and a docked one. -/
theorem test_worked_bay_coverage :
    bayCoverage (workedNode ⟨83000, 100000⟩ .reset) 0 = ⟨83500, 96500⟩ ∧
    bayCovered (workedNode ⟨83000, 100000⟩ .reset) 0 = true ∧
    bayCoverage (workedNode ⟨83000, 100000⟩ ⟨.docked, some ⟨workedTrailer, 2, [.empty, .empty, .empty]⟩, some .own, false⟩) 0
      = ⟨86000, 104000⟩ ∧
    bayCovered (workedNode ⟨83000, 100000⟩ ⟨.docked, some ⟨workedTrailer, 2, [.empty, .empty, .empty]⟩, some .own, false⟩) 0
      = false := by decide

/-- Chapter 10: the loads of the trailer, placement by placement. -/
theorem test_worked_trailer_loads : trailerOk workedTrailer = true ∧
    worstCase workedRecord 20000 = 20300 ∧ worstCase workedRecord 18000 = 18270 ∧
    trailerLoads workedTrailer [(5000, 20300)] = ⟨10150, 10150, 20300⟩ ∧
    trailerLoads workedTrailer [(5000, 20000), (2500, 18270)] = ⟨13426, 24844, 38270⟩ ∧
    trailerLoads workedTrailer [(5000, 20000), (7500, 18270)] = ⟨24845, 13425, 38270⟩ ∧
    trailerLoads workedTrailer [(5000, 20000), (7500, 18120)] = ⟨24723, 13397, 38120⟩ ∧
    overloadOf workedTrailer ⟨13426, 24844, 38270⟩ = some (.overload .kingpin 24844 16000) ∧
    overloadOf workedTrailer ⟨24845, 13425, 38270⟩ = none := by decide

/-- R117: the conversion, ties away from zero. -/
theorem test_gross_figures :
    let c (zero scale : Int) : StartRecord := { testRecord with zeroCount := zero, scale := scale }
    grossOf (c 120000 4096) 120008 = 1 ∧ grossOf (c 120000 4096) 119992 = -1 ∧ grossOf (c 120000 4096) 120007 = 0 ∧
    grossOf (c (-8388608) 65535) 8388606 = 16776958 := by decide

/-- R116, R117: the raw count is signed, its first byte the most significant. -/
theorem test_raw_count : rawCount 0x80#8 0#8 0#8 = -8388608 ∧ rawCount 0x7f#8 0xff#8 0xff#8 = 8388607 ∧
    rawCount 0x01#8 0x02#8 0x03#8 = 66051 ∧ rawCount 0xff#8 0xff#8 0xfe#8 = -2 := by decide

/-- Chapter 7, a coil taken up: the means of samples 2, 4, 8 and 9. -/
theorem test_filtered_figures : filteredOf [2350, 2350, 2350, 2350, 2350, 2350, 9000, 16000] = 4888 ∧
    filteredOf [2350, 2350, 2350, 2350, 9000, 16000, 20340, 20360] = 9388 ∧
    filteredOf [9000, 16000, 20340, 20360, 20350, 20340, 20360, 20350] = 18388 ∧
    filteredOf [-3, -2] = -3 ∧ joinWindow [1, 2, 3, 4, 5, 6, 7, 8] 9 = [2, 3, 4, 5, 6, 7, 8, 9] := by decide

/-- Chapter 5, a bridge approach: the three periods of the table. -/
theorem test_approach_figures :
    let p : AxisParams := ⟨2000, 100, 4, 4, 2, 10, 200, 10, 5, 100, 2000⟩
    nextSpeed p 4 1000 1000 1450 = 1000 ∧ nextSpeed p 4 1000 1000 1440 = 996 ∧ nextSpeed p 4 1000 996 1430 = 992 ∧
    nextSpeed p 4 1000 100 10 = 0 := by decide

/-- Chapter 4, two neighbours and one gap: rank 4 finds room to 56,000 of the 49,500 it wants, and rank 3 limits it. -/
theorem test_gap_figures :
    let s : State := { workedNode ⟨60000, 80000⟩ .reset with
      peers := { Peers.reset with table := { Peers.reset.table with
        rank3 := { livePeer 200 ⟨30000, 48000⟩ with extension := some ⟨.high, 56000, 201, 100⟩ } } } }
    wantedFor workedRecord ⟨60000, 80000⟩ 56000 = some ⟨.low, 49500⟩ ∧ gapEdge s ⟨60000, 80000⟩ .low = 56000 ∧
    limitingRank s ⟨60000, 80000⟩ .low = some 3 ∧ overlapsTested s 4 ⟨49500, 60000⟩ = true ∧
    overlapsTested s 4 ⟨56000, 60000⟩ = false ∧ bridgeLimit s .low = some 66500 := by decide

/-- Section 12.2: the tolerances of the two lifts. -/
theorem test_weight_tolerance : weightTolerance workedRecord 12400 = 186 ∧ weightTolerance workedRecord 17900 = 269 := by
  decide

/-- Sections 12.2 and 12.3: what rests on what. -/
theorem test_supports : supports 394 = (386, 387) ∧ uppersOn workedRecord 386 = [393, 394] ∧
    uppersOn workedRecord 162 = [169, 170] ∧ uppersOn workedRecord 160 = [168] ∧ uppersOn workedRecord 165 = [172] := by
  decide

/-! ## Bytes -/

/-- R19: the generator 0x1021 with initial value 0xFFFF gives its well-known value for the nine digits. -/
theorem test_crc : crc [0x31#8, 0x32#8, 0x33#8, 0x34#8, 0x35#8, 0x36#8, 0x37#8, 0x38#8, 0x39#8] = 0x29B1#16 := by
  decide +kernel

/-- Sections 2.3 and 2.4: the bytes of a Join, an Extend with a view sequence, an Objection, a Release and a Make Way, but
for the two check bytes: rank, kind, sequence, length, payload. -/
theorem test_frame_bytes :
    checkedBytes 3 0x1234 (.join ⟨0x11223344, 0x55667788⟩) =
      [3, 2, 0x12, 0x34, 8, 0x11, 0x22, 0x33, 0x44, 0x55, 0x66, 0x77, 0x88] ∧
    checkedBytes 3 201 (.extend ⟨.high, 56000, some 512⟩) = [3, 3, 0, 201, 8, 1, 1, 0, 0, 0xda, 0xc0, 2, 0] ∧
    checkedBytes 4 0 (.objection ⟨3, 513, .void⟩) = [4, 4, 0, 0, 4, 3, 2, 1, 2] ∧
    checkedBytes 1 2 (.release ⟨4, 260⟩) = [1, 5, 0, 2, 3, 4, 1, 4] ∧
    checkedBytes 4 1 (.makeWay ⟨3, 49500⟩) = [4, 6, 0, 1, 5, 3, 0, 0, 0xc1, 0x5c] := by decide

/-- Section 2.4: a Position Report of an ACTIVE node with a claim and a valid position and no coil, creeping toward −X. -/
theorem test_report_bytes : reportBytes ⟨.active, some 258, -100, some ⟨1, 2⟩, .taking, none⟩ =
    [4, 5, 0, 0, 1, 2, 0xff, 0x9c, 0, 0, 0, 1, 0, 0, 0, 2, 1, 0, 0, 0, 0] := by decide

/-- Section 2.4: a Store Notice that answers query tag 9 with slot 164 OCCUPIED, coil 70,150, class 4, 17,900 kg. -/
theorem test_store_notice_bytes : storeNoticeBytes ⟨some 9, [⟨164, .occupied, 4, some 70150, some 17900⟩]⟩ =
    [1, 9, 1, 0, 164, 2, 0xc4, 0, 1, 0x12, 0x06, 0x45, 0xec] := by decide

/-- Chapter 10: the last notice of the worked trailer has 34 bytes; the six bytes and the cradle states stand where R183 puts
them. -/
theorem test_bay_notice_bytes : bayNoticeBytes ⟨0, .closed, 0, some ⟨workedTrailer, [.empty, .loaded 61007 20000,
      .loaded 61030 18120]⟩⟩ =
    [0, 3, 0, 0x23, 0x03, 0xe8, 0x1f, 0x40, 0x69, 0x78, 0x3e, 0x80, 0x9c, 0x40, 0, 0x28, 0x09, 0xc4, 0x13, 0x88, 0x1d, 0x4c,
      0, 0, 0xee, 0x4f, 0x4e, 0x20, 0, 0, 0xee, 0x66, 0x46, 0xc8] := by decide

/-- R19, R20: a Slot Query of rank 3 for row 9 with tag 5 is received; with a byte of its check changed, cut short or with a
kind that there is not it is a check error. -/
theorem test_received_bytes :
    let head : List Byte := [3, 9, 0, 7, 2, 9, 5]
    linkCommand (head ++ crcBytes head) = .slotQuery 3 7 ⟨9, 5⟩ ∧ linkCommand (head ++ [0, 0]) = .checkError .badCheck ∧
    linkCommand head = .checkError .endsEarly ∧
    linkCommand ([3, 10, 0, 7, 0] ++ crcBytes [3, 10, 0, 7, 0]) = .checkError .malformed := by
  decide +kernel

/-! ## Witnesses: the step, reset and the invariants -/

theorem witness_EveryCommandCompletes : timerOf yard .joinWindowExpiry = some none ∧
    timerOf yard (.silenceTimeout 8) = some none ∧ timerOf yard (.profilePeriod .bridge) = some none ∧
    yard.pending = [] := by decide

/-- A response being sent, and an immediate answer being sent. -/
def sendingResponse (kind : Nat) (st : Status) : State :=
  { yard with port := { yard.port with inHand := some (kind, 1), transmit := [⟨false, kind, 1, st, .none⟩] } }
def sendingAnswer : State := { yard with port := { yard.port with transmit := [⟨true, 5, 1, .error, .badCheck⟩] } }

theorem witness_ResetAndResponseSent : ready yard = true ∧ settled yard = true ∧ yard.port.transmit = [] ∧
    sendingAnswer.port.transmit = [⟨true, 5, 1, .error, .badCheck⟩] ∧
    (sendingResponse 27 .ok).port.transmit = [⟨false, 27, 1, .ok, .none⟩] ∧
    (sendingResponse 27 .range).port.transmit = [⟨false, 27, 1, .range, .none⟩] ∧
    (sendingResponse 26 .ok).port.transmit = [⟨false, 26, 1, .ok, .none⟩] := by decide

/-- The yard with one command waiting. -/
def waitingYard (s : State) (c : Instr) : State := { s with pending := [c] }

/-- A halted node whose bridge is stopping from 500 mm/s. -/
def haltedYard : State :=
  { yardHalt ⟨{ HaltReasons.clear with host := true }, true, true, false⟩ true with
    travel := ⟨stoppingAxis 500 20000, holdingAxis, ⟨9000, true⟩⟩ }

/-- A node whose bridge travels at 500 mm/s. -/
def movingYard : State := yardWith .bridge (movingAxis (testMove 30000 1000 .high) 500 20000)

/-- For EventsAndTransmitterKept, TransmitQueueKept, HaltLineStateKept, AxesAsTheirStates, SpeedsKept, RecordAndClaimsKept and
BoundsAndTablesKept: their promises hold in each of these states, one of them halted at speed, and a step is taken from it. -/
theorem witness_invariants_kept :
    (kept (waitingYard yard (.halt 1 (.fields ()))) = true ∧ ∃ t, step (waitingYard yard (.halt 1 (.fields ()))) = .next t) ∧
    (kept (waitingYard movingYard (.profilePeriod .bridge)) = true ∧
      ∃ t, step (waitingYard movingYard (.profilePeriod .bridge)) = .next t) ∧
    (kept (waitingYard haltedYard (.profilePeriod .bridge)) = true ∧ haltedYard.halt.asserted = true ∧
      ∃ t, step (waitingYard haltedYard (.profilePeriod .bridge)) = .next t) ∧
    kept (waitingYard yard (.objection 1 11 ⟨2, 0, .void⟩)) = true ∧
    (∃ t, step (waitingYard yard (.objection 1 11 ⟨2, 0, .void⟩)) = .next t) :=
  ⟨⟨by decide, _, rfl⟩, ⟨by decide, _, rfl⟩, ⟨by decide, by decide, _, rfl⟩, by decide, _, rfl⟩

theorem witness_LinkFramesDecode : (commandOf 3 7 (.slotQuery ⟨255, 255⟩)).wf = true ∧
    (commandOf 8 65535 (.report ⟨.voided, some 4294967295, -32768, some ⟨0, 4294967295⟩, .giving, some 4294967295⟩)).wf
      = true ∧
    (commandOf 1 0 (.bayNotice ⟨3, .closed, 0, some ⟨workedTrailer, [.empty, .loaded 61007 20000, .unnamed 65535]⟩⟩)).wf
      = true := by decide

/-! ## Witnesses: the Service Port and the start record -/

/-- A request is in hand, alone and with an immediate answer waiting. -/
def busyYard (waiting : List PortFrame) : State :=
  { yard with port := { yard.port with inHand := some (5, 1), transmit := ⟨false, 5, 1, .ok, .none⟩ :: waiting } }

theorem witness_RequestWhileInHand : (busyYard []).port.receiver ≠ .resync ∧ (busyYard []).port.inHand.isSome = true ∧
    (busyYard []).port.transmit.tail.any (·.immediate) = false ∧
    (busyYard [⟨true, 6, 2, .busy, .none⟩]).port.transmit.tail.any (·.immediate) = true ∧
    requestHeader (.halt 255 (.fields ())) = some (25, 255) ∧ requestHeader (.unknownRequest 0 0) = some (0, 0) ∧
    requestHeader (.move 1 .misfit) = some (5, 1) := by decide

theorem witness_RequestsRefusedAsAWhole : ready bare = true ∧ settled bare = true ∧ bare.record = none ∧
    requestHeader (.unknownRequest 28 1) = some (28, 1) ∧
    (requestHeader (.move 1 .misfit) = some (5, 1) ∧ handledEarly 5 = false) ∧
    (requestHeader (.restart 1 .misfit) = some (27, 1) ∧ handledEarly 27 = true ∧ unfit (.restart 1 .misfit) = true) ∧
    (requestHeader (.configure 1 .misfit) = some (1, 1) ∧ handledEarly 1 = true ∧ unfit (.configure 1 .misfit) = true) ∧
    ready yard = true ∧ settled yard = true ∧ yard.record.isSome = true ∧ unfit (.move 1 .misfit) = true := by decide

/-- The payload lengths 0 and 512 at the ends, a wrong CRC, and the shortest and longest impossible length. -/
theorem witness_FramingFailures : yard.port.receiver ≠ .resync ∧
    { yard.port with receiver := .resync }.receiver = .resync ∧ (∀ b ∈ [0x5a#8, 0#8], b ≠ 0xA5#8) ∧
    (25 : Nat) < 256 ∧ (255 : Nat) < 256 ∧ ([] : List Byte).length ≤ 512 ∧ (List.replicate 512 0#8).length = 512 ∧
    [0#8, 0#8] ≠ crcBytes (portChecked 25 255 []) ∧ (5 : Nat) < ([] : List Byte).length + 6 ∧ (512 : Nat) < 513 ∧
    (65535 : Nat) < 65536 := by decide +kernel

theorem witness_ReadingRequests : ready yard = true ∧ settled yard = true ∧ yard.record.isSome = true ∧
    3 < yard.conf.rows ∧ yard.conf.rows ≤ 4 ∧ 1 < yard.conf.bayCount ∧ yard.conf.bayCount ≤ 2 ∧
    ready bare = true ∧ settled bare = true ∧ bare.record = none := by decide

/-- Two events are pending: event 0 once, event 11 twice. -/
def eventfulYard : State :=
  raiseEvent (raiseEvent (raiseEvent yard (.limit .bridge .low false)) (.moveDone .bridge .done 20000 (some 20000)))
    (.limit .trolley .high true)

theorem witness_ReadEventsClears : ready eventfulYard = true ∧ settled eventfulYard = true ∧
    eventsOk eventfulYard.port = true ∧ (eventAt eventfulYard.port 0).pending = true ∧
    (eventAt eventfulYard.port 11).pending = true := by decide

theorem witness_SetEventMask : ready eventfulYard = true ∧ settled eventfulYard = true ∧
    eventfulYard.record.isSome = true ∧ eventsOk eventfulYard.port = true ∧ bare.record = none := by decide

theorem witness_StartRecordDecides : ready yard = true ∧ settled yard = true ∧ yard.node ≠ .unconfigured ∧
    ready bare = true ∧ settled bare = true ∧ bare.node = .unconfigured ∧
    startRecordFailure { testRecord with hostTimeout := 99 } = some 64 ∧ startRecordFailure testRecord = none ∧
    bare.travel.bridge.state = .parked ∧ bare.travel.trolley.state = .parked ∧
    startRecordFailure { testRecord with ownRank := 0 } = some 1 ∧
    startRecordFailure { testRecord with ownRank := 9 } = some 1 ∧
    startRecordFailure { testRecord with craneCount := 1 } = some 1 := by decide

/-! ## Witnesses: travel -/

/-- The Moves of these tests. -/
def bridgeTo (x : Int) : MoveRequest := ⟨some ⟨x, 1000⟩, none⟩
def bothTo (x y : Int) : MoveRequest := ⟨some ⟨x, 1000⟩, some ⟨y, 500⟩⟩

theorem accepted_by_tests (s : State) (q : MoveRequest) (hr : s.record = some testRecord) (h : moveRefusal s q = none) :
    moveAccepted s q :=
  (moveAccepted_iff s (by intro a; simp only [State.conf, hr]; cases a <;> decide) q).mpr h

theorem witness_MoveRefusals : ready yard = true ∧ settled yard = true ∧ yard.record.isSome = true ∧
    moveState { yard with node := .isolated } (bridgeTo 25000) ∧ moveState haltedYard (bridgeTo 25000) ∧
    moveState (yardWith .bridge (stoppingAxis 500 20000)) (bridgeTo 25000) ∧
    (let s : State := { yardWeigher { yard.weigher with load := .taking } with
      travel := ⟨holdingAxis, holdingAxis, ⟨4999, true⟩⟩ }
     ready s = true ∧ settled s = true ∧ ¬ moveState s (bridgeTo 25000) ∧ moveLowHook s) ∧
    (let s := yardWith .bridge { holdingAxis with highHold := true }
     ready s = true ∧ settled s = true ∧ ¬ moveState s (bridgeTo 20021) ∧ ¬ moveLowHook s ∧ moveLimit s (bridgeTo 20021)) := by
  refine ⟨by decide, by decide, by decide, .inl (by decide), .inr (.inl (by decide)),
    .inr (.inr ⟨(.bridge, ⟨25000, 1000⟩), by decide, .inl (by decide)⟩), ⟨by decide, by decide, ?_, ?_⟩,
    ⟨by decide, by decide, ?_, ?_, (.bridge, ⟨20021, 1000⟩), by decide, 20000, rfl, by decide, .inl (by decide)⟩⟩
  · unfold moveState; decide
  · unfold moveLowHook; decide
  · unfold moveState; decide
  · unfold moveLowHook; decide

/-- Every axis state that takes a Move up, and one axis in place while the other is not. -/
theorem witness_MoveTakenUp :
    let fits (s : State) (q : MoveRequest) : Prop := ready s = true ∧ settled s = true ∧ s.record.isSome = true ∧
      configuredOk s = true ∧ moveAccepted s q
    fits yard (bridgeTo 20020) ∧ fits yard (bridgeTo 20021) ∧ fits yard (bothTo 20000 9000) ∧
    fits (yardWith .bridge .reset) (bridgeTo 57901) ∧
    fits (yardWith .bridge (releasingAxis (testMove 25000 800 .high))) (bridgeTo 15000) ∧
    fits (yardWith .bridge (movingAxis (testMove 25000 800 .high) 700 20000)) (bridgeTo 30000) ∧
    fits (yardWith .bridge (settlingAxis (testMove 20000 800 .high) 20000 ⟨0, 0⟩)) (bridgeTo 30000) ∧
    fits (yardWith .bridge (waitingAxis (testMove 50000 800 .high) 20000)) (bridgeTo 30000) := by
  refine ⟨?_, ?_, ?_, ?_, ?_, ?_, ?_, ?_⟩ <;>
    exact ⟨by decide, by decide, by decide, by decide, accepted_by_tests _ _ rfl (by decide)⟩

/-- Bay 0 with the worked trailer's cradles, one LOADED. -/
def dockedYard : State :=
  yard.withBay 0 ⟨.docked, some ⟨workedTrailer, 2, [.empty, .empty, .empty]⟩, some .own, false⟩

/-- A slot, an intake point and a cradle to go to; axes PARKED, HOLDING and MOVING, and the trolley already in its place. -/
theorem witness_GoToAPlace :
    let fits (s : State) : Prop := ready s = true ∧ settled s = true ∧ s.record.isSome = true ∧ configuredOk s = true
    let goal (x y : Int) : MoveRequest := ⟨some ⟨x, 1000⟩, some ⟨y, 500⟩⟩
    (fits yard ∧ slotInUse yard.conf 33 = true ∧ moveAccepted yard (goal 11000 3000)) ∧
    (0 < yard.conf.intakeCount ∧ moveAccepted yard (goal 12000 3000)) ∧
    (fits dockedYard ∧ (dockedYard.bay 0).load = some ⟨workedTrailer, 2, [.empty, .empty, .empty]⟩ ∧
      moveAccepted dockedYard (goal 19500 4000)) ∧
    (let s := { yard with travel := ⟨.reset, movingAxis (testMove 9000 500 .high) 100 4000, ⟨9000, true⟩⟩ }
     fits s ∧ moveAccepted s (goal 11000 3000)) ∧
    slotInUse yard.conf 35 = false ∧ slotInUse yard.conf 64 = false ∧ yard.conf.intakeCount ≤ 1 ∧
    yard.conf.bayCount ≤ 2 ∧ 1 < yard.conf.bayCount ∧ (yard.bay 1).load = none ∧ workedTrailer.count < 4 :=
  ⟨⟨by decide, by decide, accepted_by_tests _ _ rfl (by decide)⟩, ⟨by decide, accepted_by_tests _ _ rfl (by decide)⟩,
    ⟨by decide, rfl, accepted_by_tests _ _ rfl (by decide)⟩, ⟨by decide, accepted_by_tests _ _ rfl (by decide)⟩, by decide⟩

theorem witness_SetSpeedOfAMove :
    let both : State := { movingYard with
      travel := { movingYard.travel with trolley := movingAxis (testMove 9000 500 .high) 100 4000 } }
    (ready both = true ∧ settled both = true ∧ both.record.isSome = true ∧ both.node = .active ∧
      both.travel.bridge.move = some (testMove 30000 1000 .high) ∧ (testMove 30000 1000 .high).stopOrder = none ∧
      both.travel.trolley.move = some (testMove 9000 500 .high)) ∧
    (ready yard = true ∧ settled yard = true ∧ yard.record.isSome = true ∧ yard.travel.bridge.move = none) := by decide

theorem witness_StopMoveByAxisState :
    let fits (s : State) : Bool := ready s && settled s && s.record.isSome && axesOk s
    fits movingYard = true ∧ movingYard.travel.bridge.state = .moving ∧ fits yard = true ∧ fits haltedYard = true ∧
    fits (yardWith .bridge (releasingAxis (testMove 25000 800 .high))) = true ∧
    fits (yardWith .bridge (settlingAxis (testMove 20000 800 .high) 20000 ⟨0, 0⟩)) = true ∧
    fits (yardWith .bridge (waitingAxis (testMove 50000 800 .high) 20000)) = true ∧
    fits (yardWith .trolley (settlingAxis (testMove 4000 500 .high) 4000 ⟨0, 0⟩)) = true ∧
    fits (yardWith .trolley (faultAxis 4000)) = true := by decide

theorem witness_AxisTimers :
    let fits (s : State) : Bool := settled s && axesOk s
    fits (yardWith .bridge (releasingAxis (testMove 25000 800 .high))) = true ∧
    (releasingAxis (testMove 25000 800 .high)).brakeTimer = some 100 ∧ fits yard = true ∧
    holdingAxis.parkTimer = some 1000 ∧
    (let r := settlingAxis (testMove 20020 800 .high) 20000 ⟨0, 2900⟩
     fits (yardWith .bridge r) = true ∧ r.settle = some ⟨0, 2900⟩ ∧ r.move = some (testMove 20020 800 .high)) ∧
    (let u : SettleTimes := ⟨10, 2910⟩
     fits (yardWith .bridge (settlingAxis (testMove 20020 800 .high) 20000 u)) = true ∧ 0 < u.inWindow ∧
       (testAxis 2000).settleTime - u.inWindow ≤ 3000 - u.settling) ∧
    holdingAxis.settle = none ∧
    (let r := waitingAxis (testMove 50000 800 .high) 20000
     fits (yardWith .bridge r) = true ∧ r.waitTimer = some 1000 ∧ r.move = some (testMove 50000 800 .high)) := by decide

/-- The bridge at a position, MOVING. -/
def bridgeAt (x : Int) (r : AxisRecord) : State :=
  { yardWith .bridge r with inputs := { yard.inputs with bridge := { yard.inputs.bridge with position := some x } } }

/-- The premises on an axis in a profile period. -/
def periodFits (s : State) (a : Axis) (m : MoveRecord) (x k : Int) : Bool :=
  settled s && axesOk s && (s.axis a).move == some m && (s.axis a).profileTimer == some 10 && s.position a == some x
    && (s.axis a).commanded == some k && magnitude (k - 100 * x) ≤ 100 * (axisParams s.conf a).following

/-- A period far from the target, at a speed, and at twice the requested one; one that ends 10 mm, the creep stop distance,
before it; and one that ends so before the bridge limit 37,900 of the claim. -/
theorem witness_ProfilePeriodMoving :
    periodFits movingYard .bridge (testMove 30000 1000 .high) 20000 2000000 = true ∧
    movingYard.travel.bridge.state = .moving ∧ nextSpeed (testAxis 2000) 40 1000 500 10000 = 540 ∧
    (let m : MoveRecord := ⟨30000, 500, 1000, .high, none⟩
     periodFits (yardWith .bridge (movingAxis m 1000 20000)) .bridge m 20000 2000000 = true ∧
     nextSpeed (testAxis 2000) 40 500 1000 10000 = 960) ∧
    (let s := bridgeAt 20000 (movingAxis (testMove 20010 1000 .high) 100 20000)
     periodFits s .bridge (testMove 20010 1000 .high) 20000 2000000 = true ∧
     effectiveTarget s .bridge 20010 .high = 20010 ∧ nextSpeed (testAxis 2000) 40 1000 100 10 = 0 ∧
     after (.profilePeriod .bridge) s (·.travel.bridge.state) = some .settling) ∧
    (let s := bridgeAt 37890 (movingAxis (testMove 57900 1000 .high) 100 37890)
     periodFits s .bridge (testMove 57900 1000 .high) 37890 3789000 = true ∧
     effectiveTarget s .bridge 57900 .high = 37900 ∧ distanceToGo 37900 37890 .high = 10 ∧
     after (.profilePeriod .bridge) s (·.travel.bridge.state) = some .waiting) ∧
    (let s := yardWith .trolley (movingAxis (testMove 1000 500 .low) (-500) 4000)
     periodFits s .trolley (testMove 1000 500 .low) 4000 400000 = true ∧
     after (.profilePeriod .trolley) s (·.travel.trolley.setpoint) = some (-500)) := by decide

theorem witness_ProfilePeriodAtRest :
    (let s := yardWith .bridge (settlingAxis (testMove 20020 800 .high) 20000 ⟨80, 2980⟩)
     periodFits s .bridge (testMove 20020 800 .high) 20000 2000000 = true ∧ 80 + 10 < (testAxis 2000).settleTime ∧
     2980 + 10 < 3000 ∧ magnitude (20020 - 20000) ≤ (testAxis 2000).window) ∧
    (let s := yardWith .bridge (settlingAxis (testMove 20020 800 .high) 20000 ⟨90, 100⟩)
     periodFits s .bridge (testMove 20020 800 .high) 20000 2000000 = true ∧ (testAxis 2000).settleTime ≤ 90 + 10) ∧
    (let s := yardWith .trolley (settlingAxis (testMove 4021 800 .high) 4000 ⟨0, 2990⟩)
     periodFits s .trolley (testMove 4021 800 .high) 4000 400000 = true ∧ 3000 ≤ 2990 + 10) ∧
    (let s := bridgeAt 37890 (waitingAxis (testMove 57900 1000 .high) 37890)
     periodFits s .bridge (testMove 57900 1000 .high) 37890 3789000 = true ∧
     s.claim.confirmed = some ⟨8000, 40000⟩ ∧ s.travel.bridge.state = .waiting ∧
     after (.profilePeriod .bridge) s (·.travel.bridge.state) = some .waiting) ∧
    (let s := bridgeAt 37889 (waitingAxis (testMove 57900 1000 .high) 37889)
     periodFits s .bridge (testMove 57900 1000 .high) 37889 3788900 = true ∧
     after (.profilePeriod .bridge) s (·.travel.bridge.state) = some .moving) := by decide

/-- Travel from 500 mm/s and from 40 mm/s, at which one step of 40 reaches 0; in STOPPING and with a stop order. -/
theorem witness_ProfilePeriodStopping :
    let ordered : MoveRecord := { testMove 30000 1000 .high with stopOrder := some .cancelled }
    let fits (s : State) : Bool := settled s && axesOk s && s.travel.bridge.profileTimer == some 10
      && s.position .bridge == some 20000 && s.travel.bridge.commanded == some 2000000
    fits (yardWith .bridge (stoppingAxis 500 20000)) = true ∧ max (500 - (testAxis 2000).emergency) 0 ≠ 0 ∧
    fits (yardWith .bridge (stoppingAxis (-40) 20000)) = true ∧ max (40 - (testAxis 2000).emergency) 0 = 0 ∧
    fits (yardWith .bridge (movingAxis ordered 500 20000)) = true ∧
    fits (yardWith .bridge (movingAxis ordered 40 20000)) = true ∧ max (40 - (testAxis 2000).decel) 0 = 0 := by decide

/-- The bridge at speed, its position lost or more than 2,000 mm from the commanded one; the trolley travels too. -/
theorem witness_FollowingFault :
    let moving (x : Option Int) : State :=
      { movingYard with
        inputs := { yard.inputs with bridge := { yard.inputs.bridge with position := x } }
        travel := ⟨movingAxis (testMove 30000 1000 .high) 500 20000, movingAxis (testMove 9000 500 .high) 100 4000,
          ⟨9000, true⟩⟩ }
    let fits (s : State) : Bool := settled s && axesOk s && s.travel.bridge.profileTimer == some 10
    fits (moving none) = true ∧ (moving none).position .bridge = none ∧ fits (moving (some 22001)) = true ∧
    (moving (some 22001)).travel.bridge.commanded = some 2000000 ∧
    100 * (testAxis 2000).following < magnitude (2000000 - 100 * 22001) ∧
    (moving none).halt.reasons.following = false ∧ drivingState (moving none).node = true ∧
    (moving none).halt.asserted = false ∧ (moving none).travel.trolley.move = some (testMove 9000 500 .high) := by decide

/-- Inputs are active high: a level is active when it is true. -/
theorem witness_LimitInputEdges :
    let fits (s : State) : Bool := settled s && axesOk s && s.record.isSome
    bare.record = none ∧ settled bare = true ∧ axesOk bare = true ∧ fits movingYard = true ∧
    slowActive movingYard .bridge .high = false ∧
    slowActive { movingYard with inputs := { movingYard.inputs with
      bridge := { movingYard.inputs.bridge with slowHigh := true } } } .bridge .high = true ∧
    (testAxis 2000).creepSpeed < movingYard.travel.bridge.setpoint ∧
    limitActive testRecord { movingYard.inputs with bridge := { movingYard.inputs.bridge with limitHigh := true } }
      .bridge .high = true ∧
    movingYard.travel.bridge.move = some (testMove 30000 1000 .high) ∧ (testMove 30000 1000 .high).direction = .high ∧
    fits (yardWith .bridge (stoppingAxis 500 20000)) = true ∧ fits yard = true ∧
    fits (yardWith .bridge (releasingAxis (testMove 30000 1000 .high))) = true ∧
    fits (yardWith .bridge (settlingAxis (testMove 20000 1000 .high) 20000 ⟨0, 0⟩)) = true := by decide

/-- The hook stands one count above C while it holds a load, under a bridge that travels, waits, releases its brake or
settles; the trolley is in FAULT. The edge makes low-hook travel arise under a record alone whose C lies above its top
reference, as no accepted one's does. -/
theorem witness_HoistAndPositionInputs :
    let under (c : StartRecord) (r : AxisRecord) : State := { yard with
      record := some c, weigher := { yard.weigher with load := .loaded }, travel := ⟨r, faultAxis 3000, ⟨5000, true⟩⟩ }
    let m := testMove 30000 1000 .high
    let s := under testRecord (movingAxis m 500 20000)
    settled s = true ∧ s.record.isSome = true ∧ bare.record = none ∧ s.weigher.load ≠ .empty ∧
    ¬ (5000 : Int) < s.conf.clearHeight ∧ (5000 : Int) - 1 < s.conf.clearHeight ∧ s.travel.bridge.state = .moving ∧
    s.travel.bridge.move = some m ∧ settled yard = true ∧ yard.travel.bridge.move = none ∧
    yard.travel.trolley.move = none ∧ s.conf.polarities.getLsbD 9 = true ∧ s.travel.trolley.state = .fault ∧
    (let w := under testRecord (waitingAxis m 20000)
     settled w = true ∧ w.travel.bridge.state = .waiting ∧ w.travel.bridge.move = some m) ∧
    (let w := under testRecord (releasingAxis m)
     settled w = true ∧ w.travel.bridge.state = .releasing ∧ w.travel.bridge.move = some m) ∧
    (under testRecord (settlingAxis m 20000 ⟨0, 0⟩)).travel.bridge.move = some m ∧
    (let w := under { testRecord with clearHeight := 4000, hoistTop := 3999 } (waitingAxis m 20000)
     settled w = true ∧ ¬ (5000 : Int) < w.conf.clearHeight ∧ w.conf.hoistTop < w.conf.clearHeight) := by decide

/-! ## Witnesses: the Halt Line -/

theorem witness_HaltAndHostSilence :
    let fits (s : State) : Bool := settled s && s.record.isSome && lineOk s && axesOk s && ready s
    let lost := yardHalt ⟨{ HaltReasons.clear with hostLost := true }, true, true, false⟩ true
    fits yard = true ∧ yard.halt.reasons.host = false ∧ yard.halt.reasons.hostLost = false ∧
    yard.port.hostTimer = some 5000 ∧ fits haltedYard = true ∧ haltedYard.halt.reasons.host = true ∧ fits lost = true ∧
    lost.halt.reasons.hostLost = true ∧ lost.port.hostTimer = some 5000 := by decide

/-- FOLLOWING is set; the bridge is in FAULT with a valid position, and the trolley with none. -/
def faultyYard (x y : Option Int) : State :=
  { yardHalt ⟨{ HaltReasons.clear with following := true, snag := true }, true, true, true⟩ false with
    inputs := { yard.inputs with
      bridge := { yard.inputs.bridge with position := x }, trolley := { yard.inputs.trolley with position := y } }
    travel := ⟨faultAxis 20000, faultAxis 4000, ⟨9000, true⟩⟩ }

theorem witness_ClearHaltAndLineLevel :
    let fits (s : State) : Bool := settled s && lineOk s && axesOk s
    (fits (faultyYard (some 20000) none) && ready (faultyYard (some 20000) none)) = true ∧
    (fits (faultyYard (some 20000) (some 4000)) && ready (faultyYard (some 20000) (some 4000))) = true ∧
    (faultyYard none none).record.isSome = true ∧
    fits bare = true ∧ bare.record = none ∧ bare.halt.drives = false ∧
    fits (faultyYard none none) = true ∧ (faultyYard none none).halt.drives = true ∧
    (let s := yardHalt ⟨.clear, true, false, false⟩ true
     fits s = true ∧ s.halt.asserted = true ∧ s.halt.drives = false) ∧
    fits movingYard = true ∧ movingYard.halt.asserted = false := by decide

/-! ## Witnesses: the Hook Weigher -/

theorem witness_Tare : ready yard = true ∧ settled yard = true ∧ yard.record.isSome = true ∧
    yard.weigher.sensorLost = false ∧ yard.weigher.window.length = 8 ∧
    (∀ a ∈ yard.weigher.window, ∀ b ∈ yard.weigher.window, a - b ≤ yard.conf.band) ∧ yard.weigher.load = .empty ∧
    yard.tasks.hookCoil = none ∧ yard.weigher.filtered = some 0 ∧
    (let s := yardWeigher { yard.weigher with window := [0, 0, 0, 0, 0, 0, 0, 41] }
     ready s = true ∧ settled s = true ∧ ¬ ∀ a ∈ s.weigher.window, ∀ b ∈ s.weigher.window, a - b ≤ s.conf.band) ∧
    (let s := yardWeigher { yard.weigher with window := [0, 0, 0, 0, 0, 0, 0] }
     ready s = true ∧ settled s = true ∧ s.weigher.window.length ≠ 8) := by decide

/-- The yard with another converter state. -/
def converting (k : Converter) : State := yardWeigher { yard.weigher with converter := k }

theorem witness_ConverterAndSampleTimer : settled yard = true ∧ settled bare = true ∧ bare.record = none ∧
    yard.record.isSome = true ∧ yard.conf.polarities.getLsbD 8 = true ∧ yard.weigher.converter = .armed ∧
    settled (converting (.byte2 1#8)) = true ∧ (converting (.byte2 1#8)).weigher.converter ≠ .armed ∧
    settled (converting .byte1) = true ∧ settled (converting (.byte3 1#8 2#8)) = true ∧ yard.weigher.timer = some 100 ∧
    yard.weigher.sensorLost = false := by decide

theorem witness_OverrangeSample :
    let raw (b1 b2 b : Byte) : Int := (b1 ++ b2 ++ b : BitVec 24).toInt
    settled (converting (.byte3 0x80#8 0#8)) = true ∧ raw 0x80#8 0#8 0#8 = -8388608 ∧
    raw 0x7f#8 0xff#8 0xff#8 = 8388607 ∧ raw 0x7f#8 0xff#8 0xfe#8 = 8388606 ∧
    (converting (.byte3 0x80#8 0#8)).weigher.overrange = false := by decide

/-- Samples of each hook load state at a standing, a travelling and an in-between crane. -/
theorem witness_SampleInRange :
    let at3 (load : HookLoad) (s : State) : State :=
      { s with weigher := { yard.weigher with converter := .byte3 0#8 0#8, load := load } }
    let fits (s : State) : Bool := settled s && s.record.isSome && s.weigher.window.length ≤ 8
    fits (at3 .empty yard) = true ∧ fits (at3 .taking yard) = true ∧ fits (at3 .loaded movingYard) = true ∧
    fits (at3 .giving (yardWith .bridge (stoppingAxis 500 20000))) = true ∧
    (at3 .loaded movingYard).weigher.converter = .byte3 0#8 0#8 ∧
    ((0#8 ++ 0#8 ++ 200#8 : BitVec 24).toInt ≠ -8388608 ∧ (0#8 ++ 0#8 ++ 200#8 : BitVec 24).toInt ≠ 8388607) := by decide

/-! ## Witnesses: the store -/

theorem witness_BlockAndUnblock :
    let fits (s : State) : Bool := ready s && settled s && configuredOk s && s.record.isSome
    let full : State := { yard with store := { yard.store with outbox := List.replicate 24 ⟨33, .free⟩ } }
    let last : State := { yard with store := { yard.store with outbox := List.replicate 23 ⟨33, .free⟩ } }
    fits yard = true ∧ fits { yard with node := .isolated } = true ∧ yard.node = .active ∧ slotInUse yard.conf 35 = false ∧
    (slotInUse yard.conf 17 = true ∧ rowCovered yard (17 / 16) = false) ∧
    (slotInUse yard.conf 33 = true ∧ rowCovered yard (33 / 16) = true ∧ slotAt yard 33 = .free ∧ slotAt yard 34 = .blocked) ∧
    fits full = true ∧ (24 : Int) - full.store.outbox.length - reservedSlots full < 1 ∧
    fits last = true ∧ (1 : Int) ≤ 24 - last.store.outbox.length - reservedSlots last := by decide

/-- Row 2 with a task's reservation on slot 32 and on slot 33. -/
def shiftTask : Task :=
  { number := 5, kind := .shift, source := .slot 32, dest := .slot 33, coil := 7, cls := 1, expected := some 5000
    carrying := false, journal := [.slot 32 (.occupied 7 (some 5000) 1) false, .slot 33 .free false] }
def heldYard : State :=
  { yard with
    tasks := { Tasks.reset with nest := [shiftTask], counter := 6 }
    store := { yard.store with slots :=
      [(32, .reservedOut 7 (some 5000) 1 5), (33, .reservedIn 7 (some 5000) 1 5), (34, .blocked), (40, .free), (41, .free)] } }

/-- The hook holding coil 9. -/
def hookYard : State := yardTasks { Tasks.reset with hookCoil := some ⟨9, 6000, 1⟩ }

/-- Row 3, covered like row 2, is empty of held slots; a survey of it that names coil 7 finds it in row 2. -/
theorem witness_SurveyRow :
    let fits (s : State) : Bool := ready s && settled s && configuredOk s && tablesOk s && s.record.isSome
    let coil (n : Nat) : SlotState := .occupied n none 1
    let full : State := { yard with store := { yard.store with outbox := List.replicate 20 ⟨33, .free⟩ } }
    let clashing : SurveyRequest := ⟨3, [coil 7, coil 9, .free, coil 11, .free]⟩
    fits yard = true ∧ yard.node = .active ∧ yard.conf.rows ≤ 4 ∧ rowCovered yard 1 = false ∧ rowCovered yard 2 = true ∧
    fits heldYard = true ∧ (32 ∈ rowSlots heldYard.conf 2 ∧ heldSlot heldYard 32 = true) ∧
    (∀ n ∈ rowSlots yard.conf 2, heldSlot yard n = false) ∧
    surveyRefusal yard ⟨2, [.occupied 7 (some 5000) 1, .occupied 9 (some 6000) 2, .blocked, .occupied 11 none 1, .free]⟩
      = none ∧
    (∀ e ∈ yard.store.slots, slotRow e.1 ≠ 2 → ∀ k ∈ [7, 9, 11], e.2.coilIn ≠ some k) ∧
    rowCovered yard 3 = true ∧ (∀ n ∈ rowSlots yard.conf 3, heldSlot yard n = false) ∧
    surveyRefusal yard ⟨3, [coil 0, .free, .free, .free, .free]⟩ = some .range ∧
    surveyRefusal yard ⟨3, [coil 9, coil 9, .free, .free, .free]⟩ = some .range ∧
    surveyRefusal yard ⟨3, [coil 9, .free, .free, coil 11, .free]⟩ = some .stack ∧
    (fits hookYard = true ∧ surveyRefusal hookYard ⟨3, [coil 9, .free, .free, .free, .free]⟩ = some .state) ∧
    (fits full = true ∧ surveyRefusal full clashing = some .full) ∧
    surveyRefusal yard clashing = none ∧
    (let coils := clashing.slots.filterMap surveyCoil
     clashing.slots.length = 2 * yard.conf.lowers - 1 ∧ coils = [7, 9, 11] ∧
       (∀ k ∈ coils, yard.tasks.hookCoil.map (·.coil) ≠ some k ∧ inHeldSlot yard k = false ∧ onTrailer yard k = false) ∧
       (5 : Int) ≤ 24 - yard.store.outbox.length - reservedSlots yard) ∧
    ((32, .occupied 7 (some 5000) 1) ∈ yard.store.slots ∧ slotRow 32 ≠ 3 ∧ 32 ∈ rowSlots yard.conf (slotRow 32)) := by
  decide

/-- Among them a coil met in another row, an upper without its supports, an answer's entries that agree and do not, and a
notice that frees an upper before the lower under it. -/
theorem witness_StoreNoticeEntry :
    let fits (s : State) : Bool := quiet s 1 11 && tablesOk s && configuredOk s
    let stacked : State := yardStore [(32, .occupied 7 none 1), (33, .occupied 8 none 1), (40, .occupied 9 none 1)] []
    let es : List NoticeEntry := [⟨40, .free, 0, none, none⟩, ⟨32, .free, 0, none, none⟩]
    fits yard = true ∧ slotInUse yard.conf 35 = false ∧ slotInUse yard.conf 33 = true ∧ heldSlot yard 33 = false ∧
    inHeldSlot yard 9 = false ∧ onTrailer yard 9 = false ∧ (∀ e ∈ yard.store.slots, e.2.coilIn ≠ some 9) ∧
    stackBreak (putSlot yard 33 (.occupied 9 (some 6000) 1)) 2 = false ∧ fits heldYard = true ∧
    heldSlot heldYard 32 = true ∧ inHeldSlot heldYard 7 = true ∧ heldSlot heldYard 34 = false ∧
    (∃ n ∈ rowSlots yard.conf 3, slotAt (putSlot yard 48 .free) n = .unknown) ∧
    (∀ n ∈ rowSlots yard.conf 2, slotAt (putSlot yard 33 (.occupied 9 (some 6000) 1)) n ≠ .unknown) ∧
    (slotInUse yard.conf 48 = true ∧ inHeldSlot yard 7 = false ∧ (slotAt yard 32).coilIn = some 7 ∧
      ∀ e ∈ yard.store.slots, e.1 ≠ 32 → e.2.coilIn ≠ some 7) ∧
    (slotInUse yard.conf 40 = true ∧ stackBreak (putSlot yard 40 (.occupied 9 none 1)) 2 = true) ∧
    (slotAt heldYard 32 = .reservedOut 7 (some 5000) 1 5 ∧ slotAt heldYard 33 = .reservedIn 7 (some 5000) 1 5) ∧
    (fits stacked = true ∧ es.length = 2 ∧ (es.map (·.slot)).Nodup ∧
      (∀ e ∈ es, slotInUse stacked.conf e.slot = true ∧ heldSlot stacked e.slot = false ∧ e.state = .free) ∧
      stackBreak (putSlot stacked 32 .free) 2 = true ∧ stackBreak (putSlot (putSlot stacked 40 .free) 32 .free) 2 = false) := by
  decide

/-- The query asks for row 3; rows 0 and 1 are not covered and row 2 is KNOWN. -/
theorem witness_QueriesAndAnswers :
    let asking : State := { yard with store := { yard.store with query := some ⟨3, 4, some 200⟩, counter := 255 } }
    let asked : State := { yard with store := { yard.store with query := some ⟨2, 4, some 200⟩ } }
    let planning : State := { yard with store := { yard.store with plan := some ⟨2, 255, 10⟩ } }
    quiet yard 1 11 = true ∧ 2 < yard.conf.rows ∧ (rowAt yard 2).known = true ∧ (rowAt yard 3).known = false ∧
    settled planning = true ∧ plansAnswers planning.node = true ∧ planning.store.plan = some ⟨2, 255, 10⟩ ∧
    settled asking = true ∧ configuredOk asking = true ∧ asking.record.isSome = true ∧ tablesOk asking = true ∧
    asking.store.query = some ⟨3, 4, some 200⟩ ∧ 3 < asking.conf.rows ∧ rowCovered asking 3 = true ∧
    (∀ k < 4, (k < 4 && k != 3 && rowCovered asking k && rowAt asking k == ⟨false, false⟩) = false) ∧
    settled asked = true ∧ configuredOk asked = true ∧ (3 != 2 && rowCovered asked 3 && rowAt asked 3 == ⟨false, false⟩)
      = true ∧ (∀ k < 3, (k != 2 && rowCovered asked k && rowAt asked k == ⟨false, false⟩) = false) := by decide

/-! ## Witnesses: tasks and bays -/

/-- Slot 32 OCCUPIED without a weight, as a DISPATCH refuses it; and a nest of three. -/
def weightlessYard : State :=
  yardStore [(32, .occupied 7 none 1), (33, .free), (34, .blocked), (40, .free), (41, .free)] [(2, ⟨true, false⟩)]
def nestOfThree : List Task := [{ shiftTask with number := 1 }, { shiftTask with number := 2 }, { shiftTask with number := 3 }]

/-- The Begin Tasks of these tests. -/
def beginShift : BeginRequest := ⟨.shift, .slot 32, .slot 33, none⟩
def beginStore : BeginRequest := ⟨.store, .intake 0, .slot 33, some ⟨9, 1, some 6000⟩⟩
def beginReturn : BeginRequest := ⟨.ret, .hook, .slot 33, none⟩
def beginDispatch : BeginRequest := ⟨.dispatch, .slot 32, .cradle 0 2, none⟩

/-- Bay 0 docked under the claim [8,000, 40,000]: its cradles at 14,500, 17,000 and 19,500. -/
theorem witness_BeginTask :
    let fits (s : State) : Bool := ready s && settled s && s.record.isSome && tablesOk s && baysOk s
    fits yard = true ∧ fits { yard with node := .isolated } = true ∧
    (placesFit .shift (.slot 32) (.slot 33) = true ∧ placeInRange yard.conf (.slot 32) = true ∧
      placeInRange yard.conf (.slot 33) = true ∧ storeCoilOk beginShift = true) ∧
    placeInRange yard.conf (.slot 35) = false ∧
    fits (yardTasks { Tasks.reset with loose := true }) = true ∧ fits hookYard = true ∧
    hookYard.tasks.hookCoil ≠ none ∧
    (fits (yardTasks { Tasks.reset with nest := nestOfThree }) = true ∧ 3 ≤ nestOfThree.length ∧
      ∀ t ∈ nestOfThree.getLast?, t.carrying = false) ∧
    recordedAnywhere yard 7 = true ∧ sourceRefusal yard 33 1 = some .state ∧
    (fits (yardClaim { ClaimRecord.reset with confirmed := some ⟨8901, 40000⟩ }) = true ∧
      sourceRefusal (yardClaim { ClaimRecord.reset with confirmed := some ⟨8901, 40000⟩ }) 32 1 = some .zone) ∧
    (fits weightlessYard = true ∧ sourceRefusal weightlessYard 32 1 = none ∧ slotAt weightlessYard 32 = .occupied 7 none 1) ∧
    beginRefusal yard beginShift = none ∧ beginRefusal yard beginStore = none ∧ beginRefusal hookYard beginReturn = none ∧
    (fits dockedYard = true ∧ beginRefusal dockedYard beginDispatch = none) ∧
    beginRefusal yard ⟨.dispatch, .slot 32, .cradle 0 2, none⟩ = some (.state, .none) ∧
    (let s := yard.withBay 0
       ⟨.docked, some ⟨{ workedTrailer with axleLimit := 2549 }, 2, [.empty, .empty, .empty]⟩, some .own, false⟩
     fits s = true ∧ beginRefusal s beginDispatch = some (.axle, .overload .axle 2550 2549)) := by decide

/-- Every check on the places of that SHIFT holds, and every check on the cradle of that DISPATCH. -/
theorem witness_BeginTask_checks :
    (∀ c ∈ sourceChecks yard 1 beginShift.source ++ destinationChecks yard 1 (some 5000) beginShift.dest, c.1) ∧
    (∀ c ∈ destinationChecks dockedYard 1 (some 5000) beginDispatch.dest, c.1) := by
  have docked : (dockedYard.bay 0).load = some ⟨workedTrailer, 2, [.empty, .empty, .empty]⟩ := rfl
  constructor
  · simp only [sourceChecks, destinationChecks, beginShift, check, List.cons_append, List.nil_append, List.forall_mem_cons,
      List.not_mem_nil, Nat.reduceMod, Nat.reduceLeDiff, false_implies, implies_true, and_true]
    decide
  · simp only [destinationChecks, cradleChecks, beginDispatch, docked, check, List.forall_mem_cons, List.not_mem_nil,
      false_implies, implies_true, and_true]
    decide

theorem witness_AbortTask :
    let s := yardTasks { Tasks.reset with nest := nestOfThree }
    ready s = true ∧ settled s = true ∧ s.record.isSome = true ∧ tablesOk s = true ∧
    (∀ k ∈ s.tasks.nest, k.number ≠ 4) ∧ depthOf s.tasks.nest 1 = some 1 ∧ depthOf s.tasks.nest 3 = some 3 ∧
    ready heldYard = true ∧ settled heldYard = true ∧ tablesOk heldYard = true ∧
    JournalEntry.slot 33 .free false ∈ shiftTask.journal := by decide

/-- The crane over slot 32, at X 11,000 and Y 1,000, and off it by one millimetre more than the lift window. -/
def overSlot (x : Int) (t : Task) (slots : Table SlotRecord) : State :=
  { heldYard with
    inputs := { yard.inputs with
      bridge := { yard.inputs.bridge with position := some x }, trolley := { yard.inputs.trolley with position := some 1000 } }
    tasks := { heldYard.tasks with
      nest := [t], hookCoil := if t.carrying then some ⟨7, 5000, 1⟩ else none }
    store := { yard.store with slots := slots } }

/-- A DISPATCH to cradle 3 of bay 0, at X 19,500 and Y 4,000, carried there with so many of its plan remaining. -/
def dispatchTask : Task :=
  { number := 5, kind := .dispatch, source := .slot 32, dest := .cradle 0 3, coil := 7, cls := 1, expected := some 5000
    carrying := true, journal := [.slot 32 (.occupied 7 (some 5000) 1) true, .cradle 0 3 .empty false] }
def overCradle (remaining : Int) : State :=
  { yard.withBay 0 ⟨.loading, some ⟨workedTrailer, remaining, [.empty, .loaded (some 61007) 20000, .reserved (.own 5 7 5000)]⟩,
      some .own, false⟩ with
    inputs := { yard.inputs with bridge := { yard.inputs.bridge with position := some 19500 } }
    tasks := { Tasks.reset with nest := [dispatchTask], hookCoil := some ⟨7, 5000, 1⟩, counter := 6 } }

/-- Chapter 7, sample 14: a sample that brings net 18,000 at filtered 20,350. -/
def lifting (axis : AxisRecord) (settle : Nat) : State :=
  { yardWith .bridge axis with
    weigher := { yard.weigher with
      converter := .byte3 0#8 0x4f#8, window := [20340, 20360, 20350, 20340, 20350, 20360, 20340, 20350]
      filtered := some 20349, tare := 2350, load := .taking, settle := settle } }

theorem witness_LiftAndSet :
    let slots := heldYard.store.slots
    let covered : Table SlotRecord :=
      [(32, .reservedOut 7 (some 5000) 1 5), (33, .occupied 8 (some 5000) 1), (34, .free), (40, .occupied 3 none 1)]
    let open' := overSlot 11100 shiftTask slots
    let setting : Task := { shiftTask with dest := .slot 32, carrying := true }
    tablesOk yard = true ∧ yard.tasks.nest = [] ∧ hookYard.tasks.nest = [] ∧ hookYard.tasks.hookCoil = some ⟨9, 6000, 1⟩ ∧
    (tablesOk open' = true ∧ open'.tasks.nest.getLast? = some shiftTask ∧ craneAt open' shiftTask.source = true ∧
      coveringSlot open' shiftTask.source = none ∧
      magnitude (5100 - 5000) ≤ max (ceilDiv (5000 * open'.conf.tolPerMille) 1000) open'.conf.tolMin ∧
      max (ceilDiv (5000 * open'.conf.tolPerMille) 1000) open'.conf.tolMin < magnitude (5101 - 5000) ∧
      (slotAt open' 34).coilIn ≠ some 7) ∧
    craneAt (overSlot 11101 shiftTask slots) shiftTask.source = false ∧
    coveringSlot (overSlot 11000 shiftTask covered) shiftTask.source = some 40 ∧
    craneAt (overSlot 11000 setting slots) setting.dest = true ∧
    craneAt (overSlot 10899 setting slots) setting.dest = false ∧
    (hookYard.tasks.loose = false ∧ { hookYard.tasks with hookCoil := none, loose := true }.hookCoil = none) ∧
    (let clashing := overSlot 11000 shiftTask (tablePut .unknown slots 48 (.occupied 7 none 1))
     tablesOk clashing = true ∧ slotAt clashing 48 = .occupied 7 none 1 ∧ heldSlot clashing 48 = false ∧
       48 ∈ rowSlots clashing.conf 3 ∧ ∀ e ∈ clashing.store.slots, e.1 ≠ 48 → e.1 ≠ 32 → e.2.coilIn ≠ some 7) ∧
    (let s := overCradle 1
     tablesOk s = true ∧ s.tasks.nest.getLast? = some dispatchTask ∧ craneAt s dispatchTask.dest = true ∧
       ((s.bay 0).load.map (·.remaining)) = some 1 ∧ ((overCradle 2).bay 0).load.map (·.remaining) = some 2) := by decide

/-- A lift, a set-down, a snag and a load loss, each by the byte 0x7e. -/
theorem witness_LiftAndSet_sample :
    let emptied (load : HookLoad) (axis : AxisRecord) : State := { yardWith .bridge axis with weigher := { yard.weigher with
      converter := .byte3 0#8 0#8, window := [0, 0, 0, 0, 0, 0, 0, 0], filtered := some 0, load := load, settle := 4 } }
    let moving := movingAxis (testMove 30000 1000 .high) 500 20000
    (settled (lifting holdingAxis 4) = true ∧ handsOn (lifting holdingAxis 4) 0x7e#8 .lift 18000 20350) ∧
    (settled (emptied .giving holdingAxis) = true ∧ handsOn (emptied .giving holdingAxis) 0#8 .set 0 0) ∧
    (settled (lifting moving 3) = true ∧ handsOn (lifting moving 3) 0x7e#8 .snag 18000 20350) ∧
    (settled (emptied .loaded moving) = true ∧ handsOn (emptied .loaded moving) 0#8 .loadLost 0 0) :=
  ⟨⟨by decide, 0#8, 0x4f#8, by decide⟩, ⟨by decide, 0#8, 0#8, by decide⟩, ⟨by decide, 0#8, 0x4f#8, by decide⟩,
    by decide, 0#8, 0#8, by decide⟩

theorem witness_BayRequests :
    let fits (s : State) : Bool := ready s && settled s && s.record.isSome
    let bay (b : BayRecord) : State := yard.withBay 0 b
    let load : Option BayLoad := some ⟨workedTrailer, 2, [.empty, .reserved .foreign, .empty]⟩
    fits yard = true ∧ fits { yard with node := .isolated } = true ∧ yard.node = .active ∧ yard.conf.bayCount ≤ 2 ∧
    (yard.bay 0).state = .empty ∧ (yard.bay 0).unsure = false ∧ bayCovered yard 0 = true ∧ trailerOk workedTrailer = true ∧
    (∀ o ∈ workedTrailer.offsets,
      reach yard.conf ≤ (bayPoint yard.conf 0).x + o ∧ (bayPoint yard.conf 0).x + o ≤ yard.conf.runway - reach yard.conf) ∧
    trailerOk { workedTrailer with planned := 4 } = false ∧
    fits (yardClaim { ClaimRecord.reset with confirmed := some ⟨8000, 14099⟩ }) = true ∧
    bayCovered (yardClaim { ClaimRecord.reset with confirmed := some ⟨8000, 14099⟩ }) 0 = false ∧
    (fits dockedYard = true ∧ bayCovered dockedYard 0 = true ∧ ∀ k ∈ (dockedYard.bay 0).cradles, k.isReserved = false) ∧
    (fits (bay ⟨.docked, load, some .own, false⟩) = true ∧
      ¬ ∀ k ∈ ((bay ⟨.docked, load, some .own, false⟩).bay 0).cradles, k.isReserved = false) ∧
    fits (bay ⟨.empty, none, none, true⟩) = true := by decide

theorem witness_BayNotice :
    let held := yard.withBay 0
      ⟨.loading, some ⟨workedTrailer, 2, [.reserved (.own 5 7 5000), .empty, .empty]⟩, some .own, false⟩
    let f : BayNoticeFrame := ⟨0, .loading, 1, some ⟨workedTrailer, [.loaded 9 6000, .empty, .reserved]⟩⟩
    quiet yard 1 11 = true ∧ bayNoticeOk yard.conf f = true ∧ heldBay (yard.bay 0) = false ∧
    bayNoticeOk yard.conf { f with bay := 2 } = false ∧ quiet held 1 11 = true ∧ heldBay (held.bay 0) = true ∧
    quiet hookYard 1 11 = true ∧ ownHolds hookYard 9 = true ∧ ownHolds yard 9 = false ∧
    (looseSlotWith yard 9 fun _ => false) = none ∧ ([0, 1, 2, 3].any fun b => b != 0 && bayHoldsCoil yard b 9) = false ∧
    (let stored : BayNoticeFrame := { f with load := some ⟨workedTrailer, [.loaded 7 6000, .empty, .reserved]⟩ }
     bayNoticeOk yard.conf stored = true ∧ ownHolds yard 7 = false ∧ (slotAt yard 32).coilIn = some 7 ∧
       ∀ e ∈ yard.store.slots, e.1 ≠ 32 → e.2.coilIn ≠ some 7) ∧
    (let docked := yard.withBay 1 ⟨.loading, some ⟨workedTrailer, 1, [.loaded (some 9) 6000, .empty, .empty]⟩, none, false⟩
     quiet docked 1 11 = true ∧ configuredOk docked = true ∧ (looseSlotWith docked 9 fun _ => false) = none ∧
       bayHoldsCoil docked 1 9 = true) := by decide

theorem witness_TrailerLoads : 0 < workedTrailer.axle ∧
    ∀ p ∈ [((5000 : Int), (20000 : Int)), (1000, 0), (9000, 18270)],
      workedTrailer.kingpin ≤ p.1 ∧ p.1 ≤ workedTrailer.kingpin + workedTrailer.axle ∧ 0 ≤ p.2 := by decide

/-! ## Witnesses: peers and claims -/

/-- Rank 3 silent: STALE with its claim, and with a release arming or a release pending. -/
def stalePeer : PeerRecord := { livePeer 20 ⟨40000, 60000⟩ with presence := .stale, silence := none }

theorem witness_ReleaseRequests :
    let s := yardPeer 3 stalePeer
    let armed := yardPeer 3 { stalePeer with arming := some ⟨20, 10000⟩ }
    settled s = true ∧ ready s = true ∧ s.record.isSome = true ∧ s.conf.craneCount < 4 ∧ s.conf.ownRank = 2 ∧
    s.node = .active ∧ (s.peer 3).presence = .stale ∧ (s.peer 3).releasePending = none ∧ (s.peer 3).lastSeq = some 20 ∧
    (s.peer 1).presence ≠ .stale ∧ settled armed = true ∧ ready armed = true ∧ (armed.peer 3).arming = some ⟨20, 10000⟩ ∧
    armed.peers.inFlight = none := by decide

theorem witness_SilenceAndRelease :
    let s := yardPeer 3 stalePeer
    let waiting := yardPeer 3 { stalePeer with releasePending := some ⟨[(1, 11)], 100⟩ }
    settled yard = true ∧ yard.node ≠ .listening ∧ yard.claim.pending = none ∧ (yard.peer 1).silence = some 200 ∧
    quiet yard 1 11 = true ∧ (yard.peer 3).presence = .live ∧ quiet s 1 11 = true ∧ (3 : Nat) ≠ s.conf.ownRank ∧
    ((heard s 1 11).peer 3).presence = .stale ∧ ((heard s 1 11).peer 3).lastSeq = some 20 ∧ ¬ (4 : Nat) ≤ s.conf.craneCount ∧
    quiet waiting 1 11 = true ∧ (waiting.peer 3).releasePending = some ⟨[(1, 11)], 100⟩ ∧ settled waiting = true ∧
    (configuredOk waiting = true ∧ peerRegion (waiting.peer 3) = some ⟨40000, 60000⟩ ∧
      ((heard waiting 1 11).peer 3).lastSeq ≠ some 19) ∧
    { yard.peers with inFlight := some ⟨3, false⟩ }.inFlight = some ⟨3, false⟩ := by decide

/-- A node that listens, alone or with two peers. -/
def listeningYard (c : StartRecord) (x : Option Int) : State :=
  { State.reset with
    record := some c, node := .listening, listen := some 200
    inputs := { yard.inputs with bridge := { yard.inputs.bridge with position := x } }
    port := { Port.reset with hostTimer := some 5000 } }

/-- The own Extend waiting in the queue, toward rank 3 whose claim begins at 45,000. -/
def queuedYard : State :=
  { yardPeer 3 (livePeer 20 ⟨45000, 60000⟩) with
    claim := { ClaimRecord.reset with
      confirmed := some ⟨8000, 40000⟩, pending := some ⟨.high, 42000, .queued⟩, wanted := some ⟨.high, 42000⟩ }
    link := { yard.link with
      queue := [⟨.extend ⟨.high, 42000, some 20⟩, 0, false, false, false, none⟩], stamp := 1 } }

/-- The own Join of [17,900, 22,100] waiting in the queue of a listening node that has heard rank 3. -/
def waitingJoin : State :=
  { listeningYard testRecord (some 20000) with
    listen := none, peers := (yardPeer 3 (livePeer 20 ⟨40000, 60000⟩)).peers
    link := { Link.reset with queue := [⟨.join ⟨17900, 22100⟩, 0, false, false, false, none⟩], stamp := 1 } }

/-- The waiting Extend is not void while rank 3 is LIVE; it is with rank 3 STALE. -/
theorem witness_extendRetested :
    settled queuedYard = true ∧ configuredOk queuedYard = true ∧ claimOk queuedYard = true ∧ queueOk queuedYard.link = true ∧
    queuedYard.node = .active ∧ (queuedYard.peer 3).presence = .live ∧ (queuedYard.peer 3).silence = some 200 ∧
    queuedYard.claim.pending = some ⟨.high, 42000, .queued⟩ ∧ queuedYard.claim.confirmed = some ⟨8000, 40000⟩ ∧
    extendStands queuedYard ⟨8000, 40000⟩ .high 42000 ∧
    extendStands (queuedYard.withPeer 1 { queuedYard.peer 1 with presence := .stale }) ⟨8000, 40000⟩ .high 42000 ∧
    ¬ extendStands (queuedYard.withPeer 3 { queuedYard.peer 3 with presence := .stale }) ⟨8000, 40000⟩ .high 42000 := by
  simp only [← extendVoid_iff]
  decide

/-- The waiting Join is not void beside rank 3's claim; it is beside one of [20,000, 30,000], which rank 3 may announce. -/
theorem witness_joinRetested :
    settled waitingJoin = true ∧ configuredOk waitingJoin = true ∧ claimOk waitingJoin = true ∧
    queueOk waitingJoin.link = true ∧ waitingJoin.node = .listening ∧ overlapsTested waitingJoin 2 ⟨17900, 22100⟩ = false ∧
    (waitingJoin.peer 3).silence = some 200 ∧ joinVoid waitingJoin 3 ⟨20000, 30000⟩ = false ∧
    overlapsTested (waitingJoin.withPeer 3 (livePeer 0 ⟨20000, 30000⟩)) 2 ⟨17900, 22100⟩ = true := by decide

/-- Rank 3's Join of [40,000, 60,000], touching the own claim, is valid; one of [39,999, 60,000] overlaps it. -/
theorem witness_PeerJoins :
    let s := yardPeer 3 .reset
    let window := yardPeer 3 { livePeer 20 ⟨40000, 60000⟩ with joinWindow := some ⟨100, true⟩ }
    settled s = true ∧ configuredOk s = true ∧ s.node = .active ∧ s.claim.pending = none ∧ (3 : Nat) ≤ s.conf.craneCount ∧
    (3 : Nat) ≠ s.conf.ownRank ∧ ownRegion s = some ⟨8000, 40000⟩ ∧ overlaps ⟨40000, 60000⟩ ⟨8000, 40000⟩ = false ∧
    overlaps ⟨39999, 60000⟩ ⟨8000, 40000⟩ = true ∧
    (∀ k ∈ peerRanks s, k ≠ 3 → (peerRegion (s.peer k)).all (fun j => !overlaps ⟨40000, 60000⟩ j) = true) ∧
    (s.peer 3).presence = .absent ∧ settled window = true ∧ (window.peer 3).joinWindow = some ⟨100, true⟩ ∧
    (let s := yardPeer 3 { stalePeer with releasePending := some ⟨[(1, 11)], 100⟩ }
     settled s = true ∧ configuredOk s = true ∧ s.claim.pending = none ∧ (s.peer 3).presence = .stale ∧
       peerRegion (s.peer 3) = some ⟨40000, 60000⟩ ∧ ((s.peer 3).releasePending.map (·.releases)) = some [(1, 11)] ∧
       ([(1, 11)].map (·.1)).Nodup) := by decide

/-- The own Extend in its window, numbered 6. -/
def extendingYard : State :=
  yardClaim { ClaimRecord.reset with
    confirmed := some ⟨8000, 40000⟩, pending := some ⟨.high, 42000, .window 6 100⟩, wanted := some ⟨.high, 45000⟩ }

theorem witness_ExtendsAndObjections :
    let far := yardPeer 3 { livePeer 20 ⟨45000, 60000⟩ with extension := some ⟨.low, 42000, 19, 100⟩ }
    let joined := yardPeer 3 { livePeer 20 ⟨40000, 60000⟩ with joinWindow := some ⟨100, true⟩ }
    let arming := yardPeer 3 { stalePeer with releasePending := some ⟨[(1, 11)], 100⟩ }
    quiet yard 3 21 = true ∧ quiet (yardPeer 3 { livePeer 20 ⟨40000, 60000⟩ with claim := none }) 3 21 = true ∧
    (yard.peer 3).claim = some ⟨40000, 60000⟩ ∧ overlapsTested yard 3 ⟨39999, 40000⟩ = true ∧ quiet far 3 21 = true ∧
    overlapsTested far 3 ⟨40000, 45000⟩ = false ∧ (yard.peer 4).lastSeq = none ∧
    (quiet yard 1 11 = true ∧ (1 + 1 : Nat) = yard.conf.ownRank) ∧
    (quiet extendingYard 1 11 = true ∧ extendingYard.claim.pending = some ⟨.high, 42000, .window 6 100⟩) ∧
    (quiet far 1 11 = true ∧ (far.peer 3).extension = some ⟨.low, 42000, 19, 100⟩ ∧ far.now < 100) ∧
    (quiet joined 1 11 = true ∧ (joined.peer 3).joinWindow = some ⟨100, true⟩) ∧
    (quiet { arming with peers := { arming.peers with inFlight := some ⟨3, true⟩ } } 1 11 = true ∧
      (arming.peer 3).releasePending = some ⟨[(1, 11)], 100⟩ ∧ 3 ∈ peerRanks arming) ∧
    (let s : State := { yardClaim { ClaimRecord.reset with
        confirmed := some ⟨17900, 22100⟩, joinWindow := some 100 } with node := .joining }
     settled s = true ∧ s.record.isSome = true ∧ s.node = .joining ∧ s.claim.joinWindow = some 100 ∧
       (3 : Nat) ≤ s.conf.craneCount ∧ (3 : Nat) ≠ s.conf.ownRank ∧ (s.peer 3).presence ≠ .released) := by decide

/-- The view check needs a neighbour of the sender that is not the own rank: rank 3 of four cranes, seen from rank 1. A view
beside the own rank shows no gap. -/
theorem witness_ExtendsAndObjections_view :
    let s : State := { yard with
      record := some { testRecord with ownRank := 1, craneCount := 4 }
      peers := { yard.peers with table := { yard.peers.table with
        rank2 := livePeer 10 ⟨40000, 42000⟩, rank3 := livePeer 20 ⟨44000, 60000⟩ } } }
    quiet s 2 11 = true ∧ (s.peer 3).lastSeq = some 20 ∧ (3 : Nat) ≠ s.conf.ownRank ∧ (s.peer 3).presence = .live ∧
    ((20 + 32767 : Int) - 20) % 65536 = 32767 ∧ ((20 + 32768 : Int) - 20) % 65536 = 32768 ∧ configuredOk s = true ∧
    (s.peer 2).claim = some ⟨40000, 42000⟩ ∧ overlapsTested s 2 (addedInterval ⟨40000, 42000⟩ .high 44000) = false ∧
    overlapsTested s 2 (addedInterval ⟨40000, 42000⟩ .high 44001) = true ∧ quiet yard 1 11 = true ∧
    adjacentRank 1 .high = yard.conf.ownRank := by decide

/-- Rank 3 STALE, its release pending on rank 1's Release and an own one, and another own Release of it in flight, not taken;
the queue holds own Releases, offered or not and withdrawn or not. -/
def releasingYard (marks : List (Bool × Bool)) : State :=
  let s := yardPeer 3 { stalePeer with releasePending := some ⟨[(1, 11), (2, 6)], 100⟩ }
  { s with
    peers := { s.peers with inFlight := some ⟨3, false⟩ }
    link := { yard.link with
      queue := marks.map fun m => ⟨.release ⟨3, 20⟩, 0, m.1, false, m.2, none⟩
      attempt := if marks.any (·.1) then some ⟨.release ⟨3, 20⟩, 7, 0⟩ else none, stamp := 1 } }

theorem witness_PositionReports :
    let released := yardPeer 3 { stalePeer with presence := .released, claim := none }
    let voided := yardPeer 3 { livePeer 20 ⟨40000, 60000⟩ with claim := none, joinWindow := some ⟨100, false⟩ }
    let fits (s : State) : Bool := settled s && configuredOk s && s.node == .active && s.claim.pending.isNone
      && s.conf.craneCount != 1
    fits yard = true ∧ reportable .voided = true ∧ (3 : Nat) ≤ yard.conf.craneCount ∧ (3 : Nat) ≠ yard.conf.ownRank ∧
    (yard.peer 3).presence ≠ .released ∧ (yard.peer 3).lastSeq = some 20 ∧ (21 : Nat) = (20 + 1) % 65536 ∧
    fits released = true ∧ (released.peer 3).presence = .released ∧ fits voided = true ∧
    (voided.peer 3).joinWindow = some ⟨100, false⟩ ∧ peerRegion (yard.peer 3) = some ⟨40000, 60000⟩ ∧
    peerRegion (voided.peer 3) = none ∧
    (let s := yardPeer 3 { livePeer 20 ⟨45000, 60000⟩ with extension := some ⟨.low, 42000, 19, 100⟩ }
     fits s = true ∧ (s.peer 3).extension = some ⟨.low, 42000, 19, 100⟩ ∧ (s.peer 3).claim.isSome = true) ∧
    (settled { yard with node := .isolated } = true ∧ configuredOk { yard with node := .isolated } = true) ∧
    ((yard.peer 1).lastSeq = some 10 ∧ (12 : Nat) ≠ (10 + 1) % 65536 ∧ peerRegion (yard.peer 1) = some ⟨0, 8000⟩ ∧
      rowX yard.conf 1 = 8000 ∧ rowX yard.conf 2 = 11000 ∧ (bayPoint yard.conf 0).x = 12000) ∧
    (let s := releasingYard [(true, true), (false, false)]
     fits s = true ∧ (s.peer 3).presence = .stale ∧ s.peers.inFlight = some ⟨3, false⟩ ∧
       (s.peer 3).releasePending = some ⟨[(1, 11), (2, 6)], 100⟩ ∧ fits (releasingYard [(true, false)]) = true) := by decide

theorem witness_MakeWay : settled yard = true ∧ yard.record.isSome = true ∧ lineOk yard = true ∧
    (3 : Nat) ≤ yard.conf.craneCount ∧ (3 : Nat) ≠ yard.conf.ownRank ∧ (yard.peer 3).presence ≠ .released ∧
    (MakeWayFrame.mk 2 45000).target = yard.conf.ownRank ∧ (MakeWayFrame.mk 1 45000).target ≠ yard.conf.ownRank ∧
    (let s : State := { yard with node := .isolated }
     settled s = true ∧ lineOk s = true ∧ s.conf.craneCount ≠ 1 ∧ (s.peer 3).presence ≠ .released) := by decide

theorem witness_StoppingDistances : (0 : Int) ≤ 3000 ∧ (1 : Int) ≤ 1 ∧ (3000 : Int) / 1 ≠ 0 ∧ (39 : Int) / 40 = 0 ∧
    (100 : Int) ≤ 100 ∧ (100 : Int) < 101 := by decide

/-- A listening node whose Join is being offered. -/
def joiningYard (withdrawn : Bool) : State :=
  { listeningYard testRecord (some 20000) with
    listen := none
    link := { Link.reset with
      queue := [⟨.join ⟨17900, 22100⟩, 0, true, false, withdrawn, none⟩], attempt := some ⟨.join ⟨17900, 22100⟩, 0, 0⟩
      stamp := 1 } }

/-- The own Extend being offered. -/
def offeringYard (pending : Option PendingExtension) : State :=
  { yardClaim { ClaimRecord.reset with
      confirmed := some ⟨8000, 40000⟩, pending := pending, wanted := some ⟨.high, 45000⟩ } with
    link := { yard.link with
      queue := [⟨.extend ⟨.high, 42000, some 20⟩, 0, true, false, false, none⟩]
      attempt := some ⟨.extend ⟨.high, 42000, some 20⟩, 7, 0⟩, stamp := 1 } }

theorem witness_OwnClaimWindows :
    let fits (s : State) : Bool := settled s && s.record.isSome && lineOk s && axesOk s && claimOk s
    let alone := listeningYard { testRecord with craneCount := 1, ownRank := 1 } none
    let blocked : State := { listeningYard testRecord (some 20000) with
      peers := { Peers.reset with table := { Peers.reset.table with rank3 := livePeer 20 ⟨22099, 60000⟩ } } }
    let joining : State := { yardClaim { ClaimRecord.reset with confirmed := some ⟨17900, 22100⟩, joinWindow := some 100 } with
      node := .joining }
    (fits alone = true ∧ alone.node = .listening ∧ alone.listen = some 200 ∧ alone.conf.craneCount = 1) ∧
    (fits (listeningYard testRecord none) = true ∧ (listeningYard testRecord none).position .bridge = none) ∧
    (fits (listeningYard testRecord (some 20000)) = true ∧
      overlapsTested (listeningYard testRecord (some 20000)) 2 ⟨17900, 22100⟩ = false) ∧
    (fits blocked = true ∧ overlapsTested blocked 2 ⟨17900, 22100⟩ = true) ∧
    (fits (joiningYard false) = true ∧ fits (joiningYard true) = true ∧
      (joiningYard false).link.attempt = some ⟨.join ⟨17900, 22100⟩, 0, 0⟩) ∧
    (fits (offeringYard none) = true ∧ fits (offeringYard (some ⟨.high, 42000, .queued⟩)) = true ∧
      overlapsTested (offeringYard none) 2 ⟨40000, 42000⟩ = true ∧
      overlapsTested (yardPeer 3 (livePeer 20 ⟨42000, 60000⟩)) 2 ⟨40000, 42000⟩ = false) ∧
    (fits joining = true ∧ joining.claim.joinWindow = some 100 ∧ joining.node = .joining) ∧
    (fits extendingYard = true ∧ extendingYard.node = .active ∧
      extendingYard.claim.pending = some ⟨.high, 42000, .window 6 100⟩ ∧
      extendingYard.claim.confirmed = some ⟨8000, 40000⟩) := by decide

/-- A wanted edge of 45,000 beside rank 3, whose claim begins at an edge. -/
def retrying (edge : Int) : State :=
  { yardPeer 3 (livePeer 20 ⟨edge, 60000⟩) with
    claim := { ClaimRecord.reset with
      confirmed := some ⟨8000, 40000⟩, wanted := some ⟨.high, 45000⟩, retry := some 50 } }

theorem witness_neighbourFit : neighbourFit (retrying 42000) .high ∧
    ¬ neighbourFit { retrying 42000 with peers := (yardPeer 3 stalePeer).peers } .high ∧
    ¬ neighbourFit { retrying 42000 with peers := { (retrying 42000).peers with inFlight := some ⟨3, true⟩ } } .high ∧
    neighbourFit { retrying 42000 with peers := (yardPeer 3 { stalePeer with presence := .released }).peers } .high := by
  simp only [← neighbourAllows_iff]
  decide

theorem witness_limits : limits (retrying 42000) ⟨8000, 40000⟩ .high 42000 3 := by
  have only : ∀ q ∈ peerRanks (retrying 42000), facesAt (retrying 42000) ⟨8000, 40000⟩ .high q 42000 → q = 3 :=
    fun q hq faces => by
      have at3 : gapEnds (retrying 42000) ⟨8000, 40000⟩ .high = [(3, 42000)] := by decide
      simpa [at3] using (mem_gapEnds _ _ _ q 42000).mpr ⟨hq, faces⟩
  exact ⟨by decide, ((mem_gapEnds _ _ _ 3 42000).mp (by decide)).2, fun q hq ne faces => absurd (only q hq faces) ne⟩

theorem witness_ClaimTimers :
    let shrinking := yardClaim { ClaimRecord.reset with confirmed := some ⟨8000, 40000⟩, shrink := some 5000 }
    settled (retrying 40000) = true ∧ (retrying 40000).claim.retry = some 50 ∧ (retrying 40000).node = .active ∧
    gapEdge (retrying 40000) ⟨8000, 40000⟩ .high = 40000 ∧
    gapEdge (retrying 42000) ⟨8000, 40000⟩ .high = 42000 ∧
    gapEdge (retrying 45000) ⟨8000, 40000⟩ .high = 45000 ∧
    (let s := yardClaim { ClaimRecord.reset with confirmed := some ⟨8000, 40000⟩, retry := some 50 }
     settled s = true ∧ s.claim.wanted = none) ∧
    settled shrinking = true ∧ shrinking.claim.shrink = some 5000 ∧ shrinking.travel.bridge.move = none ∧
    shrinking.position .bridge = some 20000 ∧ reservedCoverage shrinking = [] ∧
    (let s : State := { heldYard with claim := shrinking.claim }
     settled s = true ∧ reservedCoverage s = [⟨8900, 13100⟩, ⟨8900, 13100⟩]) ∧
    { shrinking with travel := movingYard.travel }.travel.bridge.move.isSome = true := by decide

theorem witness_IsolationVoidAndRejoin :
    let fits (s : State) : Bool := settled s && s.record.isSome && lineOk s && axesOk s
    let voided : State := { yardHalt ⟨{ HaltReasons.clear with void := true }, true, true, false⟩ true with
      node := .voided, claim := .reset }
    let blocked : State := { yardClaim .reset with node := .joinBlocked }
    (fits movingYard = true ∧ movingYard.peers.isolation = some 200 ∧ movingYard.node = .active) ∧
    (fits { yard with node := .isolated } = true ∧ yard.peers.isolation = some 200) ∧
    (quiet movingYard 1 11 = true ∧ lineOk movingYard = true ∧ axesOk movingYard = true) ∧
    (fits voided = true ∧ ready voided = true ∧ voided.node = .voided ∧ voided.travel.bridge.state = .holding) ∧
    (fits blocked = true ∧ ready blocked = true ∧ queueOk blocked.link = true ∧ blocked.node = .joinBlocked) ∧
    (fits yard = true ∧ ready yard = true ∧ yard.node = .active) ∧
    (let s : State := { voided with travel := ⟨stoppingAxis 500 20000, holdingAxis, ⟨9000, true⟩⟩ }
     fits s = true ∧ ready s = true ∧ s.travel.bridge.state = .stopping) := by decide

/-! ## Witnesses: the link -/

/-- A Store Notice and a report are queued; the notice is being offered with two of three outbox entries. -/
def notingYard (trying : Bool) : State :=
  { yard with
    store := { yard.store with outbox := [⟨33, .free⟩, ⟨34, .blocked⟩, ⟨40, .free⟩] }
    link := { yard.link with
      queue := [⟨.storeNotice, 0, trying, false, false, none⟩, ⟨.report, 1, false, false, false, none⟩]
      attempt := if trying then some ⟨.storeNotice ⟨none, [noticeEntry 33 .free, noticeEntry 34 .blocked]⟩, 7, 2⟩ else none
      stamp := 2 } }

theorem witness_LinkAttempts :
    let fits (s : State) : Bool := settled s && queueOk s.link
    let releasing : State := { yardPeer 3 stalePeer with
      peers := { (yardPeer 3 stalePeer).peers with inFlight := some ⟨3, false⟩ }
      link := { yard.link with
        queue := [⟨.release ⟨3, 20⟩, 0, true, false, false, none⟩], attempt := some ⟨.release ⟨3, 20⟩, 7, 0⟩, stamp := 1 } }
    let asking : State := { yard with
      store := { yard.store with query := some ⟨3, 4, none⟩ }
      link := { yard.link with
        queue := [⟨.slotQuery ⟨3, 4⟩, 0, true, true, false, some (.slotQuery ⟨3, 5⟩, 1)⟩]
        attempt := some ⟨.slotQuery ⟨3, 4⟩, 7, 0⟩, stamp := 2 } }
    fits yard = true ∧ yard.link.queue = [] ∧ fits (notingYard false) = true ∧ (notingYard false).link.attempt = none ∧
    (notingYard false).link.queue.head? = some ⟨.storeNotice, 0, false, false, false, none⟩ ∧
    fits (notingYard true) = true ∧ (notingYard true).link.attempt.isSome = true ∧
    (notingYard true).link.counters.contentionLosses ≤ 65535 ∧ yard.link.reportTimer = some 50 ∧
    fits releasing = true ∧ (releasing.peer 3).presence = .stale ∧
    (let s : State := { releasing with link := { releasing.link with
        queue := [⟨.release ⟨3, 20⟩, 0, true, false, true, none⟩, ⟨.release ⟨1, 10⟩, 1, false, false, false, none⟩], stamp := 2 } }
     fits s = true ∧ queued s isRelease = true) ∧
    fits asking = true ∧ asking.store.query = some ⟨3, 4, none⟩ ∧
    (let objecting (n : Nat) (o : ObjectionReason) (p : PeerRecord) : State := { yardPeer 3 p with
       link := { yard.link with
         queue := [⟨.objection ⟨3, n, o⟩, 0, true, false, false, none⟩], attempt := some ⟨.objection ⟨3, n, o⟩, 7, 0⟩
         stamp := 1 } }
     let far := { livePeer 20 ⟨45000, 60000⟩ with extension := some ⟨.low, 42000, 19, 100⟩ }
     let joined := { livePeer 20 ⟨40000, 60000⟩ with joinWindow := some ⟨100, true⟩ }
     let denied := objecting 21 .releaseDenied { stalePeer with releasePending := some ⟨[(3, 21)], 100⟩ }
     fits (objecting 19 .overlap far) = true ∧ fits (objecting 0 .overlap joined) = true ∧ (3 : Nat) ≠ yard.conf.ownRank ∧
     fits (objecting 21 .void far) = true ∧ fits { denied with peers := { denied.peers with inFlight := some ⟨3, true⟩ } }) ∧
    fits (offeringYard none) = true ∧
    fits { listeningYard testRecord (some 20000) with link := (joiningYard false).link } = true := by decide

theorem witness_FramesDiscarded : frameSender (.join 0 0 ⟨0, 1⟩) = some 0 ∧ frameSender (.slotQuery 4 0 ⟨0, 0⟩) = some 4 ∧
    (yard.record.isSome = true ∧ yard.conf.craneCount < 4 ∧ (2 : Nat) = yard.conf.ownRank) ∧ bare.record = none ∧
    frameSender (.positionReport 255 0 ⟨.active, none, 0, none, .empty, none⟩) = some 255 ∧
    (Instr.positionReport 255 0 ⟨.active, none, 0, none, .empty, none⟩).wf = true := by decide

/-! ## Single steps -/

/-- The last frame the transmitter holds. -/
def reply (c : Instr) (s : State) : Option (Status × Result) :=
  (after c s fun t => t.port.transmit.getLast?.map fun f => (f.status, f.result)).join

/-- R11: power-on resets the node and keeps its inputs. -/
theorem test_power_on : after .powerOn haltedYard (fun t => (t.node, t.halt.drives, t.inputs.haltLine)) =
    some (.unconfigured, false, true) := by decide

/-- R8, R10: own rank 2 above a crane count of 1 names field 1; R8: a second record is LOCKED. -/
theorem test_configure_refused :
    reply (.configure 1 (.fields { testRecord with craneCount := 1 })) bare = some (.range, .field 1) ∧
    reply (.configure 1 (.fields testRecord)) yard = some (.locked, .none) := by decide

/-- R12: an accepted record leaves the listen window of 4 × 50 ms running. -/
theorem test_configure_accepted :
    after (.configure 1 (.fields testRecord)) bare (fun t => (t.node, t.listen)) = some (.listening, some 200) := by decide

/-- R192: UNKNOWN, UNCONFIGURED, and RANGE for a payload of another length. -/
theorem test_refused_as_a_whole : reply (.unknownRequest 99 1) yard = some (.unknown, .none) ∧
    reply (.tare 1 (.fields ())) bare = some (.unconfigured, .none) ∧ reply (.tare 1 .misfit) yard = some (.range, .none) ∧
    reply (.tare 1 (.fields ())) (busyYard []) = some (.busy, .none) := by decide

/-- R82: the target 60,000 is clamped to L − h − m = 57,900, and the speed 3,000 to 2,000. -/
theorem test_move_clamped : reply (.move 1 (.fields ⟨some ⟨60000, 3000⟩, none⟩)) yard = some (.clamped, .none) ∧
    after (.move 1 (.fields ⟨some ⟨60000, 3000⟩, none⟩)) yard
      (fun t => t.travel.bridge.move.map fun m => (m.target, m.requested, m.direction)) =
        some (some (57900, 2000, .high)) := by decide

/-- R63: the wanted edge of that Move is 57,900 + 2,100; the claim of rank 3 leaves no room, and a Make Way goes to it. -/
theorem test_move_asks : after (.move 1 (.fields ⟨some ⟨60000, 3000⟩, none⟩)) yard
      (fun t => (t.claim.wanted, t.claim.pending.isNone, t.link.queue.map (·.content))) =
        some (some ⟨.high, 60000⟩, true, [.makeWay ⟨3, 60000⟩]) := by decide

/-- R81: low hook before limit; the trolley's position lost is STATE. -/
theorem test_move_refused :
    reply (.move 1 (.fields (bridgeTo 25000))) { yardWeigher { yard.weigher with load := .loaded } with
      travel := ⟨{ holdingAxis with highHold := true }, holdingAxis, ⟨9000, false⟩⟩ } = some (.lowHook, .none) ∧
    reply (.move 1 (.fields (bothTo 25000 5000))) { yard with
      inputs := { yard.inputs with trolley := { yard.inputs.trolley with position := none } } } = some (.state, .none) := by
  decide

/-- R4, R84: upper 1 of row 3, slot 57, lies at X 14,000 and Y 1,000 + 2,000 + 1,000. -/
theorem test_go_to_upper : after (.goTo 1 (.fields ⟨.slot 57, 500, 200⟩)) yard
      (fun t => (t.travel.bridge.move.map (·.target), t.travel.trolley.last.map (·.target))) =
        some (some 14000, some 4000) := by decide

/-- R85: from 1,000 mm/s, Set Speed 500 sets the requested speed; the move speed follows the setpoint down. -/
theorem test_set_speed :
    after (.setSpeed 1 (.fields ⟨some 500, none⟩)) (yardWith .bridge (movingAxis (testMove 30000 1000 .high) 1000 20000))
      (fun t => t.travel.bridge.move.map fun m => (m.requested, m.speed)) = some (some (500, 1000)) := by decide

/-- R85, R89: the profile then lowers the speed by the step in force, 40, and the move speed with it. -/
theorem test_slower :
    after (.profilePeriod .bridge) (yardWith .bridge (movingAxis ⟨30000, 500, 1000, .high, none⟩ 1000 20000))
      (fun t => (t.travel.bridge.setpoint, t.travel.bridge.move.map (·.speed))) = some (960, some 960) := by decide

/-- R86: a RELEASING axis ends CANCELLED and parks at once. -/
theorem test_stop_move :
    after (.stopMove 1 (.fields ⟨true, false⟩)) (yardWith .bridge (releasingAxis (testMove 25000 800 .high)))
      (fun t => (t.travel.bridge.state, t.travel.bridge.last.map (·.outcome))) = some (.parked, some .cancelled) := by decide

/-- R105, R106, R108: the Halt request drives the line and stops a moving bridge HALTED. -/
theorem test_halt :
    after (.halt 1 (.fields ())) movingYard (fun t => (t.halt.drives, t.halt.asserted, t.halt.notSeen)) =
      some (true, true, true) ∧
    after (.halt 1 (.fields ())) movingYard (fun t => (t.travel.bridge.state, t.travel.bridge.setpoint,
      t.travel.bridge.last.map (·.outcome))) = some (.stopping, 500, some .halted) := by decide

/-- R109: with another node still on the line, Clear Halt leaves it asserted. -/
theorem test_clear_halt : reply (.clearHalt 1 (.fields ())) haltedYard = some (.ok, .halts .clear true) := by decide

/-- R189, R191: a bad check is counted and answered at once. -/
theorem test_bad_check : reply (.badCheck 5 9) yard = some (.error, .badCheck) ∧
    after (.badCheck 5 9) yard (·.port.framing) = some 1 := by decide

/-- Chapter 7, sample 14: net 18,000 at filtered 20,350 confirms the lift. -/
theorem test_sample_lifts : after (.sample 0x7e#8) (lifting holdingAxis 4)
      (fun t => (t.weigher.load, t.weigher.settle, (eventAt t.port 3).detail, t.tasks.loose)) =
        some (.loaded, 0, some (.lift 18000 20350), true) := by decide

/-- Chapter 7: the same sample with the bridge MOVING is a snag. -/
theorem test_sample_snags : after (.sample 0x7e#8) (lifting (movingAxis (testMove 30000 1000 .high) 500 20000) 3)
      (fun t => (t.weigher.load, t.weigher.settle, t.halt.reasons.snag, t.travel.bridge.state)) =
        some (.taking, 0, true, .stopping) := by decide

/-- R118: the greatest raw count enters no window. -/
theorem test_overrange : after (.sample 0xff#8) (converting (.byte3 0x7f#8 0xff#8))
      (fun t => (t.weigher.overrange, t.weigher.window.length, t.weigher.raw)) = some (true, 8, some 8388607) := by decide

/-- R120: the filtered value becomes the tare. -/
theorem test_tare : reply (.tare 1 (.fields ())) (yardWeigher { yard.weigher with filtered := some 12 }) =
    some (.ok, .tare 12) := by decide

/-- R157: an accepted SHIFT is answered with its number and depth and reserves both slots. -/
theorem test_begin_shift : reply (.beginTask 1 (.fields beginShift)) yard = some (.ok, .begun 1 1) ∧
    after (.beginTask 1 (.fields beginShift)) yard (fun t => (slotAt t 32, slotAt t 33)) =
      some (.reservedOut 7 (some 5000) 1 1, .reservedIn 7 (some 5000) 1 1) := by decide

/-- R168: the abort restores both slots. -/
theorem test_abort : reply (.abortTask 1 (.fields 5)) heldYard = some (.ok, .unwound 1) ∧
    after (.abortTask 1 (.fields 5)) heldYard (fun t => (slotAt t 32, slotAt t 33)) =
      some (.occupied 7 (some 5000) 1, .free) := by decide

/-- Chapter 9 and section 12.2: a lift more than the tolerance of 100 kg from 5,000 kg aborts WEIGHT; within it the source
becomes FREE and its entry joins the outbox. -/
theorem test_lift :
    ((eventAt (taskLift (overSlot 11000 shiftTask heldYard.store.slots) 5101).port 2).detail =
      some (.taskAborted .weight 5 1 1 false true (.weight 5101 5000))) ∧
    (let t := taskLift (overSlot 11000 shiftTask heldYard.store.slots) 5100
     slotAt t 32 = .free ∧ t.store.outbox = [⟨32, .free⟩] ∧ t.tasks.hookCoil = some ⟨7, 5100, 1⟩) := by decide

/-- R182: the commit that meets the plan closes the bay. -/
theorem test_plan_met :
    let b : BayRecord := ⟨.loading, some ⟨workedTrailer, 1, [.empty, .loaded (some 61007) 20000, .reserved (.own 13 61030 18000)]⟩,
      some .own, false⟩
    let t := settleCradle (yard.withBay 0 b) 0 3 61030 18120
    (t.bay 0).state = .closed ∧ (eventAt t.port 9).detail = some (.bayComplete 0 2 24723 13397 38120) := by decide

/-- R149: Block Slot. -/
theorem test_block : after (.blockSlot 1 (.fields 33)) yard (fun t => (slotAt t 33, t.store.outbox)) =
    some (.blocked, [⟨33, .blocked⟩]) ∧ reply (.blockSlot 1 (.fields 34)) yard = some (.state, .none) := by decide

/-- R175, R178: a bay is docked and undocked. -/
theorem test_dock : reply (.dockTruck 1 (.fields ⟨0, workedTrailer⟩)) yard = some (.ok, .none) ∧
    after (.dockTruck 1 (.fields ⟨0, workedTrailer⟩)) yard (fun t => ((t.bay 0).state, t.link.queue.map (·.content))) =
      some (.docked, [.bayNotice 0]) ∧
    after (.undock 1 (.fields 0)) dockedYard (fun t => (t.bay 0).state) = some .empty := by decide

/-- R38, R40: a frame of rank 3 two sequences on makes it DOUBTFUL; section 12.1. -/
theorem test_gap : after (.makeWay 3 22 ⟨1, 0⟩) yard (fun t => ((t.peer 3).presence, (t.peer 3).lastSeq)) =
    some (.doubtful, some 22) := by decide

/-- R75: a Make Way that names the own rank raises its event. -/
theorem test_make_way : after (.makeWay 3 21 ⟨2, 49500⟩) yard (fun t => (eventAt t.port 8).detail) =
    some (some (.makeWay 3 49500)) := by decide

/-- R71: a report beyond the recorded region sets CLAIM_CONFLICT and is recorded (section 12.1). -/
theorem test_claim_conflict :
    after (.positionReport 3 21 ⟨.active, some 50000, 0, some ⟨39999, 60000⟩, .empty, none⟩) yard
      (fun t => (t.halt.reasons.claimConflict, (t.peer 3).claim)) = some (true, some ⟨39999, 60000⟩) := by decide

/-- R72: a conflicting claim that lies wholly beyond the new edge 42,000 does not include it, and the extension stays. -/
theorem test_conflict_keeps_extension :
    after (.positionReport 3 21 ⟨.active, some 50000, 0, some ⟨43000, 70000⟩, .empty, none⟩)
      (yardPeer 3 { livePeer 20 ⟨45000, 60000⟩ with extension := some ⟨.low, 42000, 19, 100⟩ })
      (fun t => (t.halt.reasons.claimConflict, (t.peer 3).extension)) = some (true, some ⟨.low, 42000, 19, 100⟩) := by decide

/-- R68: an Extend that touches is recorded until two report intervals on; one that overlaps draws an Objection. -/
theorem test_peer_extend :
    after (.extend 3 21 ⟨.low, 40000, none⟩) (yardPeer 3 (livePeer 20 ⟨45000, 60000⟩)) (fun t => (t.peer 3).extension) =
      some (some ⟨.low, 40000, 21, 100⟩) ∧
    after (.extend 3 21 ⟨.low, 39999, none⟩) yard (fun t => t.link.queue.map (·.content)) =
      some [.objection ⟨3, 21, .overlap⟩] := by decide

/-- R39: rank 3 holds [8,000, 14,000] with an extension to 9,000, inside it: a gap marks rows 1 to 3, at 8,000, 11,000 and
14,000. -/
def innerEdge : PeerRecord :=
  { livePeer 20 ⟨8000, 14000⟩ with extension := some ⟨.high, 9000, 20, 100⟩ }
theorem test_inner_extension : peerRegion innerEdge = some ⟨8000, 9000⟩ ∧ handedRegion innerEdge = some ⟨8000, 14000⟩ ∧
    after (.makeWay 3 22 ⟨1, 0⟩) (yardPeer 3 innerEdge) (fun t => (eventAt t.port 13).detail) =
      some (some (.storeSuspect .peerRegion (some 1) 3 (some 3))) := by decide

/-- R65: rank 3 falls silent: the waiting Extend is withdrawn, and the retry timer starts, at 200. -/
theorem test_silence_withdraws : after (.silenceTimeout 3) queuedYard (fun t => (t.claim.pending, t.link.queue, t.claim.retry)) =
    some (none, [], some 250) := by decide

/-- R60: rank 3 announces [20,000, 30,000], which the waiting Join overlaps. -/
theorem test_join_blocks : after (.join 3 0 ⟨20000, 30000⟩) waitingJoin (fun t => (t.node, queued t isJoin)) =
    some (.joinBlocked, false) := by decide

/-- R70: the window's end widens the claim and keeps a wanted edge that is not reached. -/
theorem test_extension_confirmed : after .extensionWindowExpiry extendingYard
      (fun t => (t.claim.confirmed, t.claim.wanted, t.claim.retry, t.now)) =
        some (some ⟨8000, 42000⟩, some ⟨.high, 45000⟩, some 150, 100) := by decide

/-- R74: the shrink to the standstill envelope at 20,000 with the rest margin of 500. -/
theorem test_shrink : after .shrinkTimerExpiry
      (yardClaim { ClaimRecord.reset with confirmed := some ⟨8000, 40000⟩, shrink := some 5000 }) (·.claim.confirmed) =
        some (some ⟨17400, 22600⟩) := by decide

/-- R77: an Objection VOID to the own rank. -/
theorem test_voided : after (.objection 1 11 ⟨2, 0, .void⟩) heldYard
      (fun t => (t.node, t.claim.confirmed, t.tasks.nest.length, t.halt.reasons.void)) =
        some (.voided, none, 0, true) := by decide

/-- R16, R22, R33: the attempt carries the outbox; taken, it leaves the queue to the report. -/
theorem test_attempt : after .attempt (notingYard false) (fun t => t.link.attempt.map fun a => (a.seq, a.carried)) =
      some (some (7, 3)) ∧
    after .taken (notingYard true) (fun t => (t.link.seq, t.store.outbox, t.link.queue.map (·.content))) =
      some (8, [⟨40, .free⟩], [.storeNotice, .report]) := by decide

/-- R36: the contention losses go from 65,535 to 0. -/
theorem test_contention_loss : after .contentionLoss { notingYard true with
      link := { (notingYard true).link with counters := ⟨0, 0, 0, 65535⟩ } } (·.link.counters.contentionLosses) =
        some 0 := by decide

/-- R98: the hook sinks below C with a load: the bridge takes a LOW_HOOK order. -/
theorem test_low_hook : after (.hoistCount false) { movingYard with
      weigher := { yard.weigher with load := .loaded }, travel := { movingYard.travel with hoist := ⟨5000, true⟩ } }
      (fun t => t.travel.bridge.move.map (·.stopOrder)) = some (some (some .lowHook)) := by decide

/-- R90, R100: the slowdown cuts 500 to creep speed 100, and the end limit stops the bridge. -/
theorem test_limit_inputs :
    after (.slowdownEdge .bridge .high true) movingYard (·.travel.bridge.setpoint) = some 100 ∧
    after (.endLimitEdge .bridge .high true) movingYard (fun t => (t.travel.bridge.state, t.travel.bridge.highHold)) =
      some (.stopping, true) ∧
    after (.endLimitEdge .bridge .low true) movingYard (fun t => (t.travel.bridge.state, t.travel.bridge.lowHold)) =
      some (.moving, false) := by decide

/-- R92: in window 500 of 505 ms when the input leaves the window: the settle timer, which the last period measured, ends the
move DONE. -/
theorem test_settle_timer :
    let s := bridgeAt 20500 (settlingAxis (testMove 20000 1000 .high) 20000 ⟨90, 500⟩)
    after (.settleTimerExpiry .bridge) s (fun t => t.travel.bridge.last.map (·.outcome)) = some (some .done) := by decide

/-- R22, R61: a withdrawn Join taken after a Rejoin leaves JOIN_BLOCKED with no listen window. -/
theorem test_withdrawn_join : after .taken { joiningYard true with listen := some 200 } (fun t => (t.node, t.listen)) =
    some (.joinBlocked, none) := by decide

/-- R51: another node's window releases rank 3 with the own Release of it still queued: it ends RELEASED. -/
theorem test_release_untaken : after (.releaseWindowExpiry 3)
      { yardPeer 3 { stalePeer with releasePending := some ⟨[(1, 11)], 100⟩ } with
        link := { yard.link with queue := [⟨.release ⟨3, 20⟩, 0, false, false, false, none⟩], stamp := 1 }
        peers := { (yardPeer 3 { stalePeer with releasePending := some ⟨[(1, 11)], 100⟩ }).peers with
          inFlight := some ⟨3, false⟩ } }
      (fun t => (t.peers.inFlight, (eventAt t.port 15).detail, t.link.queue.map (·.content))) =
    some (none, some (.releaseOutcome 3 .released none), []) := by decide

/-- R49: rank 3 is heard while an older, withdrawn Release is in its attempt and a newer one waits: the newer leaves the
queue, and the release in flight ends WITHDRAWN; where its own Release is in the attempt it does not end yet. -/
theorem test_release_waits :
    after (.makeWay 3 21 ⟨1, 0⟩) (releasingYard [(true, true), (false, false)])
      (fun t => (t.peers.inFlight, (eventAt t.port 15).detail)) =
      some (none, some (.releaseOutcome 3 .withdrawn none)) ∧
    after (.makeWay 3 21 ⟨1, 0⟩) (releasingYard [(true, false)]) (·.peers.inFlight) = some (some ⟨3, false⟩) := by decide

/-- R188: the denier is sent for DENIED alone; a survey's weight has four bytes, two's complement. -/
theorem test_port_bytes :
    detailBytes (.releaseOutcome 3 .released none) = [3#8, 0#8] ∧
    detailBytes (.releaseOutcome 3 .denied (some 1)) = [3#8, 1#8, 1#8, 1#8] ∧
    whole (takeSurveyEntry [3#8, 0#8, 0#8, 0#8, 7#8, 1#8, 1#8, 0#8, 1#8, 0x11#8, 0x70#8]) = some (.occupied 7 (some 70000) 1) := by
  decide +kernel

/-- R189: on the line, noise before 0xA5 is discarded, and a Halt with tag 255 is received. -/
theorem test_receive : receiveBytes .reset ([0#8, 0x5a#8] ++ frameBytes 25 255 []) =
    (.reset, [.halt 255 (.fields ())]) := by decide +kernel

/-- The idle step: one millisecond of the model's clock. -/
theorem test_idle : (match step yard with | .next t => t.now | .fault _ | .refused _ => 0) = 1 := by decide

end Sys2Proof.Tests
end

/-! SUPPORT. Make Way (R75), with what the Peer Table's work on a delivered frame leaves as it was (R38), the events that an
entry to a node state can raise, and the Position Report that the return from ISOLATED queues (R32, R46). -/

namespace Sys2Proof.Machine

/-! ## A query scan does not look at the port -/

/-- The state with another port. -/
def State.withPort (s : State) (p : Port) : State := { s with port := p }

/-- R193: an event raised is a change of the port alone. -/
theorem raiseEvent_withPort (s : State) (d : Detail) : raiseEvent s d = s.withPort (raiseEvent s d).port := rfl

/-- R143: clearing spent flags neither reads nor writes the port. -/
theorem clearSpent_withPort (s : State) (p : Port) : clearSpent (s.withPort p) = (clearSpent s).withPort p := by
  unfold clearSpent
  show List.foldl _ _ (List.range s.conf.rows) = _
  generalize List.range s.conf.rows = rows
  induction rows generalizing s with
  | nil => rfl
  | cons r rows ih =>
    rw [List.foldl_cons, List.foldl_cons, ← ih, apply_ite (State.withPort · p)]
    rfl

/-- Queueing an entry neither reads nor writes the port. -/
theorem offer_withPort (s : State) (p : Port) (c : Content) : offer (s.withPort p) c = (offer s c).withPort p := by
  unfold offer
  rw [apply_ite (State.withPort · p)]
  rfl

/-- R143: a query scan neither reads nor writes the port. -/
theorem queryScan_withPort (s : State) (p : Port) : queryScan (s.withPort p) = (queryScan s).withPort p := by
  have ask (t : State) : rowToAsk (t.withPort p) = rowToAsk t := rfl
  have store (t : State) : (t.withPort p).store = t.store := rfl
  unfold queryScan
  rw [clearSpent_withPort]
  generalize clearSpent s = t
  dsimp only
  rw [apply_ite (State.withPort · p), ask, store]
  cases rowToAsk t with
  | none => rfl
  | some row => rw [← offer_withPort]; rfl

/-- The end of a handling neither reads nor writes the port. -/
theorem finish_withPort (s : State) (p : Port) : finish (s.withPort p) = (finish s).withPort p := by
  unfold finish
  rw [apply_ite (State.withPort · p), ← queryScan_withPort]
  rfl

/-- An event raised before the end of a handling is as one raised after it. -/
theorem finish_raiseEvent (s : State) (d : Detail) : finish (raiseEvent s d) = raiseEvent (finish s) d := by
  have hp : (raiseEvent (finish s) d).port = (raiseEvent s d).port := by simp [raiseEvent]
  rw [raiseEvent_withPort s, raiseEvent_withPort (finish s), hp, finish_withPort]

/-! ## Queued Position Reports -/

/-- R24: an entry placed joins the others. -/
theorem any_insertEntry (p : Entry → Bool) (e : Entry) (q : List Entry) :
    (insertEntry e q).any p = (p e || q.any p) := by
  induction q with
  | nil => rfl
  | cons x q ih =>
    unfold insertEntry
    split
    · simp only [List.any_cons, ih, Bool.or_left_comm]
    · rfl

/-- The entries that `queued s isReport` looks for. -/
def Entry.isStandingReport (e : Entry) : Bool := isReport e.content && !e.withdrawn

theorem queued_isReport (s : State) : queued s isReport = s.link.queue.any Entry.isStandingReport := rfl

theorem isReport_iff (c : Content) : isReport c = true ↔ c = .report := by
  cases c <;> simp [isReport]

/-- R25: a Position Report merges with another alone. -/
theorem report_merges_iff (c : Content) : Content.merges .report c = true ↔ c = .report := by
  cases c <;> simp [Content.merges]

/-- R25: nothing else merges with a Position Report. -/
theorem merges_report_iff (c : Content) : c.merges .report = true ↔ c = .report := by
  cases c <;> simp [Content.merges]

/-- R25, R26: a merge leaves a Position Report in the queue. -/
theorem mergeEntry_keeps_report {c : Content} {e : Entry} (stamp : Nat) (hm : c.merges e.content = true)
    (he : e.isStandingReport = true) : (mergeEntry c stamp e).isStandingReport = true := by
  have hd : e.content = .report := (isReport_iff _).mp (Bool.and_eq_true_iff.mp he).1
  rw [hd, merges_report_iff] at hm
  subst hm
  rw [mergeEntry, if_pos (by rfl)]
  split <;> exact he

theorem mergeInto_keeps_report {c : Content} {stamp : Nat} {q q' : List Entry}
    (h : mergeInto c stamp q = some q') (hq : q.any Entry.isStandingReport = true) :
    q'.any Entry.isStandingReport = true := by
  induction q generalizing q' with
  | nil => cases h
  | cons e q ih =>
    rw [List.any_cons, Bool.or_eq_true] at hq
    unfold mergeInto at h
    split at h
    · rename_i hm
      cases h
      rw [List.any_cons, Bool.or_eq_true]
      exact hq.imp_left (mergeEntry_keeps_report stamp (Bool.and_eq_true_iff.mp hm).2)
    · obtain ⟨t, ht, rfl⟩ := Option.map_eq_some_iff.mp h
      rw [List.any_cons, Bool.or_eq_true]
      exact hq.imp_right (ih ht)

/-- R25: a Position Report merges with one that stands in the queue. -/
theorem mergeInto_report {stamp : Nat} {q q' : List Entry} (h : mergeInto .report stamp q = some q') :
    q'.any Entry.isStandingReport = true := by
  induction q generalizing q' with
  | nil => cases h
  | cons e q ih =>
    unfold mergeInto at h
    split at h
    · rename_i hm
      cases h
      obtain ⟨hw, hm⟩ := Bool.and_eq_true_iff.mp hm
      have he : e.isStandingReport = true := by
        rw [Entry.isStandingReport, (report_merges_iff _).mp hm, hw]
        rfl
      rw [List.any_cons, mergeEntry_keeps_report stamp hm he, Bool.true_or]
    · obtain ⟨t, ht, rfl⟩ := Option.map_eq_some_iff.mp h
      rw [List.any_cons, ih ht, Bool.or_true]

/-- R24, R25: another entry's arrival leaves a Position Report in the queue. -/
theorem offer_keeps_report {s : State} (c : Content) (h : queued s isReport = true) :
    queued (offer s c) isReport = true := by
  rw [queued_isReport] at h ⊢
  unfold offer
  split
  · unfold enqueue
    split <;> rename_i hm
    · exact mergeInto_keeps_report hm h
    · simp [any_insertEntry, h]
  · exact h

/-- R30: a Position Report is queued where it may join the queue. -/
theorem offer_report_queued {s : State} (h : mayJoin s.node .report = true) : queued (offer s .report) isReport = true := by
  rw [queued_isReport, offer, if_pos h]
  unfold enqueue
  split <;> rename_i hm
  · exact mergeInto_report hm
  · rw [any_insertEntry]; rfl

theorem announceOutbox_cases (s : State) : announceOutbox s = s ∨ announceOutbox s = offer s .storeNotice := by
  unfold announceOutbox
  split
  · exact .inl rfl
  · exact .inr rfl

theorem announceOutbox_keeps_report {s : State} (h : queued s isReport = true) :
    queued (announceOutbox s) isReport = true := by
  rcases announceOutbox_cases s with e | e <;> rw [e]
  · exact h
  · exact offer_keeps_report _ h

theorem queryScan_keeps_report {s : State} (h : queued s isReport = true) : queued (queryScan s) isReport = true := by
  have hc : queued (clearSpent s) isReport = true := by simpa [queued] using h
  unfold queryScan
  dsimp only
  split
  · exact hc
  · split
    · exact hc
    · exact offer_keeps_report _ hc

theorem finish_keeps_report {s : State} (h : queued s isReport = true) : queued (finish s) isReport = true := by
  unfold finish
  split
  · exact queryScan_keeps_report h
  · exact h

/-! ## What the Peer Table's work leaves as it was -/

/-- What the noting of a frame leaves as it was, up to the change of node state that it may bring: it raises PEER_CHANGED,
STORE_SUSPECT and RELEASE_OUTCOME alone. -/
structure PeerWork (s t : State) : Prop where
  inputs : t.inputs = s.inputs
  record : t.record = s.record
  node : t.node = s.node
  travel : t.travel = s.travel
  halt : t.halt = s.halt
  confirmed : t.claim.confirmed = s.claim.confirmed
  now : t.now = s.now
  events : ∀ n, n ≠ 6 → n ≠ 13 → n ≠ 15 → eventAt t.port n = eventAt s.port n

namespace PeerWork

variable {s t u : State}

theorem refl (s : State) : PeerWork s s := ⟨rfl, rfl, rfl, rfl, rfl, rfl, rfl, fun _ _ _ _ => rfl⟩

theorem trans (h : PeerWork s t) (k : PeerWork t u) : PeerWork s u where
  inputs := k.inputs.trans h.inputs
  record := k.record.trans h.record
  node := k.node.trans h.node
  travel := k.travel.trans h.travel
  halt := k.halt.trans h.halt
  confirmed := k.confirmed.trans h.confirmed
  now := k.now.trans h.now
  events n h6 h13 h15 := (k.events n h6 h13 h15).trans (h.events n h6 h13 h15)

theorem foldl {α : Type} {f : State → α → State} (hf : ∀ t a, PeerWork t (f t a)) (l : List α) (s : State) :
    PeerWork s (l.foldl f s) := by
  induction l generalizing s with
  | nil => exact refl s
  | cons a l ih => exact (hf s a).trans (ih _)

theorem conf (h : PeerWork s t) : t.conf = s.conf := conf_of_record h.record

/-- R106, R107: the line is judged as before. -/
theorem lineOk (h : PeerWork s t) (hs : Machine.lineOk s = true) : Machine.lineOk t = true := by
  simpa [Machine.lineOk, lineDue, driveDue, h.inputs, h.record, h.node, h.halt] using hs

theorem raiseEvent (s : State) {d : Detail} (h : d.number = 6 ∨ d.number = 13 ∨ d.number = 15) :
    PeerWork s (raiseEvent s d) := by
  refine ⟨rfl, rfl, rfl, rfl, rfl, rfl, rfl, fun n h6 h13 h15 => eventAt_raise_other s d ?_⟩
  rintro rfl
  simp_all

theorem mapPeer (s : State) (r : Nat) (f : PeerRecord → PeerRecord) : PeerWork s (s.mapPeer r f) :=
  ⟨rfl, rfl, rfl, rfl, rfl, rfl, rfl, fun _ _ _ _ => rfl⟩

theorem offer (s : State) (c : Content) : PeerWork s (offer s c) := by
  constructor <;> simp

theorem withdraw (s : State) (p : Content → Bool) : PeerWork s (withdraw s p) :=
  ⟨rfl, rfl, rfl, rfl, rfl, rfl, rfl, fun _ _ _ _ => rfl⟩

theorem countReceived (s : State) : PeerWork s (countReceived s) :=
  ⟨rfl, rfl, rfl, rfl, rfl, rfl, rfl, fun _ _ _ _ => rfl⟩

/-- R141: a peer region marked. -/
theorem markRegion (s : State) (i : Interval) (rank : Nat) : PeerWork s (markRegion s i rank) :=
  trans (foldl (f := markRow) (fun _ _ => ⟨rfl, rfl, rfl, rfl, rfl, rfl, rfl, fun _ _ _ _ => rfl⟩) (rowsInside s.conf i) s)
    (raiseEvent _ (.inr (.inl rfl)))

/-- R186: the unsure flags set. -/
theorem unsureBays (s : State) (i : Interval) : PeerWork s (unsureBays s i) := by
  refine foldl (fun t b => ?_) _ s
  split
  · exact ⟨rfl, rfl, rfl, rfl, rfl, rfl, rfl, fun _ _ _ _ => rfl⟩
  · exact refl t

theorem handRegion (s : State) (region : Option Interval) (rank : Nat) : PeerWork s (handRegion s region rank) := by
  cases region with
  | none => exact refl s
  | some i => exact (markRegion s i rank).trans (unsureBays _ i)

/-- R53: the release in flight ended. -/
theorem endFlight (s : State) (o : ReleaseOutcome) (denier : Option Nat) : PeerWork s (endFlight s o denier) := by
  unfold Machine.endFlight
  split
  · exact refl s
  · exact trans (t := { s with peers := { s.peers with inFlight := none } })
      ⟨rfl, rfl, rfl, rfl, rfl, rfl, rfl, fun _ _ _ _ => rfl⟩ (raiseEvent _ (.inr (.inr rfl)))

theorem flightLeavesStale (s : State) (rank : Nat) : PeerWork s (flightLeavesStale s rank) := by
  unfold Machine.flightLeavesStale
  dsimp only
  repeat' split
  case _ => exact endFlight s _ _
  case _ => exact withdraw s _
  case _ => exact (withdraw s _).trans (endFlight _ _ _)
  all_goals exact refl s

theorem denyPending (s : State) (rank : Nat) : PeerWork s (denyPending s rank) := by
  unfold Machine.denyPending
  split
  · exact refl s
  · exact (mapPeer s rank _).trans (foldl (fun t _ => offer t _) _ _)

/-- R42, R47, R49: a record leaves STALE. -/
theorem leaveStale (s : State) (rank : Nat) : PeerWork s (leaveStale s rank) := by
  unfold Machine.leaveStale
  split
  · exact (denyPending s rank).trans ((flightLeavesStale _ rank).trans (mapPeer _ rank _))
  · exact refl s

/-- R53: a presence set. -/
theorem setPresence (s : State) (rank : Nat) (p : Presence) : PeerWork s (setPresence s rank p) := by
  unfold Machine.setPresence
  dsimp only
  split
  · exact mapPeer s rank _
  · exact (mapPeer s rank _).trans (raiseEvent _ (.inl rfl))

/-- R65: the own Extend re-tested. -/
theorem retestExtend (s : State) : PeerWork s (retestExtend s) := by
  unfold Machine.retestExtend
  split
  · split
    · constructor <;> simp [withdrawClaimFrame]
    · exact refl s
  · exact refl s

/-- R60, R65: outside LISTENING no Join waits, and the own Extend alone is re-tested. -/
theorem retest (h : s.node ≠ .listening) : PeerWork s (retest s) := by
  have : retestJoin s = s := by rw [retestJoin, if_neg h]
  rw [Machine.retest, this]
  exact retestExtend s

end PeerWork

/-- R38: a frame noted is the Peer Table's work, then a re-test and R46. -/
theorem noteFrame_work (s : State) (sender seq : Nat) (isReport : Bool) :
    ∃ t, PeerWork s t ∧ noteFrame s sender seq isReport = heardAnyPeer (retest t) := by
  refine ⟨_, ?_, rfl⟩
  refine .trans ?_ (PeerWork.setPresence _ sender _)
  refine .trans ?_ (PeerWork.leaveStale _ sender)
  refine .trans ?_ (PeerWork.mapPeer _ sender _)
  split
  · exact (PeerWork.mapPeer s sender _).trans (.handRegion _ _ _)
  · exact .mapPeer s sender _

/-- R38: outside LISTENING, a frame noted is the Peer Table's work, then R46. -/
theorem noteFrame_outside_listening {s : State} (h : s.node ≠ .listening) (sender seq : Nat) (isReport : Bool) :
    ∃ t, PeerWork s t ∧ noteFrame s sender seq isReport = heardAnyPeer t := by
  obtain ⟨t, ht, e⟩ := noteFrame_work s sender seq isReport
  exact ⟨_, ht.trans (.retest (ht.node ▸ h)), e⟩

/-! ## Entry to a node state -/

section
variable (s : State)

/-- R104: the end of a move raises MOVE_DONE and CLAIM_CHANGED alone. -/
theorem endMove_events (a : Axis) (o : MoveOutcome) {n : Nat} (h0 : n ≠ 0) (h7 : n ≠ 7) :
    eventAt (endMove s a o).port n = eventAt s.port n := by
  unfold endMove
  split
  · rfl
  · exact recordEnd_events s a o _ h0 h7

/-- R96: a stop raises MOVE_DONE and CLAIM_CHANGED alone. -/
theorem stopAxis_events (a : Axis) (o : MoveOutcome) {n : Nat} (h0 : n ≠ 0) (h7 : n ≠ 7) :
    eventAt (stopAxis s a o).port n = eventAt s.port n := by
  unfold stopAxis
  split <;> simp [endMove_events, h0, h7]

/-- R107, R108: an edge of the line raises HALT_CHANGED, and what the stop of the axes raises. -/
theorem lineEdge_events (b : State) {n : Nat} (h0 : n ≠ 0) (h5 : n ≠ 5) (h7 : n ≠ 7) :
    eventAt (lineEdge b s).port n = eventAt s.port n := by
  have edge (c : HaltCause) : eventAt (haltEvent s c).port n = eventAt s.port n := eventAt_raise_other s _ h5
  unfold lineEdge
  split
  · rw [stopAxis_events _ _ _ h0 h7, stopAxis_events _ _ _ h0 h7, edge]
  · split
    · exact edge _
    · rfl

/-- R107: while drive and line state are up to date, there is no edge to act on. -/
theorem refreshLine_of_lineOk (h : lineOk s = true) : refreshLine s = s := by
  simp only [lineOk, Bool.and_eq_true, beq_iff_eq] at h
  obtain ⟨⟨hd, ha⟩, hn⟩ := h
  have : judgeLine s = s := by rw [judgeLine, ← hn, ← hd, ← ha]
  rw [refreshLine, this]
  simp [lineEdge]

@[simp] theorem announceOutbox_keeps :
    (announceOutbox s).record = s.record ∧ (announceOutbox s).node = s.node ∧ (announceOutbox s).peers = s.peers ∧
    (announceOutbox s).claim = s.claim ∧ (announceOutbox s).travel = s.travel ∧ (announceOutbox s).port = s.port := by
  rcases announceOutbox_cases s with e | e <;> rw [e] <;> simp

/-- The record, node state and events after an entry to a node state are those that R15 and the line's edge leave. -/
theorem enterNode_after_line (m : NodeState) :
    (enterNode s m).record = (refreshLine (changeNode s m)).record ∧
    (enterNode s m).node = (refreshLine (changeNode s m)).node ∧
    (enterNode s m).port = (refreshLine (changeNode s m)).port := by
  cases m <;> simp [enterNode]

@[simp] theorem enterNode_record (m : NodeState) : (enterNode s m).record = s.record := by
  simp [enterNode_after_line, changeNode]

@[simp] theorem enterNode_node (m : NodeState) : (enterNode s m).node = m := by
  simp [enterNode_after_line, changeNode]

/-- An entry to a node state raises NODE_STATE, and what an edge of the line raises. -/
theorem enterNode_events (m : NodeState) {n : Nat} (h0 : n ≠ 0) (h5 : n ≠ 5) (h7 : n ≠ 7) (h14 : n ≠ 14) :
    eventAt (enterNode s m).port n = eventAt s.port n := by
  have h : (enterNode s m).port = (refreshLine (changeNode s m)).port := (enterNode_after_line s m).2.2
  rw [h, refreshLine, lineEdge_events _ _ h0 h5 h7]
  exact eventAt_raise_other _ _ h14

/-- R46: what a frame heard raises. -/
theorem heardAnyPeer_events {n : Nat} (h0 : n ≠ 0) (h5 : n ≠ 5) (h7 : n ≠ 7) (h14 : n ≠ 14) :
    eventAt (heardAnyPeer s).port n = eventAt s.port n := by
  unfold heardAnyPeer
  split
  · rfl
  · exact enterNode_events s .active h0 h5 h7 h14
  · rfl

@[simp] theorem heardAnyPeer_record : (heardAnyPeer s).record = s.record := by
  unfold heardAnyPeer
  split <;> simp

/-- R60: a Join re-tested, and blocked where it has become void. -/
theorem retestJoin_cases : retestJoin s = s ∨ retestJoin s = blockJoin (withdrawClaimFrame s) := by
  unfold retestJoin
  split
  · split
    · split
      · exact .inr rfl
      · exact .inl rfl
    · exact .inl rfl
  · exact .inl rfl

theorem retest_record : (retest s).record = s.record := by
  rw [retest, (PeerWork.retestExtend _).record]
  rcases retestJoin_cases s with e | e <;> rw [e]
  simp [blockJoin, withdrawClaimFrame]

/-- R60, R65: what a re-test raises. -/
theorem retest_events {n : Nat} (h0 : n ≠ 0) (h5 : n ≠ 5) (h6 : n ≠ 6) (h7 : n ≠ 7) (h13 : n ≠ 13) (h14 : n ≠ 14)
    (h15 : n ≠ 15) : eventAt (retest s).port n = eventAt s.port n := by
  rw [retest, (PeerWork.retestExtend _).events n h6 h13 h15]
  rcases retestJoin_cases s with e | e <;> rw [e]
  rw [blockJoin, enterNode_events _ _ h0 h5 h7 h14]
  rfl

end

/-! ## A frame noted -/

section
variable (s : State) (sender seq : Nat) (ofReport : Bool)

/-- A frame noted leaves the start record. -/
theorem noteFrame_record : (noteFrame s sender seq ofReport).record = s.record := by
  obtain ⟨t, ht, e⟩ := noteFrame_work s sender seq ofReport
  rw [e, heardAnyPeer_record, retest_record, ht.record]

/-- A frame noted raises no MAKE_WAY. -/
theorem noteFrame_makeWay_event : eventAt (noteFrame s sender seq ofReport).port 8 = eventAt s.port 8 := by
  obtain ⟨t, ht, e⟩ := noteFrame_work s sender seq ofReport
  rw [e, heardAnyPeer_events, retest_events, ht.events] <;> decide

variable {s}

/-- R32, R46: a node that returns to ACTIVE queues a Position Report, announces its outbox and owes a query scan. -/
theorem enterNode_active_of_isolated (hn : s.node = .isolated) (hl : lineOk s = true) :
    enterNode s .active = scanLater (announceOutbox (offer (changeNode s .active) .report)) := by
  have hl' : lineOk (changeNode s .active) = true := by
    simpa [lineOk, lineDue, driveDue, drivingState, changeNode, hn] using hl
  rw [enterNode, refreshLine_of_lineOk _ hl']

/-- Outside LISTENING a frame noted moves no axis and leaves the confirmed claim. -/
theorem noteFrame_keeps_motion (hn : s.node ≠ .listening) (hl : lineOk s = true) :
    (noteFrame s sender seq ofReport).travel = s.travel ∧
    (noteFrame s sender seq ofReport).claim.confirmed = s.claim.confirmed := by
  obtain ⟨t, ht, e⟩ := noteFrame_outside_listening hn sender seq ofReport
  rw [e, ← ht.travel, ← ht.confirmed]
  unfold heardAnyPeer
  split
  · exact ⟨rfl, rfl⟩
  · rw [enterNode_active_of_isolated ‹_› (ht.lineOk hl)]
    simp [changeNode]
  · exact ⟨rfl, rfl⟩

/-- R46: the first frame noted in ISOLATED makes the node ACTIVE again. -/
theorem noteFrame_isolated (hn : s.node = .isolated) (hl : lineOk s = true) (h1 : s.conf.craneCount ≠ 1) :
    let u := noteFrame s sender seq ofReport
    u.node = .active ∧ queued u isReport = true ∧ u.peers.isolation = some (s.now + silenceTimeoutOf s.conf) ∧
      eventAt u.port 14 = (eventAt s.port 14).next (.nodeState .active .isolated) := by
  obtain ⟨t, ht, e⟩ := noteFrame_outside_listening (by rw [hn]; simp) sender seq ofReport
  have htn : t.node = .isolated := ht.node.trans hn
  have active : heardAnyPeer t = scanLater (announceOutbox (offer (changeNode t .active) .report)) := by
    rw [heardAnyPeer, htn]
    exact enterNode_active_of_isolated htn (ht.lineOk hl)
  dsimp only
  rw [e, active]
  refine ⟨by simp [changeNode], announceOutbox_keeps_report (offer_report_queued (by rfl)), ?_, ?_⟩
  · simp [changeNode, peersAtEntry, ht.conf, ht.now, h1]
  · have : eventAt t.port 14 = eventAt s.port 14 := ht.events 14 (by decide) (by decide) (by decide)
    rw [← this, ← htn]
    simp only [scanLater_port, announceOutbox_keeps, offer_port]
    exact eventAt_raise_same _ (.nodeState .active t.node)

end

/-! ## Make Way -/

theorem exec_makeWay (sender seq : Nat) (f : MakeWayFrame) (s : State) :
    exec (.makeWay sender seq f) s = execMakeWay sender seq f s := by
  rfl

/-- R20: a frame of another rank of the runway is well-formed. -/
theorem senderMalformed_peer {s : State} {r : Nat} (h0 : r ≠ 0) (hc : r ≤ s.conf.craneCount) (ho : r ≠ s.conf.ownRank) :
    senderMalformed s r = false := by
  simp [senderMalformed, h0, ho, hc]

/-- R21, R38: a Make Way of a peer that is not RELEASED is noted, and then taken. -/
theorem exec_makeWay_delivered {s : State} {r : Nat} (seq : Nat) (f : MakeWayFrame) (hr : s.record.isSome = true)
    (hm : senderMalformed s r = false) (hp : (s.peer r).presence ≠ .released) :
    exec (.makeWay r seq f) s = .next (finish (makeWayTaken r f (noteFrame (countReceived s) r seq false))) := by
  have hp' : ((countReceived s).peer r).presence ≠ .released := hp
  rw [exec_makeWay, execMakeWay, receive_delivered s _ hm hr, hearFrame, if_neg hp']

/-- R193: the repeat count of a further occurrence. -/
theorem EventRecord.next_count (e : EventRecord) (d : Detail) :
    (e.pending = false → (e.next d).count = 1) ∧
    (e.pending = true → e.count < 255 → (e.next d).count = e.count + 1) := by
  constructor
  · intro h; simp [EventRecord.next, h]
  · intro h hc; simp [EventRecord.next, h, Config.repeatTop, hc]

/-- Settles O54: the frame naming the own rank and the one naming another are noted alike; the first then raises MAKE_WAY, and
the query scan that may follow does not look at the events. -/
theorem makeWay : Obligations.MakeWay := by
  intro s r seq f g _ hr hl h0 hc ho hp hf hg
  have hm := senderMalformed_peer h0 hc ho
  have hw : PeerWork s (countReceived s) := .countReceived s
  have hl' := hw.lineOk hl
  have conf : (noteFrame (countReceived s) r seq false).conf = s.conf :=
    conf_of_record ((noteFrame_record _ r seq false).trans hw.record)
  have event : eventAt (finish (noteFrame (countReceived s) r seq false)).port 8 = eventAt s.port 8 := by
    simpa using noteFrame_makeWay_event (countReceived s) r seq false
  have raised := eventAt_raise_same (finish (noteFrame (countReceived s) r seq false)) (.makeWay r f.edge)
  rw [show Detail.number (.makeWay r f.edge) = 8 from rfl, event] at raised
  have count := EventRecord.next_count (eventAt s.port 8) (.makeWay r f.edge)
  refine ⟨finish (noteFrame (countReceived s) r seq false), ?_, ?_, event, ?_, ?_⟩
  · rw [exec_makeWay_delivered seq g hr hm hp, makeWayTaken, conf, if_neg hg]
  · rw [exec_makeWay_delivered seq f hr hm hp, makeWayTaken, conf, if_pos hf, finish_raiseEvent]
  · dsimp only
    rw [raised]
    refine ⟨rfl, rfl, count.1, count.2, fun hn => ?_⟩
    simpa using noteFrame_keeps_motion r seq false (s := countReceived s) hn hl'
  · intro hn h1
    obtain ⟨active, report, isolation, node⟩ := noteFrame_isolated r seq false (s := countReceived s) hn hl' h1
    simp only [finish_keeps]
    exact ⟨active, finish_keeps_report report, isolation, node⟩

end Sys2Proof.Machine

/-! SUPPORT. A sample out of range (R118), with what the work of the Task Engine and of the Halt Line Unit on a sample leaves of
the weigher record: every word of it, so the overrange flag that a sample in range has cleared stays clear. -/

namespace Sys2Proof.Machine

variable (s : State)

/-! ## The Task Engine's work leaves the weigher record -/

/-- A fold of steps that leave the weigher record leaves it. -/
theorem foldl_weigher {α : Type} {f : State → α → State} (hf : ∀ t a, (f t a).weigher = t.weigher) (l : List α) :
    (l.foldl f s).weigher = s.weigher :=
  (List.foldl_hom State.weigher fun t a => (hf t a).symm).symm.trans (List.foldl_fixed l)

@[simp] theorem settleRow_weigher (row : Nat) : (settleRow s row).weigher = s.weigher := by
  unfold settleRow
  dsimp only
  repeat' split
  all_goals rfl

@[simp] theorem changeSlot_weigher (n : Nat) (r : SlotRecord) : (changeSlot s n r).weigher = s.weigher := by
  simp [changeSlot]

@[simp] theorem markSuspect_weigher (row : Nat) (c : SuspectCause) (rank : Option Nat) :
    (markSuspect s row c rank).weigher = s.weigher := rfl

@[simp] theorem joinOutbox_weigher (e : OutboxEntry) : (joinOutbox s e).weigher = s.weigher := by
  unfold joinOutbox
  dsimp only
  split <;> simp

@[simp] theorem settleSource_weigher (n : Nat) : (settleSource s n).weigher = s.weigher := by
  simp [settleSource]

@[simp] theorem settleDestination_weigher (n coil cls : Nat) (w : Int) :
    (settleDestination s n coil cls w).weigher = s.weigher := by
  simp [settleDestination]

@[simp] theorem ownBayChange_weigher (b : Nat) (r : BayRecord) : (ownBayChange s b r).weigher = s.weigher := by
  simp [ownBayChange, bayChanged]

@[simp] theorem settleCradle_weigher (b i coil : Nat) (w : Int) : (settleCradle s b i coil w).weigher = s.weigher := by
  unfold settleCradle
  dsimp only
  repeat' split
  all_goals simp

@[simp] theorem restoreEntry_weigher (e : JournalEntry) : (restoreEntry s e).weigher = s.weigher := by
  unfold restoreEntry
  split <;> simp [restoreSlot, restoreCradle]

@[simp] theorem unwindTask_weigher (c : AbortCause) (depth : Nat) (t : Task) :
    (unwindTask c depth s t).weigher = s.weigher :=
  foldl_weigher s restoreEntry_weigher _

@[simp] theorem unwind_weigher (c : AbortCause) (depth : Nat) : (unwind s c depth).weigher = s.weigher :=
  foldl_weigher s (fun t => unwindTask_weigher t c depth) _

/-- R168: an abort leaves the weigher record where its work on the hook coil record does. -/
theorem abortAtTop_weigher (c : AbortCause) (x : AbortDetail) {hook : State → State}
    (h : ∀ t, (hook t).weigher = t.weigher) : (abortAtTop s c x hook).weigher = s.weigher := by
  unfold abortAtTop
  split
  · rfl
  · simp [abortNest, h]

@[simp] theorem liftClash_weigher (coil : Nat) (p : Place) : (liftClash s coil p).weigher = s.weigher := by
  unfold liftClash
  dsimp only
  rw [foldl_weigher]
  · split <;> simp
  · intro t b
    split <;> simp [unname]

@[simp] theorem settleLift_weigher (t : Task) (net : Int) : (settleLift s t net).weigher = s.weigher := by
  unfold settleLift
  cases t.source <;> simp

/-- R158 to R161: a LIFT taken leaves the weigher record. -/
@[simp] theorem taskLift_weigher (net : Int) : (taskLift s net).weigher = s.weigher := by
  unfold taskLift
  split
  · rfl
  split
  · rfl
  split
  · exact abortAtTop_weigher _ _ _ fun _ => rfl
  split
  · exact abortAtTop_weigher _ _ _ fun _ => rfl
  split
  · exact settleLift_weigher _ _ _
  split
  · exact settleLift_weigher _ _ _
  · exact abortAtTop_weigher _ _ _ fun _ => rfl

@[simp] theorem commitTask_weigher (t : Task) : (commitTask s t).weigher = s.weigher := by
  unfold commitTask
  cases t.dest <;> simp

@[simp] theorem setWithoutTask_weigher (net : Int) : (setWithoutTask s net).weigher = s.weigher := by
  unfold setWithoutTask
  repeat' split
  all_goals simp

/-- R162 to R164: a SET taken leaves the weigher record. -/
@[simp] theorem taskSet_weigher (net : Int) : (taskSet s net).weigher = s.weigher := by
  unfold taskSet
  split
  · exact setWithoutTask_weigher _ _
  split
  · rfl
  split
  · exact commitTask_weigher _ _
  · exact abortAtTop_weigher _ _ _ fun _ => rfl

/-- R165: a SNAG taken leaves the weigher record. -/
@[simp] theorem taskSnag_weigher : (taskSnag s).weigher = s.weigher :=
  abortAtTop_weigher s .snag .none fun _ => rfl

@[simp] theorem dropLoad_weigher : (dropLoad s).weigher = s.weigher := by
  unfold dropLoad
  split <;> simp

/-- R166: a LOAD_LOST taken leaves the weigher record. -/
@[simp] theorem taskLoadLost_weigher : (taskLoadLost s).weigher = s.weigher := by
  unfold taskLoadLost
  split
  · exact dropLoad_weigher s
  · exact abortAtTop_weigher s .loadLost .none dropLoad_weigher

/-! ## A sample in range clears the overrange flag -/

/-- R126, R127: what an evaluation hands on leaves the weigher record. -/
@[simp] theorem handOn_weigher (a : HookAct) (net filtered : Int) : (handOn s a net filtered).weigher = s.weigher := by
  cases a <;> simp [handOn]

/-- R121: an evaluation of the hook load state leaves the overrange flag. -/
@[simp] theorem evaluateHook_overrange (net filtered : Int) :
    (evaluateHook s net filtered).weigher.overrange = s.weigher.overrange := by
  unfold evaluateHook
  dsimp only
  repeat' split
  all_goals simp

/-- R128: the comparison with the safe working load leaves the overrange flag. -/
@[simp] theorem judgeOverload_overrange (net : Int) :
    (judgeOverload s net).weigher.overrange = s.weigher.overrange := by
  unfold judgeOverload
  repeat' split
  all_goals rfl

/-- R118: a sample in range clears the overrange flag. -/
@[simp] theorem inRangeSample_overrange (raw : Int) : (inRangeSample s raw).weigher.overrange = false := by
  simp [inRangeSample, enterGross]

/-! ## The sample event -/

variable {s}

/-- R118: the two saturation values. -/
theorem saturated_iff (raw : Int) : saturated raw = true ↔ raw = -8388608 ∨ raw = 8388607 := by
  simp [saturated]

/-- R115, R117: byte 3 of a transfer is the sample event. -/
theorem exec_sample {b1 b2 : Byte} (b : Byte) (hc : s.weigher.converter = .byte3 b1 b2) :
    exec (.sample b) s = .next (finish (takeSample s (rawCount b1 b2 b))) := by
  have sample : exec (.sample b) s = .next (completeSample b s) := rfl
  rw [sample, completeSample, hc]

/-- R118: the weigher record after an overrange sample. -/
def overranged (s : State) (raw : Int) : Weigher :=
  { s.weigher with
    converter := .armed, raw := some raw, timer := some (s.now + Config.sampleTimeout), overrange := true, settle := 0 }

/-- R118: an overrange sample where the flag is set already changes the weigher record alone. -/
theorem takeSample_saturated_again {raw : Int} (h : saturated raw = true) (ho : s.weigher.overrange = true) :
    takeSample s raw = withWeigher s (overranged s raw) := by
  simp [takeSample, h, overrangeSample, ho, withWeigher, overranged]

/-- R118: an overrange sample where the flag was clear raises WEIGHT_FAULT besides. -/
theorem takeSample_saturated_first {raw : Int} (h : saturated raw = true) (ho : s.weigher.overrange = false) :
    takeSample s raw = weightFault (withWeigher s (overranged s raw)) .overrange := by
  simp [takeSample, h, overrangeSample, ho, withWeigher, overranged]

end Sys2Proof.Machine

/-! ## The obligation

It stands outside the model's namespace, which has an operation `overrangeSample`. -/

namespace Sys2Proof.Proofs

open Machine

/-- Settles O37: an overrange sample by its two equations, which leave no query scan due; a sample in range by the lemmas that
carry the cleared flag past the evaluation of the hook load state, its acts and the overload. -/
theorem overrangeSample : Obligations.OverrangeSample := by
  refine ⟨fun s b hs b1 b2 hc => ?_, rfl⟩
  have hs : s.scanDue = false := by simpa [settled] using hs
  rw [exec_sample b hc]
  refine ⟨fun h => ?_, fun hlow hhigh => ?_⟩
  · have h : saturated (rawCount b1 b2 b) = true := (saturated_iff _).2 h
    constructor
    · intro ho
      rw [takeSample_saturated_again h ho, finish_settled _ (by exact hs)]
      rfl
    · intro ho
      rw [takeSample_saturated_first h ho, finish_settled _ (by exact hs)]
      rfl
  · have h : ¬ saturated (rawCount b1 b2 b) = true := by
      rw [saturated_iff, not_or]
      exact ⟨hlow, hhigh⟩
    exact ⟨_, rfl, by simp [takeSample, h]⟩

end Sys2Proof.Proofs

/-! SUPPORT. The transmit queue (section 2.5): what an entry's arrival, its withdrawal, an attempt and its end leave of the
order and of the merging (R24 to R28). -/

namespace Sys2Proof.Machine

/-! ## Merging is an equivalence of kinds -/

/-- R25: what two entries that merge have in common; an answer (R34) merges with nothing. -/
def Content.mergeKey : Content → Option (Nat × Nat × Bool)
  | .objection f => some (0, f.target, f.reason == .releaseDenied)
  | .release _ => some (1, 0, false)
  | .join _ | .extend _ => some (2, 0, false)
  | .storeNotice => some (3, 0, false)
  | .bayNotice b => some (4, b, false)
  | .makeWay _ => some (5, 0, false)
  | .slotQuery _ => some (6, 0, false)
  | .report => some (7, 0, false)
  | .answer _ _ _ => none

theorem merges_iff (c d : Content) : c.merges d = true ↔ c.mergeKey = d.mergeKey ∧ c.mergeKey ≠ none := by
  cases c <;> cases d <;> simp [Content.merges, Content.mergeKey]

theorem merges_symm {c d : Content} (h : c.merges d = true) : d.merges c = true := by
  obtain ⟨e, n⟩ := (merges_iff c d).mp h
  exact (merges_iff d c).mpr ⟨e.symm, e ▸ n⟩

/-- Contents that merge with one another merge with the same contents. -/
theorem merges_congr {c d : Content} (h : c.merges d = true) (e : Content) : c.merges e = d.merges e := by
  have hk := ((merges_iff c d).mp h).1
  rw [Bool.eq_iff_iff, merges_iff, merges_iff, hk]

theorem merges_congr_right {c d : Content} (h : c.merges d = true) (e : Content) : e.merges c = e.merges d := by
  have hk := ((merges_iff c d).mp h).1
  rw [Bool.eq_iff_iff, merges_iff, merges_iff, hk]

theorem merges_cls {c d : Content} (h : c.merges d = true) : c.cls = d.cls := by
  cases c <;> cases d <;> first | rfl | cases h

theorem merges_live {c d : Content} (h : c.merges d = true) : c.live = d.live := by
  cases c <;> cases d <;> first | rfl | cases h

/-! ## The parts of a well-kept queue -/

/-- R25: two entries that may stand in the queue together. -/
def apartEntries (e f : Entry) : Prop := e.withdrawn = true ∨ f.withdrawn = true ∨ e.content.merges f.content = false

/-- R27, R28: what a queue entry's marks allow. -/
def entryMarksOk (e : Entry) : Prop :=
  (e.withdrawn = true → e.offered = true) ∧
    ∀ c, e.successor = some c → e.offered = true ∧ c.1.cls = e.content.cls ∧ c.1.merges e.content = true ∧
      c.1.live = false ∧ e.content.live = false

theorem ordered_iff (q : List Entry) : ordered q = true ↔ q.Pairwise fun e f => standsBefore e f = true := by
  induction q with
  | nil => simp [ordered]
  | cons e q ih => simp [ordered, ih]

theorem merged_iff (q : List Entry) : merged q = true ↔ q.Pairwise apartEntries := by
  induction q with
  | nil => simp [merged]
  | cons e q ih =>
    simp only [merged, Bool.and_eq_true, ih, List.pairwise_cons, apartEntries, Bool.or_eq_true, List.all_eq_true,
      Bool.not_eq_true']
    refine and_congr ?_ Iff.rfl
    by_cases he : e.withdrawn = true <;> simp [he]

/-- A queue whose entries stand in order, apart from one another and well marked, `n` of them being offered. -/
structure QueueKept (q : List Entry) (n : Nat) : Prop where
  order : q.Pairwise fun e f => standsBefore e f = true
  apart : q.Pairwise apartEntries
  offers : q.countP (·.offered) = n
  marks : ∀ e ∈ q, entryMarksOk e

theorem queueOk_iff (l : Link) : queueOk l = true ↔ QueueKept l.queue (if l.attempt.isSome then 1 else 0) := by
  have marks : (l.queue.all fun e => (!e.withdrawn || e.offered) && e.successor.all fun c =>
      e.offered && c.1.cls == e.content.cls && c.1.merges e.content && !c.1.live && !e.content.live) = true ↔
      ∀ e ∈ l.queue, entryMarksOk e := by
    simp only [List.all_eq_true, entryMarksOk, Bool.and_eq_true, Option.all_eq_true, Bool.or_eq_true, Bool.not_eq_true',
      beq_iff_eq, and_assoc]
    refine forall₂_congr fun e _ => and_congr ?_ Iff.rfl
    cases e.withdrawn <;> simp
  unfold queueOk
  rw [Bool.and_eq_true, Bool.and_eq_true, Bool.and_eq_true, ordered_iff, merged_iff, beq_iff_eq, marks]
  exact ⟨fun ⟨⟨⟨a, b⟩, c⟩, d⟩ => ⟨a, b, c, d⟩, fun ⟨a, b, c, d⟩ => ⟨⟨⟨a, b⟩, c⟩, d⟩⟩

theorem apartEntries_symm {e f : Entry} (h : apartEntries e f) : apartEntries f e := by
  rcases h with h | h | h
  · exact .inr (.inl h)
  · exact .inl h
  · refine .inr (.inr ?_)
    by_contra hc
    rw [Bool.not_eq_false] at hc
    simp [merges_symm hc] at h

/-! ## The order (R24) -/

theorem standsBefore_iff (e f : Entry) : standsBefore e f = true ↔
    e.content.cls < f.content.cls ∨ (e.content.cls = f.content.cls ∧ e.age ≤ f.age) := by
  simp [standsBefore]

theorem insertEntry_perm (e : Entry) (q : List Entry) : (insertEntry e q).Perm (e :: q) := by
  induction q with
  | nil => exact .refl _
  | cons x q ih =>
    unfold insertEntry
    split
    · exact (ih.cons x).trans (.swap e x q)
    · exact .refl _

/-- R24: an entry placed keeps the order. -/
theorem insertEntry_ordered (e : Entry) {q : List Entry} (h : q.Pairwise fun e f => standsBefore e f = true) :
    (insertEntry e q).Pairwise fun e f => standsBefore e f = true := by
  induction q with
  | nil => simp [insertEntry]
  | cons x q ih =>
    obtain ⟨hx, hq⟩ := List.pairwise_cons.mp h
    unfold insertEntry
    split
    · rename_i hb
      refine List.pairwise_cons.mpr ⟨fun y hy => ?_, ih hq⟩
      rcases List.mem_cons.mp ((insertEntry_perm e q).mem_iff.mp hy) with rfl | hy
      · exact hb
      · exact hx y hy
    · rename_i hb
      have ex : standsBefore e x = true := by
        rw [standsBefore_iff]
        simp [Entry.before] at hb
        omega
      refine List.pairwise_cons.mpr ⟨fun y hy => ?_, h⟩
      rcases List.mem_cons.mp hy with rfl | hy
      · exact ex
      · have := hx y hy
        rw [standsBefore_iff] at *
        omega

/-- An entry apart from every other, and not offered, is placed in a well-kept queue. -/
theorem QueueKept.insert {q : List Entry} {n : Nat} (h : QueueKept q n) {e : Entry} (ho : e.offered = false)
    (hm : entryMarksOk e) (ha : ∀ f ∈ q, apartEntries e f) : QueueKept (insertEntry e q) n where
  order := insertEntry_ordered e h.order
  apart := ((insertEntry_perm e q).pairwise_iff apartEntries_symm).mpr (List.pairwise_cons.mpr ⟨ha, h.apart⟩)
  offers := by rw [(insertEntry_perm e q).countP_eq, List.countP_cons_of_neg (by simp [ho]), h.offers]
  marks f hf := by
    rcases List.mem_cons.mp ((insertEntry_perm e q).mem_iff.mp hf) with rfl | hf
    · exact hm
    · exact h.marks f hf

/-- A queue whose entries are kept or dropped, each kept one with its class, its age and what it merges with. -/
theorem QueueKept.filterMap {q : List Entry} {n m : Nat} (h : QueueKept q n) (g : Entry → Option Entry)
    (hg : ∀ e ∈ q, ∀ e', g e = some e' → e'.content.cls = e.content.cls ∧ e'.age = e.age ∧
      (e.withdrawn = true → e'.withdrawn = true) ∧ (e'.content = e.content ∨ e'.content.merges e.content = true) ∧
      entryMarksOk e')
    (hn : (q.filterMap g).countP (·.offered) = m) : QueueKept (q.filterMap g) m where
  order := by
    refine List.pairwise_filterMap.mpr (h.order.imp_of_mem fun {e f} he hf hef e' he' f' hf' => ?_)
    obtain ⟨c1, a1, -⟩ := hg e he e' he'
    obtain ⟨c2, a2, -⟩ := hg f hf f' hf'
    rw [standsBefore_iff] at *
    omega
  apart := by
    refine List.pairwise_filterMap.mpr (h.apart.imp_of_mem fun {e f} he hf hef e' he' f' hf' => ?_)
    obtain ⟨-, -, w1, m1, -⟩ := hg e he e' he'
    obtain ⟨-, -, w2, m2, -⟩ := hg f hf f' hf'
    refine hef.imp w1 (Or.imp w2 fun hm => ?_)
    have : e'.content.merges f'.content = e.content.merges f'.content := by
      rcases m1 with m1 | m1
      · rw [m1]
      · exact merges_congr m1 _
    rw [this, ← hm]
    rcases m2 with m2 | m2
    · rw [m2]
    · exact merges_congr_right m2 _
  offers := hn
  marks e' he' := by
    obtain ⟨e, he, h'⟩ := List.mem_filterMap.mp he'
    exact (hg e he e' h').2.2.2.2

/-! ## An arrival (R25, R27) -/

theorem mergeEntry_offered (c : Content) (stamp : Nat) (e : Entry) : (mergeEntry c stamp e).offered = e.offered := by
  unfold mergeEntry
  repeat' split
  all_goals rfl

/-- R25, R27: the entry that takes an arrival in keeps its place and what it merges with. -/
theorem mergeEntry_kept {c : Content} {e : Entry} (stamp : Nat) (hm : c.merges e.content = true)
    (he : entryMarksOk e) :
    (mergeEntry c stamp e).content.cls = e.content.cls ∧ (mergeEntry c stamp e).age = e.age ∧
      (mergeEntry c stamp e).withdrawn = e.withdrawn ∧
      ((mergeEntry c stamp e).content = e.content ∨ (mergeEntry c stamp e).content.merges e.content = true) ∧
      entryMarksOk (mergeEntry c stamp e) := by
  unfold mergeEntry
  split
  · split
    · exact ⟨rfl, rfl, rfl, .inl rfl, he⟩
    · exact ⟨rfl, rfl, rfl, .inl rfl, he⟩
  · rename_i hl
    rw [Bool.not_eq_true] at hl
    split
    · rename_i ho
      refine ⟨rfl, rfl, rfl, .inl rfl, he.1, fun d hd => ?_⟩
      cases hd
      exact ⟨ho, merges_cls hm, hm, hl, (merges_live hm).symm.trans hl⟩
    · rename_i ho
      refine ⟨merges_cls hm, rfl, rfl, .inr hm, he.1, fun d hd => ?_⟩
      exact absurd (he.2 d hd).1 ho

theorem mergeInto_mem {c : Content} {stamp : Nat} {q q' : List Entry} (h : mergeInto c stamp q = some q') :
    ∃ as e bs, q = as ++ e :: bs ∧ q' = as ++ mergeEntry c stamp e :: bs ∧ e.withdrawn = false ∧
      c.merges e.content = true := by
  induction q generalizing q' with
  | nil => cases h
  | cons e q ih =>
    unfold mergeInto at h
    split at h
    · rename_i hm
      cases h
      rw [Bool.and_eq_true, Bool.not_eq_true'] at hm
      exact ⟨[], e, q, rfl, rfl, hm.1, hm.2⟩
    · obtain ⟨t, ht, rfl⟩ := Option.map_eq_some_iff.mp h
      obtain ⟨as, f, bs, rfl, rfl, w, m⟩ := ih ht
      exact ⟨e :: as, f, bs, rfl, rfl, w, m⟩

theorem mergeInto_none {c : Content} {stamp : Nat} {q : List Entry} (h : mergeInto c stamp q = none) :
    ∀ e ∈ q, e.withdrawn = true ∨ c.merges e.content = false := by
  induction q with
  | nil => simp
  | cons e q ih =>
    unfold mergeInto at h
    split at h
    · cases h
    · rename_i hm
      rw [Option.map_eq_none_iff] at h
      refine List.forall_mem_cons.mpr ⟨?_, ih h⟩
      rw [Bool.and_eq_true, Bool.not_eq_true', not_and_or, Bool.not_eq_false, Bool.not_eq_true] at hm
      exact hm

/-- An entry replaced by one of its class, age and kind leaves the queue well kept. -/
theorem QueueKept.replace {as bs : List Entry} {e e' : Entry} {n : Nat} (h : QueueKept (as ++ e :: bs) n)
    (hc : e'.content.cls = e.content.cls) (ha : e'.age = e.age) (hw : e'.withdrawn = e.withdrawn)
    (hm : e'.content = e.content ∨ e'.content.merges e.content = true) (ho : e'.offered = e.offered)
    (hk : entryMarksOk e') : QueueKept (as ++ e' :: bs) n := by
  have left (f : Entry) : standsBefore f e' = standsBefore f e := by simp [standsBefore, hc, ha]
  have right (f : Entry) : standsBefore e' f = standsBefore e f := by simp [standsBefore, hc, ha]
  have m1 (d : Content) : e'.content.merges d = e.content.merges d := by
    rcases hm with hm | hm
    · rw [hm]
    · exact merges_congr hm d
  have m2 (d : Content) : d.merges e'.content = d.merges e.content := by
    rcases hm with hm | hm
    · rw [hm]
    · exact merges_congr_right hm d
  obtain ⟨order, apart, offers, marks⟩ := h
  refine ⟨?_, ?_, ?_, ?_⟩
  · simpa [List.pairwise_append, left, right] using order
  · simpa [List.pairwise_append, apartEntries, hw, m1, m2] using apart
  · simpa [List.countP_append, List.countP_cons, ho] using offers
  · simp only [List.mem_append, List.mem_cons] at marks ⊢
    rintro f (hf | rfl | hf)
    · exact marks f (.inl hf)
    · exact hk
    · exact marks f (.inr (.inr hf))

/-- R24, R25: an arrival keeps the queue. -/
theorem enqueue_keeps {l : Link} (c : Content) (h : queueOk l = true) : queueOk (enqueue l c) = true := by
  rw [queueOk_iff] at *
  unfold enqueue
  split
  · rename_i q hq
    obtain ⟨as, e, bs, hl, rfl, hw, hm⟩ := mergeInto_mem hq
    have he : entryMarksOk e := h.marks e (by rw [hl]; simp)
    obtain ⟨k1, k2, k3, k4, k5⟩ := mergeEntry_kept l.stamp hm he
    exact QueueKept.replace (hl ▸ h) k1 k2 k3 k4 (mergeEntry_offered _ _ _) k5
  · rename_i hq
    refine h.insert rfl ⟨by simp, by simp⟩ fun f hf => ?_
    exact (mergeInto_none hq f hf).elim (fun w => .inr (.inl w)) fun m => .inr (.inr m)

/-! ## Withdrawal, attempts and their end (R16 to R18, R28) -/

/-- R28: a withdrawal keeps the queue. -/
theorem withdrawEntries_keeps {l : Link} (p : Content → Bool) (h : queueOk l = true) :
    queueOk { l with queue := withdrawEntries p l.queue } = true := by
  rw [queueOk_iff] at *
  refine h.filterMap _ (fun e he e' h' => ?_) ?_
  · have hk := h.marks e he
    split at h'
    · split at h'
      · rename_i ho
        cases h'
        exact ⟨rfl, rfl, fun _ => rfl, .inl rfl, fun _ => ho, by simp⟩
      · cases h'
    · cases h'
      exact ⟨rfl, rfl, id, .inl rfl, hk⟩
  · rw [List.countP_filterMap, ← h.offers]
    refine List.countP_congr fun e _ => ?_
    split
    · split <;> simp_all
    · simp

/-- R16: the attempt offers the head. -/
theorem beginAttempt_queue {s : State} (h : queueOk s.link = true) : queueOk (beginAttempt s).link = true := by
  unfold beginAttempt
  split
  · rename_i e q ha hq
    split
    · rw [queueOk_iff] at *
      rw [ha, hq] at h
      have none_offered : ∀ f ∈ e :: q, f.offered = false := by
        simpa [List.countP_eq_zero] using h.offers
      have he : e.offered = false := none_offered e (by simp)
      have marks := h.marks e (by simp)
      refine ⟨?_, ?_, ?_, ?_⟩
      · exact List.pairwise_cons.mpr (List.pairwise_cons.mp h.order)
      · obtain ⟨head, rest⟩ := List.pairwise_cons.mp h.apart
        exact List.pairwise_cons.mpr ⟨head, rest⟩
      · have : q.countP (·.offered) = 0 := List.countP_eq_zero.mpr fun f hf => by simp [none_offered f (by simp [hf])]
        simp [this]
      · refine List.forall_mem_cons.mpr ⟨⟨fun _ => rfl, fun c hc => ?_⟩, fun f hf => h.marks f (by simp [hf])⟩
        exact absurd (marks.2 c hc).1 (by simp [he])
    · exact h
  · exact h

/-- R17, R27: a lost attempt keeps the queue, with no entry offered. -/
theorem lostEntries_kept {q : List Entry} {n : Nat} (h : QueueKept q n) : QueueKept (q.filterMap lostEntry) 0 := by
  refine h.filterMap _ (fun e he e' h' => ?_) ?_
  · have hk := h.marks e he
    unfold lostEntry at h'
    split at h'
    · cases h'
      exact ⟨rfl, rfl, id, .inl rfl, hk⟩
    · split at h'
      · cases h'
      · rename_i hw
        cases h'
        have marked : ∀ c : Content, entryMarksOk { e with offered := false, renewed := false, successor := none, content := c } :=
          fun c => ⟨fun w => absurd w hw, by simp⟩
        cases hs : e.successor with
        | none => exact ⟨rfl, rfl, id, .inl rfl, marked _⟩
        | some c =>
          obtain ⟨-, hc, hm, -⟩ := hk.2 c hs
          exact ⟨hc, rfl, id, .inr hm, marked _⟩
  · rw [List.countP_filterMap, List.countP_eq_zero]
    intro e _
    unfold lostEntry
    split
    · simp_all
    · split <;> simp

/-- What stays of an entry when the attempt is taken. -/
def afterTaken (outboxLeft : Bool) (stamp : Nat) (e : Entry) : Option Entry :=
  if e.offered then remainder e outboxLeft stamp else some e

/-- R27, R33: what remains of the entry that was offered is not withdrawn, is of its kind and holds no marks. -/
theorem remainder_kept {e e' : Entry} {outboxLeft : Bool} {stamp : Nat} (hk : entryMarksOk e)
    (h : remainder e outboxLeft stamp = some e') :
    e.withdrawn = false ∧ (e'.content = e.content ∨ e'.content.merges e.content = true) ∧ e'.offered = false ∧
      entryMarksOk e' := by
  have marked (c : Content) (a : Nat) : entryMarksOk ⟨c, a, false, false, false, none⟩ := ⟨by simp, by simp⟩
  unfold remainder at h
  split at h
  · cases h
  · rename_i hw
    rw [Bool.not_eq_true] at hw
    split at h
    · rename_i hc
      split at h <;> cases h
      exact ⟨hw, .inl hc.symm, rfl, marked _ _⟩
    · split at h <;> cases h
      exact ⟨hw, .inl rfl, rfl, marked _ _⟩
    · cases h
      rename_i hs _
      exact ⟨hw, .inr (hk.2 _ hs).2.2.1, rfl, marked _ _⟩

theorem foldl_insertEntry_perm (xs q : List Entry) : (xs.foldl (fun t e => insertEntry e t) q).Perm (xs ++ q) := by
  induction xs generalizing q with
  | nil => exact .refl _
  | cons x xs ih =>
    exact (ih _).trans (((insertEntry_perm x q).append_left xs).trans List.perm_middle)

theorem foldl_insertEntry_ordered (xs : List Entry) {q : List Entry}
    (h : q.Pairwise fun e f => standsBefore e f = true) :
    (xs.foldl (fun t e => insertEntry e t) q).Pairwise fun e f => standsBefore e f = true := by
  induction xs generalizing q with
  | nil => exact h
  | cons x xs ih => exact ih (insertEntry_ordered x h)

/-- R18: the queue after a taken attempt holds what stays of each entry. -/
theorem queueAfterTaken_perm (q : List Entry) (outboxLeft : Bool) (stamp : Nat) :
    (queueAfterTaken q outboxLeft stamp).Perm (q.filterMap (afterTaken outboxLeft stamp)) := by
  refine (foldl_insertEntry_perm _ _).trans ?_
  have split := (List.filter_append_perm (·.offered) q).filterMap (afterTaken outboxLeft stamp)
  rw [List.filterMap_append] at split
  refine .trans (.of_eq ?_) split
  congr 1
  · refine List.filterMap_congr fun e he => ?_
    rw [afterTaken, if_pos (by simpa using (List.mem_filter.mp he).2)]
  · have keep : ∀ e ∈ q.filter (!·.offered), afterTaken outboxLeft stamp e = some e := fun e he => by
      rw [afterTaken, if_neg (by simpa using (List.mem_filter.mp he).2)]
    rw [List.filterMap_congr keep, List.filterMap_some]

/-- R18: a taken attempt keeps the queue, with no entry offered. -/
theorem queueAfterTaken_kept {q : List Entry} {n : Nat} (h : QueueKept q n) (outboxLeft : Bool) (stamp : Nat) :
    QueueKept (queueAfterTaken q outboxLeft stamp) 0 := by
  have perm := queueAfterTaken_perm q outboxLeft stamp
  have left : ∀ e ∈ q, ∀ e', afterTaken outboxLeft stamp e = some e' →
      (e.withdrawn = true → e'.withdrawn = true) ∧ (e'.content = e.content ∨ e'.content.merges e.content = true) ∧
      e'.offered = false ∧ entryMarksOk e' := by
    intro e he e' h'
    have hk := h.marks e he
    unfold afterTaken at h'
    split at h'
    · obtain ⟨w, m, o, k⟩ := remainder_kept hk h'
      exact ⟨by simp [w], m, o, k⟩
    · rename_i ho
      cases h'
      exact ⟨id, .inl rfl, by simpa using ho, hk⟩
  refine ⟨foldl_insertEntry_ordered _ (h.order.filter _), ?_, ?_, ?_⟩
  · refine (perm.pairwise_iff apartEntries_symm).mpr ?_
    refine List.pairwise_filterMap.mpr (h.apart.imp_of_mem fun {e f} he hf hef e' he' f' hf' => ?_)
    obtain ⟨w1, m1, -⟩ := left e he e' he'
    obtain ⟨w2, m2, -⟩ := left f hf f' hf'
    refine hef.imp w1 (Or.imp w2 fun hm => ?_)
    have : e'.content.merges f'.content = e.content.merges f'.content := by
      rcases m1 with m1 | m1
      · rw [m1]
      · exact merges_congr m1 _
    rw [this, ← hm]
    rcases m2 with m2 | m2
    · rw [m2]
    · exact merges_congr_right m2 _
  · rw [perm.countP_eq, List.countP_eq_zero]
    intro e' he'
    obtain ⟨e, he, h'⟩ := List.mem_filterMap.mp he'
    simp [(left e he e' h').2.2.1]
  · intro e' he'
    obtain ⟨e, he, h'⟩ := List.mem_filterMap.mp (perm.mem_iff.mp he')
    exact (left e he e' h').2.2.2

end Sys2Proof.Machine

/-! SUPPORT. What every part of a handling keeps: the relation `Kept` between a state and the one that some of a command's
work leaves of it, and the rules for an update of one block. -/

namespace Sys2Proof.Machine

/-! ## Events (R193, R194) -/

theorem eventsOk_iff (p : Port) : eventsOk p = true ↔
    tableWf .reset p.events = true ∧ (∀ e ∈ p.events, eventOk e = true) ∧ p.attention = attentionDue p.events p.mask := by
  simp [eventsOk, and_assoc]

/-- A write keeps what holds of every entry of a table and of the entry written. -/
theorem tablePut_all {α : Type} [DecidableEq α] {d : α} {t : Table α} {n : Nat} {v : α} {P : Nat × α → Prop}
    (h : ∀ e ∈ t, P e) (hv : P (n, v)) : ∀ e ∈ tablePut d t n v, P e := by
  induction t with
  | nil =>
    simp only [tablePut]
    split
    · simp
    · simpa using hv
  | cons e t ih =>
    obtain ⟨k, w⟩ := e
    obtain ⟨he, ht⟩ := List.forall_mem_cons.mp h
    simp only [tablePut]
    split
    · split
      · exact h
      · exact List.forall_mem_cons.mpr ⟨hv, h⟩
    · split
      · split
        · exact ht
        · exact List.forall_mem_cons.mpr ⟨hv, ht⟩
      · exact List.forall_mem_cons.mpr ⟨he, ih ht⟩

/-- What a table lists at a key, if it does not read as the default. -/
theorem tableGet_mem {α : Type} (d : α) (t : Table α) (n : Nat) : tableGet d t n = d ∨ (n, tableGet d t n) ∈ t := by
  induction t with
  | nil => exact .inl rfl
  | cons e t ih =>
    obtain ⟨k, w⟩ := e
    rw [tableGet]
    split
    · subst k; exact .inr (by simp)
    · exact ih.imp_right fun h => by simp [h]

/-- R193: a further occurrence is well kept. -/
theorem eventOk_next {p : Port} (h : ∀ e ∈ p.events, eventOk e = true) (d : Detail) :
    eventOk (d.number, (eventAt p d.number).next d) = true := by
  have count : 1 ≤ ((eventAt p d.number).next d).count ∧ ((eventAt p d.number).next d).count ≤ Config.repeatTop := by
    rcases tableGet_mem .reset p.events d.number with e | e
    · rw [eventAt, e]
      simp [EventRecord.next, EventRecord.reset, Config.repeatTop]
    · have := h _ e
      simp only [eventOk, Bool.and_eq_true, decide_eq_true_eq] at this
      obtain ⟨⟨⟨hp, -⟩, h1⟩, h2⟩ := this
      have hp' : (eventAt p d.number).pending = true := hp
      have h1' : 1 ≤ (eventAt p d.number).count := h1
      have h2' : (eventAt p d.number).count ≤ Config.repeatTop := h2
      simp only [EventRecord.next, hp', if_true]
      split <;> constructor <;> omega
  simp only [eventOk, Bool.and_eq_true, decide_eq_true_eq]
  exact ⟨⟨⟨rfl, by simp [EventRecord.next]⟩, count.1⟩, count.2⟩

/-- R193, R194: raising an event keeps the events. -/
theorem raiseEvent_eventsOk {s : State} (d : Detail) (h : eventsOk s.port = true) :
    eventsOk (raiseEvent s d).port = true := by
  rw [eventsOk_iff] at *
  exact ⟨raiseEvent_wf s d h.1, tablePut_all h.2.1 (eventOk_next h.2.1 d), rfl⟩

/-! ## Axes and speeds -/

/-- R80: an axis is as its state says. -/
def axisGood (s : State) (a : Axis) : Prop := axisOk (s.axis a) = true ∧ (a = .trolley → (s.axis a).state ≠ .waiting)

theorem axesOk_iff (s : State) : axesOk s = true ↔ ∀ a, axisGood s a := by
  simp only [axesOk, Bool.and_eq_true, bne_iff_ne, axisGood]
  constructor
  · rintro ⟨⟨hb, ht⟩, hw⟩ (_ | _)
    · exact ⟨hb, by simp⟩
    · exact ⟨ht, fun _ => hw⟩
  · intro h
    exact ⟨⟨(h .bridge).1, (h .trolley).1⟩, (h .trolley).2 rfl⟩

/-- R8: a start record in force has passed its check. -/
def recordChecked (s : State) : Prop := ∀ c, s.record = some c → startRecordFailure c = none

/-- The bounds of a speed setpoint (`speedOk`) for an axis record in place of that of the axis. -/
def speedFits (s : State) (a : Axis) (r : AxisRecord) : Bool :=
  let p := axisParams s.conf a
  let v := magnitude r.setpoint
  v == 0 && r.move.isNone || s.record.isSome && v ≤ p.maxSpeed
    && (v ≤ p.creepSpeed || !slowActive s a (if 0 < r.setpoint then .high else .low))
    && r.move.all fun m => p.creepSpeed ≤ m.requested && m.requested ≤ p.maxSpeed && p.creepSpeed ≤ m.speed && v ≤ m.speed

theorem speedOk_eq (s : State) (a : Axis) : speedOk s a = speedFits s a (s.axis a) := rfl

/-- The bounds that `boundsOk` tests, by name. -/
structure InBounds (s : State) : Prop where
  checkErrors : s.link.counters.checkErrors ≤ Config.counterTop
  framesTaken : s.link.counters.framesTaken ≤ Config.counterTop
  framesReceived : s.link.counters.framesReceived ≤ Config.counterTop
  contentionLosses : s.link.counters.contentionLosses ≤ Config.counterTop
  seq : s.link.seq < Config.sequenceModulus
  framing : s.port.framing ≤ Config.counterTop
  overrun : s.port.overrun ≤ Config.counterTop
  lost : s.weigher.lost ≤ Config.counterTop
  window : s.weigher.window.length ≤ Config.windowCapacity
  nest : s.tasks.nest.length ≤ Config.nestCapacity
  outcomes : s.tasks.outcomes.length ≤ Config.outcomeCapacity
  counter : s.store.counter < 256

theorem boundsOk_iff (s : State) : boundsOk s = true ↔ InBounds s := by
  simp only [boundsOk, Bool.and_eq_true, decide_eq_true_eq]
  exact ⟨fun ⟨⟨⟨⟨⟨⟨⟨⟨⟨⟨⟨h1, h2⟩, h3⟩, h4⟩, h5⟩, h6⟩, h7⟩, h8⟩, h9⟩, h10⟩, h11⟩, h12⟩ =>
    ⟨h1, h2, h3, h4, h5, h6, h7, h8, h9, h10, h11, h12⟩,
    fun ⟨h1, h2, h3, h4, h5, h6, h7, h8, h9, h10, h11, h12⟩ =>
    ⟨⟨⟨⟨⟨⟨⟨⟨⟨⟨⟨h1, h2⟩, h3⟩, h4⟩, h5⟩, h6⟩, h7⟩, h8⟩, h9⟩, h10⟩, h11⟩, h12⟩⟩

theorem peersOk_iff (s : State) : peersOk s = true ↔ ∀ r, peerOk (s.peer r) = true := by
  simp only [peersOk, List.all_cons, List.all_nil, Bool.and_true, Bool.and_eq_true]
  constructor
  · rintro ⟨h1, h2, h3, h4, h5, h6, h7, h8⟩ r
    match r with
    | 0 => rfl
    | 1 => exact h1
    | 2 => exact h2
    | 3 => exact h3
    | 4 => exact h4
    | 5 => exact h5
    | 6 => exact h6
    | 7 => exact h7
    | 8 => exact h8
    | _ + 9 => rfl
  · exact fun h => ⟨h 1, h 2, h 3, h 4, h 5, h 6, h 7, h 8⟩

/-! ## The relation -/

/-- What some work of a command does not do: enter a node state from UNCONFIGURED, take up a move, use the port's
transmitter; and the axes and ranks whose records it leaves as their states and presences say. Each is asked for where it is
true. -/
structure Scope where
  configured : Prop
  moveless : Prop
  portless : Prop
  tracked : Axis → Prop
  ranks : Nat → Prop

/-- What the work of a command that leads from s to t keeps. -/
structure Kept (k : Scope) (s t : State) : Prop where
  pending : t.pending = s.pending
  now : s.now ≤ t.now
  record : t.record = s.record
  node : s.node ≠ .unconfigured → t.node ≠ .unconfigured
  stays : k.configured → s.node = .unconfigured → t.node = .unconfigured
  listen : (s.listen = none ∨ s.node = .listening) → (t.listen = none ∨ t.node = .listening)
  attempt : (s.node ≠ .unconfigured ∨ s.link.attempt = none) → (t.node ≠ .unconfigured ∨ t.link.attempt = none)
  transmitter : k.portless →
    t.port.inHand = s.port.inHand ∧ t.port.transmit = s.port.transmit
  events : eventsOk s.port = true → eventsOk t.port = true
  queue : queueOk s.link = true → queueOk t.link = true
  line : lineOk s = true → lineOk t = true
  axis : ∀ a, k.tracked a → axisGood s a → axisGood t a
  rest : k.moveless → ∀ a, k.tracked a → axisGood s a → (s.axis a).move = none → (t.axis a).move = none
  slow : k.moveless → recordChecked s → ∀ a, k.tracked a → axisGood s a → (s.axis a).move = none →
    magnitude (t.axis a).setpoint ≤ magnitude (s.axis a).setpoint
  edge : k.moveless → ∀ a, k.tracked a → axisGood s a → s.halt.asserted = false → t.halt.asserted = true →
    (t.axis a).move = none
  speed : recordChecked s → ∀ a, k.tracked a → axisGood s a → speedOk s a = true → speedOk t a = true
  claim : claimOk s = true → claimOk t = true
  bounds : boundsOk s = true → boundsOk t = true
  tables : tablesOk s = true → tablesOk t = true
  bays : baysOk s = true → baysOk t = true
  peers : ∀ r, k.ranks r → peerOk (s.peer r) = true → peerOk (t.peer r) = true

/-- What a record put in place of that of an axis keeps. -/
structure AxisKept (k : Scope) (s : State) (a : Axis) (r : AxisRecord) : Prop where
  ok : axisGood s a → axisOk r = true ∧ (a = .trolley → r.state ≠ .waiting)
  rest : k.moveless → axisGood s a → (s.axis a).move = none → r.move = none
  slow : k.moveless → recordChecked s → axisGood s a → (s.axis a).move = none →
    magnitude r.setpoint ≤ magnitude (s.axis a).setpoint
  speed : recordChecked s → axisGood s a → speedOk s a = true → speedFits s a r = true

namespace Kept

variable {k : Scope} {s t u : State}

theorem refl (s : State) : Kept k s s where
  pending := rfl
  now := le_rfl
  record := rfl
  node := id
  stays _ := id
  listen := id
  attempt := id
  transmitter _ := ⟨rfl, rfl⟩
  events := id
  queue := id
  line := id
  axis _ _ := id
  rest _ _ _ _ := id
  slow _ _ _ _ _ _ := le_rfl
  edge _ _ _ _ h h' := absurd h (by simp [h'])
  speed _ _ _ _ := id
  claim := id
  bounds := id
  tables := id
  bays := id
  peers _ _ := id

theorem checked (h : Kept k s t) (hc : recordChecked s) : recordChecked t := fun c e => hc c (h.record ▸ e)

theorem conf (h : Kept k s t) : t.conf = s.conf := conf_of_record h.record

theorem trans (h : Kept k s t) (g : Kept k t u) : Kept k s u where
  pending := g.pending.trans h.pending
  now := h.now.trans g.now
  record := g.record.trans h.record
  node hn := g.node (h.node hn)
  stays hc hn := g.stays hc (h.stays hc hn)
  listen hl := g.listen (h.listen hl)
  attempt ha := g.attempt (h.attempt ha)
  transmitter hp := by
    obtain ⟨h1, h2⟩ := h.transmitter hp
    obtain ⟨g1, g2⟩ := g.transmitter hp
    exact ⟨g1.trans h1, g2.trans h2⟩
  events he := g.events (h.events he)
  queue hq := g.queue (h.queue hq)
  line hl := g.line (h.line hl)
  axis a hk ha := g.axis a hk (h.axis a hk ha)
  rest hm a hk ha hr := g.rest hm a hk (h.axis a hk ha) (h.rest hm a hk ha hr)
  slow hm hc a hk ha hr :=
    (g.slow hm (h.checked hc) a hk (h.axis a hk ha) (h.rest hm a hk ha hr)).trans (h.slow hm hc a hk ha hr)
  edge hm a hk ha hs hu := by
    by_cases ht : t.halt.asserted = true
    · exact g.rest hm a hk (h.axis a hk ha) (h.edge hm a hk ha hs ht)
    · exact g.edge hm a hk (h.axis a hk ha) (by simpa using ht) hu
  speed hc a hk ha hs := g.speed (h.checked hc) a hk (h.axis a hk ha) (h.speed hc a hk ha hs)
  claim hc := g.claim (h.claim hc)
  bounds hb := g.bounds (h.bounds hb)
  tables ht := g.tables (h.tables ht)
  bays hb := g.bays (h.bays hb)
  peers r hr hp := g.peers r hr (h.peers r hr hp)

/-- The same, the later work first. -/
theorem after (g : Kept k t u) (h : Kept k s t) : Kept k s u := h.trans g

/-- A fold of steps, each of which keeps what the relation says. -/
theorem foldl {α : Type} {f : State → α → State} (l : List α) (hf : ∀ t, ∀ a ∈ l, Kept k t (f t a)) (s : State) :
    Kept k s (l.foldl f s) := by
  induction l generalizing s with
  | nil => exact refl s
  | cons a l ih => exact (hf s a (by simp)).trans (ih (fun t b hb => hf t b (by simp [hb])) _)

/-- Work on a condition. -/
theorem ite {c : Prop} [Decidable c] (ht : c → Kept k s t) (hu : ¬ c → Kept k s u) : Kept k s (if c then t else u) := by
  split
  · exact ht ‹_›
  · exact hu ‹_›

/-! ## An update of one block -/

theorem of_now {n : Nat} (h : s.now ≤ n) : Kept k s { s with now := n } := { refl s with now := h }

theorem elapse (d : Nat) : Kept k s (elapse s d) := of_now (Nat.le_max_left _ _)

theorem of_scanDue (b : Bool) : Kept k s { s with scanDue := b } := { refl s with }

theorem of_listen {l : Option Nat} (h : l = none ∨ s.node = .listening) : Kept k s { s with listen := l } :=
  { refl s with listen := fun _ => h }

theorem of_link {l : Link} (hq : queueOk s.link = true → queueOk l = true)
    (ha : l.attempt = s.link.attempt ∨ s.node ≠ .unconfigured ∨ l.attempt = none)
    (hs : s.link.seq < Config.sequenceModulus → l.seq < Config.sequenceModulus)
    (hc : s.link.counters.checkErrors ≤ Config.counterTop → s.link.counters.framesTaken ≤ Config.counterTop →
      s.link.counters.framesReceived ≤ Config.counterTop → s.link.counters.contentionLosses ≤ Config.counterTop →
      l.counters.checkErrors ≤ Config.counterTop ∧ l.counters.framesTaken ≤ Config.counterTop ∧
        l.counters.framesReceived ≤ Config.counterTop ∧ l.counters.contentionLosses ≤ Config.counterTop) :
    Kept k s { s with link := l } where
  __ := refl s
  queue := hq
  attempt h := by
    rcases ha with ha | ha | ha
    · rw [← ha] at h; exact h
    · exact .inl ha
    · exact .inr ha
  bounds h := by
    have b := (boundsOk_iff s).mp h
    obtain ⟨c1, c2, c3, c4⟩ := hc b.checkErrors b.framesTaken b.framesReceived b.contentionLosses
    exact (boundsOk_iff _).mpr
      { b with checkErrors := c1, framesTaken := c2, framesReceived := c3, contentionLosses := c4, seq := hs b.seq }

/-- An update of the link's queue, report timer or stamp. -/
theorem of_queue {l : Link} (hq : queueOk s.link = true → queueOk l = true) (ha : l.attempt = s.link.attempt)
    (hs : l.seq = s.link.seq) (hc : l.counters = s.link.counters) : Kept k s { s with link := l } :=
  of_link hq (.inl ha) (by rw [hs]; exact id) (by rw [hc]; exact fun a b c d => ⟨a, b, c, d⟩)

theorem of_port {p : Port} (he : eventsOk s.port = true → eventsOk p = true)
    (ht : k.portless → p.inHand = s.port.inHand ∧ p.transmit = s.port.transmit)
    (hf : s.port.framing ≤ Config.counterTop → p.framing ≤ Config.counterTop)
    (ho : s.port.overrun ≤ Config.counterTop → p.overrun ≤ Config.counterTop) : Kept k s { s with port := p } where
  __ := refl s
  events := he
  transmitter := ht
  bounds h := by
    have b := (boundsOk_iff s).mp h
    exact (boundsOk_iff _).mpr { b with framing := hf b.framing, overrun := ho b.overrun }

theorem of_weigher {w : Weigher} (hl : s.weigher.lost ≤ Config.counterTop → w.lost ≤ Config.counterTop)
    (hw : s.weigher.window.length ≤ Config.windowCapacity → w.window.length ≤ Config.windowCapacity) :
    Kept k s (withWeigher s w) where
  __ := refl s
  bounds h := by
    have b := (boundsOk_iff s).mp h
    exact (boundsOk_iff _).mpr { b with lost := hl b.lost, window := hw b.window }

theorem of_tasks {t : Tasks} (hn : s.tasks.nest.length ≤ Config.nestCapacity → t.nest.length ≤ Config.nestCapacity)
    (ho : s.tasks.outcomes.length ≤ Config.outcomeCapacity → t.outcomes.length ≤ Config.outcomeCapacity) :
    Kept k s { s with tasks := t } where
  __ := refl s
  bounds h := by
    have b := (boundsOk_iff s).mp h
    exact (boundsOk_iff _).mpr { b with nest := hn b.nest, outcomes := ho b.outcomes }

theorem of_store {st : Store} (ht : tablesOk s = true → tablesOk { s with store := st } = true)
    (hc : s.store.counter < 256 → st.counter < 256) : Kept k s { s with store := st } where
  __ := refl s
  tables := ht
  bounds h := by
    have b := (boundsOk_iff s).mp h
    exact (boundsOk_iff _).mpr { b with counter := hc b.counter }

theorem of_bays {b : Bays} (h : baysOk s = true → baysOk { s with bays := b } = true) : Kept k s { s with bays := b } :=
  { refl s with bays := h }

theorem of_peers {p : Peers}
    (h : ∀ r, k.ranks r → peerOk (s.peer r) = true → peerOk (peerAt p.table r) = true) : Kept k s { s with peers := p } :=
  { refl s with peers := h }

/-- The work that follows a change of the Halt Line Unit. -/
theorem of_halt {h : HaltUnit} (K : Kept k { s with halt := h } t) (hl : lineOk t = true)
    (he : s.halt.asserted = false → h.asserted = true →
      k.moveless → ∀ a, k.tracked a → axisGood s a → (t.axis a).move = none) :
    Kept k s t where
  pending := K.pending
  now := K.now
  record := K.record
  node := K.node
  stays := K.stays
  listen := K.listen
  attempt := K.attempt
  transmitter := K.transmitter
  events := K.events
  queue := K.queue
  line _ := hl
  axis := K.axis
  rest := K.rest
  slow := K.slow
  edge hm a hk ha hs ht := by
    by_cases e : h.asserted = true
    · exact he hs e hm a hk ha
    · exact K.edge hm a hk ha (by simpa using e) ht
  speed := K.speed
  claim := K.claim
  bounds := K.bounds
  tables := K.tables
  bays := K.bays
  peers := K.peers

/-- The work that follows a change of node state, with the own claim record as it stands then. -/
theorem of_node {n : NodeState} {l : Option Nat} {p : Peers} {timer : Option Nat} {c : ClaimRecord} {b : Bool}
    (K : Kept k { s with node := n, listen := l, peers := p, link := { s.link with reportTimer := timer }, claim := c
                         scanDue := b } t)
    (hl : lineOk t = true) (hn : n ≠ .unconfigured) (hk : k.configured → s.node ≠ .unconfigured)
    (hlis : l = none ∨ n = .listening)
    (hp : ∀ r, k.ranks r → peerOk (s.peer r) = true → peerOk (peerAt p.table r) = true)
    (hc : claimless n = true → claimOk s = true → c = .reset) : Kept k s t where
  pending := K.pending
  now := K.now
  record := K.record
  node _ := K.node hn
  stays h h' := absurd h' (hk h)
  listen _ := K.listen hlis
  attempt _ := K.attempt (.inl hn)
  transmitter := K.transmitter
  events := K.events
  queue := K.queue
  line _ := hl
  axis := K.axis
  rest := K.rest
  slow := K.slow
  edge := K.edge
  speed := K.speed
  claim h := K.claim (by
    by_cases hn : claimless n = true
    · simp [claimOk, hc hn h]
    · simp [claimOk, hn])
  bounds := K.bounds
  tables := K.tables
  bays := K.bays
  peers r hr h := K.peers r hr (hp r hr h)

/-- One axis more is looked at. -/
theorem axis_too {a : Axis} (K : Kept { k with tracked := fun b => k.tracked b ∧ b ≠ a } s t)
    (good : axisGood s a → axisGood t a)
    (rest : k.moveless → axisGood s a → (s.axis a).move = none → (t.axis a).move = none)
    (slow : k.moveless → recordChecked s → axisGood s a → (s.axis a).move = none →
      magnitude (t.axis a).setpoint ≤ magnitude (s.axis a).setpoint)
    (edge : k.moveless → axisGood s a → s.halt.asserted = false → t.halt.asserted = true → (t.axis a).move = none)
    (speed : recordChecked s → axisGood s a → speedOk s a = true → speedOk t a = true) : Kept k s t where
  __ := K
  axis b hb := by
    by_cases e : b = a
    · subst e; exact good
    · exact K.axis b ⟨hb, e⟩
  rest h b hb := by
    by_cases e : b = a
    · subst e; exact rest h
    · exact K.rest h b ⟨hb, e⟩
  slow h hc b hb := by
    by_cases e : b = a
    · subst e; exact slow h hc
    · exact K.slow h hc b ⟨hb, e⟩
  edge h b hb := by
    by_cases e : b = a
    · subst e; exact edge h
    · exact K.edge h b ⟨hb, e⟩
  speed hc b hb := by
    by_cases e : b = a
    · subst e; exact speed hc
    · exact K.speed hc b ⟨hb, e⟩

/-- One axis more is left as its state says: it stands. -/
theorem track {a : Axis} (K : Kept { k with tracked := fun b => k.tracked b ∧ b ≠ a } s t)
    (h0 : (t.axis a).setpoint = 0) (hm : (t.axis a).move = none) (ha : axisGood s a → axisGood t a) : Kept k s t := by
  refine K.axis_too ha (fun _ _ _ => hm) (fun _ _ _ _ => ?_) (fun _ _ _ _ => hm) fun _ _ _ => ?_
  · rw [h0]
    unfold magnitude
    split <;> split <;> omega
  · simp [speedOk_eq, speedFits, h0, hm, magnitude]

/-- Other input pins, with the levels of the Halt Line and of the slowdown inputs as they were. -/
theorem of_inputs {i : Inputs} (hl : i.haltLine = s.inputs.haltLine)
    (hs : ∀ a, k.tracked a → ∀ d, slowLevel i a d = slowLevel s.inputs a d) : Kept k s { s with inputs := i } where
  __ := refl s
  line h := by simpa [lineOk, lineDue, driveDue, hl] using h
  speed _ a ha _ h := by
    have slow (d : Side) : slowActive { s with inputs := i } a d = slowActive s a d := by
      show activeLevel _ _ (slowLevel i a d) = _
      rw [hs a ha d]
      rfl
    rw [speedOk_eq] at *
    simp only [speedFits, slow] at *
    exact h

/-- The work that follows a change of the Halt Line's level. -/
theorem of_line_level {i : Inputs} (hs : ∀ a d, slowLevel i a d = slowLevel s.inputs a d)
    (K : Kept k { s with inputs := i } t) (hl : lineOk t = true) : Kept k s t where
  pending := K.pending
  now := K.now
  record := K.record
  node := K.node
  stays := K.stays
  listen := K.listen
  attempt := K.attempt
  transmitter := K.transmitter
  events := K.events
  queue := K.queue
  line _ := hl
  axis := K.axis
  rest := K.rest
  slow := K.slow
  edge := K.edge
  speed hc a ha hg h := by
    refine K.speed hc a ha hg ?_
    have slow (d : Side) : slowActive { s with inputs := i } a d = slowActive s a d := by
      show activeLevel _ _ (slowLevel i a d) = _
      rw [hs a d]
      rfl
    rw [speedOk_eq] at *
    simp only [speedFits, slow] at *
    exact h
  claim := K.claim
  bounds := K.bounds
  tables := K.tables
  bays := K.bays
  peers := K.peers

/-- One rank more is left as its presence says. -/
theorem rank {n : Nat} (K : Kept { k with ranks := fun r => k.ranks r ∧ r ≠ n } s t)
    (h : peerOk (s.peer n) = true → peerOk (t.peer n) = true) : Kept k s t where
  __ := K
  peers r hr := by
    by_cases e : r = n
    · subst e; exact h
    · exact K.peers r ⟨hr, e⟩

theorem of_claim {c : ClaimRecord} (h : claimless s.node = true → s.claim = .reset → c = .reset) :
    Kept k s (withClaim s c) where
  __ := refl s
  claim := by
    simp only [claimOk, Bool.or_eq_true, Bool.not_eq_true', beq_iff_eq, withClaim_node, withClaim_claim]
    intro hc
    by_cases hn : claimless s.node = true
    · exact .inr (h hn (hc.resolve_left (by simp [hn])))
    · exact .inl (by simpa using hn)

theorem of_hoist (h : Hoist) : Kept k s { s with travel := { s.travel with hoist := h } } where
  __ := refl s
  axis a := by cases a <;> exact fun _ => id
  rest _ a := by cases a <;> exact fun _ _ => id
  slow _ _ a := by cases a <;> exact fun _ _ _ => le_rfl
  edge _ a := by cases a <;> exact fun _ _ h h' => absurd (show s.halt.asserted = true from h') (by simp [h])
  speed _ a := by cases a <;> exact fun _ _ => id

/-! ## An axis record -/

/-- An axis record put in place of another. -/
theorem of_axis {a : Axis} {r : AxisRecord} (h : k.tracked a → AxisKept k s a r) : Kept k s (s.withAxis a r) := by
  have good (b : Axis) : axisGood (s.withAxis a r) b ↔
      if b = a then axisOk r = true ∧ (a = .trolley → r.state ≠ .waiting) else axisGood s b := by
    unfold axisGood
    split
    · subst b; rw [withAxis_axis]
    · rw [withAxis_other s ‹_›]
  have fits (b : Axis) (x : AxisRecord) : speedFits (s.withAxis a r) b x = speedFits s b x := by cases a <;> rfl
  constructor
  case axis =>
    intro b hk hb
    rw [good]
    split
    · subst b; exact (h hk).ok hb
    · exact hb
  case rest =>
    intro hm b hk hb hr
    by_cases e : b = a
    · subst b; rw [withAxis_axis]; exact (h hk).rest hm hb hr
    · rw [withAxis_other s e]; exact hr
  case slow =>
    intro hm hc b hk hb hr
    by_cases e : b = a
    · subst b; rw [withAxis_axis]; exact (h hk).slow hm hc hb hr
    · rw [withAxis_other s e]
  case speed =>
    intro hc b hk hb hs
    rw [speedOk_eq, fits]
    by_cases e : b = a
    · subst b; rw [withAxis_axis]; exact (h hk).speed hc hb hs
    · rw [withAxis_other s e]; exact hs
  case edge =>
    intro _ b _ _ hs ht
    rw [withAxis_halt, hs] at ht
    cases ht
  case listen => rw [withAxis_listen, withAxis_node]; exact id
  case attempt => rw [withAxis_link, withAxis_node]; exact id
  case now => rw [withAxis_now]
  all_goals cases a <;> first | rfl | exact id | exact fun _ => id | exact fun _ _ => id | exact fun _ => ⟨rfl, rfl⟩

end Kept

namespace AxisKept

variable {k : Scope} {s : State} {a : Axis} {r : AxisRecord}

/-- A record at rest without a move. -/
theorem standing (h0 : r.setpoint = 0) (hm : axisGood s a → r.move = none)
    (hok : axisGood s a → axisOk r = true ∧ (a = .trolley → r.state ≠ .waiting)) : AxisKept k s a r where
  ok := hok
  rest _ ha _ := hm ha
  slow _ _ _ _ := by
    rw [h0]
    unfold magnitude
    split <;> split <;> omega
  speed _ ha _ := by simp [speedFits, h0, hm ha, magnitude]

/-- A record of a move in hand, where the axis has one too. -/
theorem moving (hm : (s.axis a).move ≠ none) (hok : axisGood s a → axisOk r = true ∧ (a = .trolley → r.state ≠ .waiting))
    (hs : recordChecked s → axisGood s a → speedOk s a = true → speedFits s a r = true) : AxisKept k s a r where
  ok := hok
  rest _ _ h := absurd h hm
  slow _ _ _ h := absurd h hm
  speed := hs

/-- A record with the setpoint and the move of that of the axis. -/
theorem same (h0 : r.setpoint = (s.axis a).setpoint) (hm : r.move = (s.axis a).move)
    (hok : axisGood s a → axisOk r = true ∧ (a = .trolley → r.state ≠ .waiting)) : AxisKept k s a r where
  ok := hok
  rest _ _ h := hm.trans h
  slow _ _ _ _ := by rw [h0]
  speed _ _ h := by
    rw [speedOk_eq] at h
    simpa only [speedFits, h0, hm] using h

end AxisKept
end Sys2Proof.Machine

/-! SUPPORT. What the link, the Store Map, the Bay Table and the Task Engine do keeps what `Kept` says. -/

namespace Sys2Proof.Machine

variable {k : Scope} {s : State}

/-! ## The port and the link -/

theorem raiseEvent_kept (d : Detail) : Kept k s (raiseEvent s d) :=
  Kept.of_port (raiseEvent_eventsOk d) (fun _ => ⟨rfl, rfl⟩) id id

theorem enqueue_fields (l : Link) (c : Content) :
    (enqueue l c).attempt = l.attempt ∧ (enqueue l c).seq = l.seq ∧ (enqueue l c).counters = l.counters := by
  unfold enqueue
  split <;> exact ⟨rfl, rfl, rfl⟩

theorem offer_kept (c : Content) : Kept k s (offer s c) := by
  obtain ⟨ha, hs, hc⟩ := enqueue_fields s.link c
  exact Kept.ite (fun _ => Kept.of_queue (enqueue_keeps c) ha hs hc) fun _ => .refl s

theorem withdraw_kept (p : Content → Bool) : Kept k s (withdraw s p) :=
  Kept.of_queue (withdrawEntries_keeps p) rfl rfl rfl

theorem withdrawClaimFrame_kept : Kept k s (withdrawClaimFrame s) := withdraw_kept _

/-! ## The Store Map -/

theorem tablesOk_iff (s : State) :
    tablesOk s = true ↔ tableWf .unknown s.store.slots = true ∧ tableWf .reset s.store.rows = true := by
  simp [tablesOk]

theorem putSlot_kept (n : Nat) (r : SlotRecord) : Kept k s (putSlot s n r) :=
  Kept.of_store (fun h => by rw [tablesOk_iff] at *; exact ⟨tablePut_wf _ _ h.1, h.2⟩) id

theorem putRow_kept (n : Nat) (r : RowRecord) : Kept k s (putRow s n r) :=
  Kept.of_store (fun h => by rw [tablesOk_iff] at *; exact ⟨h.1, tablePut_wf _ _ h.2⟩) id

theorem scanLater_kept : Kept k s (scanLater s) := .of_scanDue true

/-- An update of the store beside its tables and its query counter. -/
theorem Kept.of_lists {st : Store} (h1 : st.slots = s.store.slots) (h2 : st.rows = s.store.rows)
    (h3 : st.counter = s.store.counter) : Kept k s { s with store := st } :=
  .of_store (fun h => by rw [tablesOk_iff] at *; rw [h1, h2]; exact h) (by rw [h3]; exact id)

theorem settleRow_kept (row : Nat) : Kept k s (settleRow s row) := by
  refine Kept.ite (fun _ => ?_) fun _ => .refl s
  refine (putRow_kept row ⟨true, false⟩).trans (Kept.ite (fun _ => ?_) fun _ => .refl _)
  exact .after scanLater_kept (.of_lists rfl rfl rfl)

theorem changeSlot_kept (n : Nat) (r : SlotRecord) : Kept k s (changeSlot s n r) :=
  (putSlot_kept n r).trans (settleRow_kept _)

/-- R131: marking slots keeps the slot table in canonical form. -/
theorem markSlots_wf (p : Nat → Bool) (l : List Nat) {t : Table SlotRecord} (h : tableWf .unknown t = true) :
    tableWf .unknown (l.foldl (fun t n => if p n then t else tablePut SlotRecord.unknown t n .unknown) t) = true := by
  induction l generalizing t with
  | nil => exact h
  | cons n l ih =>
    refine ih (t := if p n then t else _) ?_
    split
    · exact h
    · exact tablePut_wf _ _ h

theorem markRow_kept (row : Nat) : Kept k s (markRow s row) := by
  refine (putRow_kept row .reset).trans (.after scanLater_kept (Kept.of_store (fun h => ?_) id))
  rw [tablesOk_iff] at *
  exact ⟨markSlots_wf (heldSlot s) _ h.1, h.2⟩

theorem suspect_kept (c : SuspectCause) (row : Option Nat) (n : Nat) (rank : Option Nat) :
    Kept k s (suspect s c row n rank) := raiseEvent_kept _

theorem markSuspect_kept (row : Nat) (c : SuspectCause) (rank : Option Nat) : Kept k s (markSuspect s row c rank) :=
  (markRow_kept row).trans (suspect_kept _ _ _ _)

theorem markRegion_kept (i : Interval) (rank : Nat) : Kept k s (markRegion s i rank) :=
  (Kept.foldl _ (fun _ r _ => markRow_kept r) s).trans (suspect_kept _ _ _ _)

theorem joinOutbox_kept (e : OutboxEntry) : Kept k s (joinOutbox s e) :=
  .after (Kept.ite (fun _ => .refl _) fun _ => offer_kept _) (.of_lists rfl rfl rfl)

theorem settleSource_kept (n : Nat) : Kept k s (settleSource s n) := (changeSlot_kept _ _).trans (joinOutbox_kept _)

theorem settleDestination_kept (n coil cls : Nat) (w : Int) : Kept k s (settleDestination s n coil cls w) :=
  (changeSlot_kept _ _).trans (joinOutbox_kept _)

theorem clearSpent_kept : Kept k s (clearSpent s) :=
  Kept.foldl _ (fun _ _ _ => Kept.ite (fun _ => putRow_kept _ _) fun _ => .refl _) s

theorem queryScan_kept : Kept k s (queryScan s) := by
  refine clearSpent_kept.trans (Kept.ite (fun _ => .refl _) fun _ => ?_)
  split
  · exact .refl _
  · refine .after (offer_kept _) (Kept.of_store (fun h => h) fun _ => ?_)
    exact Nat.mod_lt _ (by decide)

theorem finish_kept : Kept k s (finish s) :=
  Kept.ite (fun _ => (Kept.of_scanDue false).trans queryScan_kept) fun _ => .refl s

theorem placeAnswers_kept (row tag : Nat) : Kept k s (placeAnswers s row tag) :=
  (withdraw_kept _).trans (Kept.foldl _ (fun _ _ _ => offer_kept _) _)

theorem suppressAnswers_kept (tag : Nat) (es : List NoticeEntry) : Kept k s (suppressAnswers s tag es) :=
  .after (withdraw_kept _) (Kept.ite (fun _ => .of_lists rfl rfl rfl) fun _ => .refl s)

theorem closeQuery_kept : Kept k s (closeQuery s) := .of_lists rfl rfl rfl

/-- R137, R139: an entry handled. -/
theorem applyEntry_kept (sender : Nat) (answer : Bool) (acc : State × List Nat) (e : NoticeEntry) :
    Kept k acc.1 (applyEntry sender answer acc e).1 := by
  have mark (c : SuspectCause) : Kept k acc.1 (markSuspect acc.1 (slotRow e.slot) c (some sender)) := markSuspect_kept _ _ _
  unfold applyEntry
  dsimp only
  split
  · exact .refl _
  split
  · exact mark _
  split
  · split
    · exact .refl _
    · exact mark _
  split
  · exact mark _
  · refine .trans ?_ (putSlot_kept _ _)
    split
    · exact markSuspect_kept _ _ _
    · exact .refl _

theorem applyEntries_kept (sender : Nat) (answer : Bool) (es : List NoticeEntry) (acc : State × List Nat) :
    Kept k acc.1 (es.foldl (applyEntry sender answer) acc).1 := by
  induction es generalizing acc with
  | nil => exact .refl _
  | cons e es ih => exact (applyEntry_kept sender answer acc e).trans (ih _)

theorem checkRow_kept (sender row : Nat) : Kept k s (checkRow sender s row) :=
  Kept.ite (fun _ => markSuspect_kept _ _ _) fun _ => settleRow_kept _

theorem applyNotice_kept (sender : Nat) (f : StoreNoticeFrame) : Kept k s (applyNotice s sender f) := by
  unfold applyNotice
  dsimp only
  refine .after (Kept.foldl _ (fun _ _ _ => checkRow_kept _ _) _) (.after (applyEntries_kept sender _ _ _) ?_)
  dsimp only
  split
  · exact suppressAnswers_kept _ _
  · exact .refl s

theorem clearClashes_kept (row : Nat) (coils : List Nat) (acc : State × List Nat) :
    Kept k acc.1 (coils.foldl (clearClashes row) acc).1 := by
  induction coils generalizing acc with
  | nil => exact .refl _
  | cons c coils ih =>
    refine .trans ?_ (ih _)
    unfold clearClashes
    split
    · exact markRow_kept _
    · exact .refl _

theorem applySurvey_kept (q : SurveyRequest) : Kept k s (applySurvey s q) := by
  unfold applySurvey
  dsimp only
  refine .after (Kept.foldl _ (fun _ _ _ => joinOutbox_kept _) _) (.after (settleRow_kept _) ?_)
  refine .after (Kept.foldl _ (fun _ _ _ => putSlot_kept _ _) _) ?_
  have clashes := clearClashes_kept (k := k) q.row (q.slots.filterMap surveyCoil) (s, [])
  split
  · exact clashes
  · exact clashes.trans (suspect_kept _ _ _ _)

/-! ## The Bay Table -/

theorem baysOk_iff (s : State) : baysOk s = true ↔ ∀ b, bayOk (s.bay b) = true := by
  simp only [baysOk, List.all_cons, List.all_nil, Bool.and_true, Bool.and_eq_true]
  constructor
  · rintro ⟨h0, h1, h2, h3⟩ b
    match b with
    | 0 => exact h0
    | 1 => exact h1
    | 2 => exact h2
    | 3 => exact h3
    | _ + 4 => rfl
  · exact fun h => ⟨h 0, h 1, h 2, h 3⟩

/-- A bay record put in place of another. -/
theorem withBay_kept (b : Nat) {r : BayRecord} (h : bayOk (s.bay b) = true → bayOk r = true) : Kept k s (s.withBay b r) := by
  refine Kept.of_bays fun hs => ?_
  rw [baysOk_iff] at *
  intro c
  by_cases e : c = b
  · subst c
    by_cases h3 : b ≤ 3
    · show bayOk (bayAt (putBay s.bays b r) b) = true
      rw [putBay_same _ _ h3]
      exact h (hs b)
    · obtain ⟨n, rfl⟩ : ∃ n, b = n + 4 := ⟨b - 4, by omega⟩
      rfl
  · show bayOk (bayAt (putBay s.bays b r) c) = true
    rw [putBay_other _ _ e]
    exact hs c

theorem ownBayChange_kept (b : Nat) {r : BayRecord} (h : bayOk (s.bay b) = true → bayOk r = true) :
    Kept k s (ownBayChange s b r) := (withBay_kept b (r := { r with announcer := some .own }) h).trans (offer_kept _)

/-- A bay record in which each load keeps its trailer and the number of its cradle records. -/
theorem bayOk_mapLoad {b : BayRecord} (f : BayLoad → BayLoad)
    (hf : ∀ l, (f l).trailer = l.trailer ∧ (f l).cradles.length = l.cradles.length) (h : bayOk b = true) :
    bayOk { b with load := b.load.map f } = true := by
  cases hb : b.load with
  | none => simpa [bayOk, hb] using h
  | some l => simpa [bayOk, hb, hf l] using h

theorem bayOk_putCradle {b : BayRecord} (i : Nat) (r : CradleRecord) (h : bayOk b = true) : bayOk (putCradle b i r) = true :=
  bayOk_mapLoad _ (fun _ => ⟨rfl, by simp⟩) h

/-- A bay's state may change between those in which it holds a trailer. -/
theorem bayOk_state {b : BayRecord} {st : BayState} (h : bayOk b = true) (hs : b.state = .empty ↔ st = .empty) :
    bayOk { b with state := st } = true := by
  have : (b.state != .empty) = (st != .empty) := by
    rw [Bool.eq_iff_iff, bne_iff_ne, bne_iff_ne, ne_eq, hs]
  simpa [bayOk, this] using h

theorem reserveCradle_kept (b i task coil : Nat) (w : Int) : Kept k s (reserveCradle s b i task coil w) := by
  refine ownBayChange_kept b fun h => bayOk_state (bayOk_putCradle i _ h) ?_
  show (s.bay b).state = .empty ↔ (if (s.bay b).state = .docked then BayState.loading else (s.bay b).state) = .empty
  split <;> simp_all

theorem restoreCradle_kept (b i : Nat) : Kept k s (restoreCradle s b i) :=
  ownBayChange_kept b fun h => bayOk_putCradle _ _ h

/-- R174: a bay that holds a load is not EMPTY, and its lists are of its trailer's count. -/
theorem bayOk_of_load {b : BayRecord} {l : BayLoad} (hl : b.load = some l) : bayOk b = true ↔
    b.state ≠ .empty ∧ l.trailer.offsets.length = l.trailer.count ∧ l.cradles.length = l.trailer.count := by
  simp [bayOk, hl]

theorem settleCradle_kept (b i coil : Nat) (w : Int) : Kept k s (settleCradle s b i coil w) := by
  unfold settleCradle
  dsimp only
  split
  · exact .refl s
  · rename_i l hl
    have kept : Kept k s (ownBayChange s b { putCradle (s.bay b) i (.loaded (some coil) w) with
        load := some { l with remaining := l.remaining - 1 }
        state := if (l.remaining - 1 == 0) = true then .closed else (putCradle (s.bay b) i (.loaded (some coil) w)).state }) := by
      refine ownBayChange_kept b fun h => ?_
      have := (bayOk_of_load hl).mp (bayOk_putCradle i _ h)
      refine (bayOk_of_load (l := { l with remaining := l.remaining - 1 }) rfl).mpr ⟨?_, this.2⟩
      dsimp only
      split
      · simp
      · exact this.1
    exact Kept.ite (fun _ => kept.trans (raiseEvent_kept _)) fun _ => kept

theorem dock_kept {q : DockRequest} (h : dockRefusal s q = none) : Kept k s (dock s q) := by
  refine ownBayChange_kept q.bay fun _ => (bayOk_of_load rfl).mpr ⟨by simp, ?_, by simp⟩
  unfold dockRefusal at h
  dsimp only at h
  repeat' (split at h <;> first | cases h | skip)
  rename_i ht
  simp only [Bool.not_eq_true, Bool.not_eq_false', Bool.and_eq_true, trailerOk, beq_iff_eq] at ht
  exact ht.1.1.1.1.1.1.1.2

theorem closeTheBay_kept {b : Nat} (h : closeRefusal s b = none) : Kept k s (closeTheBay s b) := by
  refine ownBayChange_kept b fun hb => bayOk_state hb ?_
  unfold closeRefusal at h
  dsimp only at h
  repeat' (split at h <;> first | cases h | skip)
  rename_i hst _ _
  have : (s.bay b).state ≠ .empty := by
    intro e
    simp [e] at hst
  simp [this]

theorem undockTheBay_kept (b : Nat) : Kept k s (undockTheBay s b) :=
  Kept.ite (fun _ => .refl s) fun _ => ownBayChange_kept b fun _ => rfl

theorem unname_kept (coil b : Nat) : Kept k s (unname s coil b) :=
  withBay_kept b (bayOk_mapLoad _ fun _ => ⟨rfl, by simp⟩)

theorem nameCradle_kept (sender b coil : Nat) : Kept k s (nameCradle sender b s coil) := by
  refine Kept.ite (fun _ => unname_kept _ _) fun _ => ?_
  split
  · exact markSuspect_kept _ _ _
  · exact Kept.foldl _ (fun _ _ _ => Kept.ite (fun _ => unname_kept _ _) fun _ => .refl _) s

/-- R183, R184: the record that a fitting notice gives. -/
theorem bayOk_of_notice {c : StartRecord} {f : BayNoticeFrame} (h : bayNoticeOk c f = true) (a : Option Announcer) :
    bayOk ⟨f.state, f.load.map fun l => ⟨l.trailer, f.remaining, l.cradles.map takenCradle⟩, a, false⟩ = true := by
  unfold bayNoticeOk at h
  rw [Bool.and_eq_true] at h
  obtain ⟨-, h⟩ := h
  split at h
  · rename_i hs hl
    simp [bayOk, hs, hl]
  · cases h
  · cases h
  · rename_i hs hl
    simp only [Bool.and_eq_true, trailerOk, beq_iff_eq] at h
    obtain ⟨⟨⟨⟨⟨ht, hc⟩, -⟩, -⟩, -⟩, -⟩ := h
    have hs' : f.state ≠ .empty := by assumption
    simp [bayOk, hs, hs', ht.1.1.1.1.1.1.2, hc]

theorem applyBayNotice_kept (sender : Nat) (f : BayNoticeFrame) : Kept k s (applyBayNotice s sender f) := by
  refine Kept.ite (fun _ => .refl s) fun hf => Kept.ite (fun _ => offer_kept _) fun _ => ?_
  refine .after (Kept.foldl _ (fun _ _ _ => nameCradle_kept _ _ _) _) ?_
  exact withBay_kept f.bay fun _ => bayOk_of_notice (by simpa using hf) _

theorem unsureBays_kept (i : Interval) : Kept k s (unsureBays s i) := by
  refine Kept.foldl _ (fun t b _ => Kept.ite (fun _ => ?_) fun _ => .refl _) s
  exact withBay_kept b fun h => h

theorem handRegion_kept (region : Option Interval) (rank : Nat) : Kept k s (handRegion s region rank) := by
  cases region with
  | none => exact .refl s
  | some i => exact (markRegion_kept i rank).trans (unsureBays_kept i)

theorem clearForeign_kept (rank : Nat) : Kept k s (clearForeign s rank) := by
  refine Kept.foldl _ (fun t b _ => Kept.ite (fun _ => ?_) fun _ => .refl _) s
  exact withBay_kept b (bayOk_mapLoad _ fun _ => ⟨rfl, by simp⟩)

/-! ## The Task Engine -/

theorem addOutcome_kept (o : TaskOutcome) : Kept k s (addOutcome s o) :=
  .of_tasks id fun _ => by simp [List.length_take]

theorem withHookCoil_kept (c : Option HookCoil) : Kept k s (withHookCoil s c) := .of_tasks id id

theorem withLoose_kept (b : Bool) : Kept k s (withLoose s b) := .of_tasks id id

theorem writeUnplaced_kept (w : UnplacedWay) (c : Option Nat) (n : Option Int) : Kept k s (writeUnplaced s w c n) :=
  .of_tasks id id

theorem putTop_kept (t : Task) : Kept k s (putTop s t) :=
  .of_tasks (fun h => by
    have : 1 ≤ Config.nestCapacity := by decide
    simp only [List.length_append, List.length_dropLast, List.length_singleton]
    omega) id

theorem dropTop_kept : Kept k s { s with tasks := { s.tasks with nest := s.tasks.nest.dropLast } } :=
  .of_tasks (fun h => by simp only [List.length_dropLast]; omega) id

theorem restoreEntry_kept (e : JournalEntry) : Kept k s (restoreEntry s e) := by
  unfold restoreEntry
  split
  · exact changeSlot_kept _ _
  · exact restoreCradle_kept _ _
  · exact .refl s

theorem unwindTask_kept (c : AbortCause) (depth : Nat) (t : Task) : Kept k s (unwindTask c depth s t) :=
  (Kept.foldl _ (fun _ _ _ => restoreEntry_kept _) s).trans ((addOutcome_kept _).trans dropTop_kept)

theorem unwind_kept (c : AbortCause) (depth : Nat) : Kept k s (unwind s c depth) :=
  Kept.foldl _ (fun _ _ _ => unwindTask_kept _ _ _) s

theorem abortNest_kept (c : AbortCause) (number depth : Nat) (x : AbortDetail) {hook : State → State}
    (h : ∀ t, Kept k t (hook t)) : Kept k s (abortNest s c number depth x hook) :=
  (unwind_kept c depth).trans ((h _).trans (raiseEvent_kept _))

theorem abortAtTop_kept (c : AbortCause) (x : AbortDetail) {hook : State → State} (h : ∀ t, Kept k t (hook t)) :
    Kept k s (abortAtTop s c x hook) := by
  unfold abortAtTop
  split
  · exact .refl s
  · exact abortNest_kept _ _ _ _ h

theorem liftClash_kept (coil : Nat) (p : Place) : Kept k s (liftClash s coil p) := by
  unfold liftClash
  refine .trans ?_ (Kept.foldl _ (fun _ _ _ => Kept.ite (fun _ => unname_kept _ _) fun _ => .refl _) _)
  split
  · exact markSuspect_kept _ _ _
  · exact .refl s

theorem settleLift_kept (t : Task) (net : Int) : Kept k s (settleLift s t net) := by
  unfold settleLift
  refine .trans ?_ ((withHookCoil_kept _).trans ((liftClash_kept _ _).trans (putTop_kept _)))
  split
  · exact settleSource_kept _
  · exact .refl s

/-- R158 to R161. -/
theorem taskLift_kept (net : Int) : Kept k s (taskLift s net) := by
  unfold taskLift
  split
  · exact withLoose_kept _
  split
  · exact .refl s
  split
  · exact abortAtTop_kept _ _ fun _ => withLoose_kept _
  split
  · exact abortAtTop_kept _ _ fun _ => withLoose_kept _
  split
  · exact settleLift_kept _ _
  split
  · exact settleLift_kept _ _
  · exact abortAtTop_kept _ _ fun _ => withLoose_kept _

theorem commitTask_kept (t : Task) : Kept k s (commitTask s t) := by
  unfold commitTask
  refine .trans ?_ ((withHookCoil_kept none).trans ((addOutcome_kept _).trans ((raiseEvent_kept _).trans dropTop_kept)))
  split
  · exact settleDestination_kept _ _ _ _
  · exact settleCradle_kept _ _ _ _
  · exact .refl s

theorem setWithoutTask_kept (net : Int) : Kept k s (setWithoutTask s net) := by
  unfold setWithoutTask
  split
  · exact (withHookCoil_kept _).trans (writeUnplaced_kept _ _ _)
  · exact Kept.ite (fun _ => (withLoose_kept _).trans (writeUnplaced_kept _ _ _)) fun _ => .refl s

/-- R162 to R164. -/
theorem taskSet_kept (net : Int) : Kept k s (taskSet s net) := by
  unfold taskSet
  split
  · exact setWithoutTask_kept _
  · exact Kept.ite (fun _ => .refl s) fun _ => Kept.ite (fun _ => commitTask_kept _) fun _ =>
      abortAtTop_kept _ _ fun _ => (withHookCoil_kept _).trans ((writeUnplaced_kept _ _ _).trans (withLoose_kept _))

theorem taskSnag_kept : Kept k s (taskSnag s) := abortAtTop_kept _ _ .refl

theorem taskVoided_kept : Kept k s (taskVoided s) := abortAtTop_kept _ _ .refl

theorem dropLoad_kept : Kept k s (dropLoad s) := by
  unfold dropLoad
  split
  · exact (withHookCoil_kept _).trans ((withLoose_kept _).trans (writeUnplaced_kept _ _ _))
  · exact (withLoose_kept _).trans (writeUnplaced_kept _ _ _)
  · exact .refl s

theorem taskLoadLost_kept : Kept k s (taskLoadLost s) :=
  Kept.ite (fun _ => dropLoad_kept) fun _ => abortAtTop_kept _ _ fun _ => dropLoad_kept

theorem reserveTheSource_kept (q : BeginRequest) (number : Nat) : Kept k s (reserveTheSource s q number).1 := by
  unfold reserveTheSource
  split
  · show Kept k s (reserveSource s _ _)
    unfold reserveSource
    split
    · exact changeSlot_kept _ _
    · exact .refl s
  · exact .refl s

theorem reserveTheDestination_kept (q : BeginRequest) (number : Nat) (c : Nat × Nat × Option Int) :
    Kept k s (reserveTheDestination s q number c).1 := by
  unfold reserveTheDestination
  split
  · exact changeSlot_kept _ _
  · exact reserveCradle_kept _ _ _ _ _
  · exact .refl s

/-- The Task Engine's records after the reservation of a source are those before it. -/
theorem settleRow_tasks (s : State) (row : Nat) : (settleRow s row).tasks = s.tasks := by
  unfold settleRow
  dsimp only
  repeat' split
  all_goals rfl

theorem reserveTheSource_tasks (s : State) (q : BeginRequest) (number : Nat) :
    (reserveTheSource s q number).1.tasks = s.tasks := by
  unfold reserveTheSource
  split
  · show (reserveSource s _ _).tasks = _
    unfold reserveSource
    split
    · simp [changeSlot, settleRow_tasks]
    · rfl
  · rfl

theorem reserveTheDestination_tasks (s : State) (q : BeginRequest) (number : Nat) (c : Nat × Nat × Option Int) :
    (reserveTheDestination s q number c).1.tasks = s.tasks := by
  unfold reserveTheDestination
  split
  · simp [reserveDestination, changeSlot, settleRow_tasks]
  · simp [reserveCradle, ownBayChange, bayChanged]
  · rfl

/-- R152, R156: a Begin that is not refused finds room in the nest. -/
theorem nest_room_of_begin {q : BeginRequest} (h : beginRefusal s q = none) : s.tasks.nest.length < Config.nestCapacity := by
  unfold beginRefusal at h
  dsimp only at h
  by_contra hn
  repeat' (split at h <;> first | cases h | skip)
  all_goals omega

theorem beginTheTask_kept {q : BeginRequest} (h : beginRefusal s q = none) : Kept k s (beginTheTask s q) := by
  have room := nest_room_of_begin h
  unfold beginTheTask
  dsimp only
  refine .after (Kept.of_tasks (fun _ => ?_) id) (.after (reserveTheDestination_kept q _ _) (reserveTheSource_kept q _))
  rw [List.length_append, reserveTheDestination_tasks, reserveTheSource_tasks]
  exact room

end Sys2Proof.Machine

/-! SUPPORT. What the Claim Controller and the Travel Profiler do keeps what `Kept` says. -/

namespace Sys2Proof.Machine

variable {k : Scope} {s : State}

/-! ## The own claim -/

theorem claimEvent_kept (o : ClaimOutcome) : Kept k s (claimEvent s o) := raiseEvent_kept _

/-- R64: the retry timer starts only where a wanted edge stands. -/
theorem startRetry_kept (h : s.claim.wanted.isSome = true) : Kept k s (startRetry s) :=
  .of_claim fun _ e => by rw [e] at h; cases h

theorem retryIfWanted_kept : Kept k s (retryIfWanted s) := Kept.ite startRetry_kept fun _ => .refl s

theorem clearWanted_kept : Kept k s (clearWanted s) := .of_claim fun _ e => by rw [e]; rfl

theorem proposeEdge_kept (i : Interval) (d : Side) (e : Int) (h : s.claim.wanted.isSome = true) :
    Kept k s (proposeEdge s i d e) := by
  refine Kept.ite (fun _ => .after (.of_claim fun _ e => ?_) (offer_kept _)) fun _ => startRetry_kept h
  rw [show s.claim = .reset by simpa using e] at h
  cases h

theorem extensionAttempt_kept : Kept k s (extensionAttempt s) := by
  unfold extensionAttempt
  split
  · rename_i w i hn hw hp hi
    have h : s.claim.wanted.isSome = true := by rw [hw]; rfl
    refine Kept.ite (fun _ => startRetry_kept h) fun _ => ?_
    have asked := fun e => proposeEdge_kept (k := k) i w.side e h
    dsimp only
    refine Kept.ite (fun _ => ?_) fun _ => asked _
    split
    · exact Kept.ite (fun _ => (asked _).trans (offer_kept _)) fun _ => asked _
    · exact asked _
  · exact .refl s

theorem reportMove_kept (x : Int) : Kept k s (reportMove s x) := by
  unfold reportMove
  dsimp only
  have start : Kept k s (withClaim s { s.claim with shrink := none }) := .of_claim fun _ e => by rw [e]; rfl
  split
  · exact start.trans clearWanted_kept
  · rename_i w hw
    refine .after extensionAttempt_kept (.after (.of_claim fun _ e => ?_) start)
    rw [e] at hw
    cases hw

theorem abandonPending_kept : Kept k s (abandonPending s) := by
  unfold abandonPending
  split
  · exact .refl s
  · exact .after (.of_claim fun _ e => by rw [show s.claim = .reset from e]; rfl) withdrawClaimFrame_kept
  · exact .after (claimEvent_kept _) (.of_claim fun _ e => by rw [e]; rfl)

theorem setConfirmed_kept {i : Option Interval} (h : claimless s.node = true → s.claim ≠ .reset) :
    Kept k s (setConfirmed s i) :=
  .after scanLater_kept (.of_claim fun hn e => absurd e (h hn))

theorem shrink_kept : Kept k s (shrink s) := by
  unfold shrink
  dsimp only
  split
  · rename_i i x hi hx
    refine .trans abandonPending_kept (Kept.ite (fun _ => .refl _) fun _ => ?_)
    refine .after (claimEvent_kept _) (.after (offer_kept _) (setConfirmed_kept fun _ e => ?_))
    rw [e] at hi
    cases hi
  · exact abandonPending_kept

theorem shrinkIfIdle_kept : Kept k s (shrinkIfIdle s) := Kept.ite (fun _ => shrink_kept) fun _ => .refl s

/-- R63, R73: an end reported; the shrink timer starts only where the node holds a claim. -/
theorem reportEnd_kept (o : MoveOutcome) : Kept k s (reportEnd s o) := by
  refine Kept.ite (fun _ => .refl s) fun _ => ?_
  refine clearWanted_kept.trans (Kept.ite (fun _ => .refl _) fun hs => ?_)
  refine Kept.ite (fun _ => shrinkIfIdle_kept) fun _ => .of_claim fun hn _ => ?_
  simp only [shrinks] at hs
  cases h : (clearWanted s).node <;> simp_all [claimless]

/-! ## What each axis state says (R80) -/

section
variable {r : AxisRecord}

theorem axisOk_parked (h : r.state = .parked) : axisOk r = true ↔ r.setpoint = 0 ∧ r.brake = false ∧
    r.brakeTimer = none ∧ r.parkTimer = none ∧ r.profileTimer = none ∧ r.settle = none ∧ r.waitTimer = none ∧
    r.move = none := by
  simp [axisOk, h, and_assoc]

theorem axisOk_releasing (h : r.state = .releasing) : axisOk r = true ↔ r.setpoint = 0 ∧ r.brake = true ∧
    r.brakeTimer.isSome = true ∧ r.parkTimer = none ∧ r.profileTimer = none ∧ r.settle = none ∧ r.waitTimer = none ∧
    r.move.isSome = true := by
  simp [axisOk, h, and_assoc]

theorem axisOk_holding (h : r.state = .holding) : axisOk r = true ↔ r.setpoint = 0 ∧ r.brake = true ∧
    r.brakeTimer = none ∧ r.parkTimer.isSome = true ∧ r.profileTimer = none ∧ r.settle = none ∧ r.waitTimer = none ∧
    r.move = none := by
  simp [axisOk, h, and_assoc]

theorem axisOk_moving (h : r.state = .moving) : axisOk r = true ↔ r.brake = true ∧
    r.brakeTimer = none ∧ r.parkTimer = none ∧ r.profileTimer.isSome = true ∧ r.settle = none ∧ r.waitTimer = none ∧
    r.move.isSome = true := by
  simp [axisOk, h, and_assoc]

theorem axisOk_settling (h : r.state = .settling) : axisOk r = true ↔ r.setpoint = 0 ∧ r.brake = true ∧
    r.brakeTimer = none ∧ r.parkTimer = none ∧ r.profileTimer.isSome = true ∧ r.settle.isSome = true ∧
    r.waitTimer = none ∧ r.move.isSome = true := by
  simp [axisOk, h, and_assoc]

theorem axisOk_waiting (h : r.state = .waiting) : axisOk r = true ↔ r.setpoint = 0 ∧ r.brake = true ∧
    r.brakeTimer = none ∧ r.parkTimer = none ∧ r.profileTimer.isSome = true ∧ r.settle = none ∧
    r.waitTimer.isSome = true ∧ r.move.isSome = true := by
  simp [axisOk, h, and_assoc]

theorem axisOk_stopping (h : r.state = .stopping) : axisOk r = true ↔ r.brake = true ∧
    r.brakeTimer = none ∧ r.parkTimer = none ∧ r.profileTimer.isSome = true ∧ r.settle = none ∧ r.waitTimer = none ∧
    r.move = none := by
  simp [axisOk, h, and_assoc]

theorem axisOk_fault (h : r.state = .fault) : axisOk r = true ↔ r.setpoint = 0 ∧ r.brake = true ∧
    r.brakeTimer = none ∧ r.parkTimer = none ∧ r.profileTimer = none ∧ r.settle = none ∧ r.waitTimer = none ∧
    r.move = none := by
  simp [axisOk, h, and_assoc]

/-- The profile timer runs in MOVING, SETTLING, WAITING and STOPPING. -/
theorem state_of_profileTimer (h : axisOk r = true) (ht : r.profileTimer.isSome = true) :
    r.state = .moving ∨ r.state = .settling ∨ r.state = .waiting ∨ r.state = .stopping := by
  cases hs : r.state
  case parked => simp [((axisOk_parked hs).mp h).2.2.2.2.1] at ht
  case releasing => simp [((axisOk_releasing hs).mp h).2.2.2.2.1] at ht
  case holding => simp [((axisOk_holding hs).mp h).2.2.2.2.1] at ht
  case fault => simp [((axisOk_fault hs).mp h).2.2.2.2.1] at ht
  all_goals simp

/-- The brake settle timer runs in RELEASING alone. -/
theorem state_of_brakeTimer (h : axisOk r = true) (ht : r.brakeTimer.isSome = true) : r.state = .releasing := by
  cases hs : r.state
  case releasing => rfl
  all_goals simp [axisOk, hs, ht] at h

/-- The park timer runs in HOLDING alone. -/
theorem state_of_parkTimer (h : axisOk r = true) (ht : r.parkTimer.isSome = true) : r.state = .holding := by
  cases hs : r.state
  case holding => rfl
  all_goals simp [axisOk, hs, ht] at h

/-- A setpoint other than 0 stands in MOVING and STOPPING alone. -/
theorem state_of_setpoint (h : axisOk r = true) (ht : r.setpoint ≠ 0) : r.state = .moving ∨ r.state = .stopping := by
  cases hs : r.state
  case moving => simp
  case stopping => simp
  all_goals simp [axisOk, hs, ht] at h

end

/-! ## The end of a move (R104) -/

/-- R104: the end of a move does not depend on the move record that it clears. -/
theorem recordEnd_move (s : State) (a : Axis) (r : AxisRecord) (o : MoveOutcome) (x : Int) :
    recordEnd (s.withAxis a r) a o x = recordEnd (s.withAxis a { r with move := none }) a o x := by
  cases a <;> rfl

theorem recordEnd_kept {a : Axis} {o : MoveOutcome} {x : Int} (h : k.tracked a → axisGood s a → (s.axis a).move = none) :
    Kept k s (recordEnd s a o x) := by
  have ended : Kept k s (s.withAxis a { s.axis a with move := none, last := some ⟨o, x, s.position a⟩ }) :=
    .of_axis fun hk =>
      { ok := fun ha => by
          have hm := h hk ha
          have : axisOk { s.axis a with move := none, last := some ⟨o, x, s.position a⟩ } = axisOk (s.axis a) := by
            simp [axisOk, hm]
          exact ⟨this.trans ha.1, ha.2⟩
        rest := fun _ _ _ => rfl
        slow := fun _ _ _ _ => le_rfl
        speed := fun _ ha hs => by
          rw [speedOk_eq] at hs
          simpa [speedFits, h hk ha] using hs }
  unfold recordEnd
  dsimp only
  have raised : Kept k s (if o = .replaced then s.withAxis a { s.axis a with move := none, last := some ⟨o, x, s.position a⟩ }
      else raiseEvent (s.withAxis a { s.axis a with move := none, last := some ⟨o, x, s.position a⟩ })
        (.moveDone a o x (s.position a))) := Kept.ite (fun _ => ended) fun _ => ended.trans (raiseEvent_kept _)
  cases a
  · exact raised.trans (reportEnd_kept _)
  · exact raised

/-- A record takes the place of that of an axis, and its move ends. -/
theorem endMove_withAxis_kept {a : Axis} {r : AxisRecord} {o : MoveOutcome}
    (h : k.tracked a → AxisKept k s a { r with move := none }) : Kept k s (endMove (s.withAxis a r) a o) := by
  unfold endMove
  rw [withAxis_axis]
  split
  · rename_i hm
    have : { r with move := none } = r := by rw [← hm]
    exact .of_axis (this ▸ h)
  · rw [recordEnd_move]
    exact (Kept.of_axis h).trans (recordEnd_kept fun _ _ => by simp)

/-- R87: the record of an axis that has come to HOLDING, its move ended. -/
theorem enterHolding_endMove_kept {a : Axis} (o : MoveOutcome) : Kept k s (endMove (enterHolding s a) a o) :=
  endMove_withAxis_kept fun _ => .standing rfl (fun _ => rfl) fun _ => ⟨by simp [axisOk], by simp⟩

theorem enterParked_endMove_kept {a : Axis} (o : MoveOutcome) : Kept k s (endMove (enterParked s a) a o) :=
  endMove_withAxis_kept fun _ => .standing rfl (fun _ => rfl) fun _ => ⟨by simp [axisOk], by simp⟩

theorem enterHolding_kept {a : Axis} (h : axisGood s a → (s.axis a).move = none) : Kept k s (enterHolding s a) :=
  .of_axis fun _ => .standing rfl h fun ha => ⟨by simp [axisOk, h ha], by simp⟩

theorem enterParked_kept {a : Axis} (h : axisGood s a → (s.axis a).move = none) : Kept k s (enterParked s a) :=
  .of_axis fun _ => .standing rfl h fun ha => ⟨by simp [axisOk, h ha], by simp⟩

/-- R96: an axis that runs its profile timer is stopped. -/
theorem enterStopping_endMove_kept {a : Axis} (o : MoveOutcome)
    (h : (s.axis a).state = .moving ∨ (s.axis a).state = .settling ∨ (s.axis a).state = .waiting) :
    Kept k s (endMove (enterStopping s a) a o) := by
  unfold enterStopping
  split
  · exact enterHolding_endMove_kept o
  · rename_i h0
    refine endMove_withAxis_kept fun _ =>
      { ok := fun ha => ⟨(axisOk_stopping rfl).mpr ?_, by simp⟩, rest := fun _ _ _ => rfl, slow := fun _ _ _ _ => le_rfl
        speed := fun _ _ hs => ?_ }
    · rcases h with h | h | h
      · have := (axisOk_moving h).mp ha.1
        simp_all
      · exact absurd ((axisOk_settling h).mp ha.1).1 h0
      · exact absurd ((axisOk_waiting h).mp ha.1).1 h0
    · rw [speedOk_eq] at hs
      unfold speedFits at *
      simp only [Bool.or_eq_true, Bool.and_eq_true] at hs ⊢
      rcases hs with hs | hs
      · exact .inl ⟨hs.1, rfl⟩
      · exact .inr ⟨hs.1, rfl⟩

/-! ## Stops (R86, R95, R96, R102) -/

theorem stopAxis_kept (a : Axis) (o : MoveOutcome) : Kept k s (stopAxis s a o) := by
  unfold stopAxis
  split <;> rename_i h
  · exact enterStopping_endMove_kept o (.inl h)
  · exact enterStopping_endMove_kept o (.inr (.inl h))
  · exact enterStopping_endMove_kept o (.inr (.inr h))
  · exact enterParked_endMove_kept o
  · exact .refl s

/-- R95: a stop order leaves the record but for the order. -/
theorem orderStop_kept (a : Axis) (o : MoveOutcome) : Kept k s (orderStop s a o) := by
  unfold orderStop
  split
  · rename_i m hm
    refine Kept.ite (fun _ => .refl s) fun _ => .of_axis fun _ => .moving (by simp [hm]) (fun ha => ?_) fun _ _ hs => ?_
    · have : axisOk { s.axis a with move := some { m with stopOrder := some o } } = axisOk (s.axis a) := by
        simp [axisOk, hm]
      exact ⟨this.trans ha.1, ha.2⟩
    · rw [speedOk_eq] at hs
      simpa [speedFits, hm] using hs
  · exact .refl s

theorem isolateAxis_kept (a : Axis) : Kept k s (isolateAxis s a) := by
  unfold isolateAxis
  split
  · exact orderStop_kept _ _
  · exact enterParked_endMove_kept _
  · exact enterHolding_endMove_kept _
  · exact enterHolding_endMove_kept _
  · exact .refl s

theorem lowHookAxis_kept (a : Axis) : Kept k s (lowHookAxis s a) := by
  unfold lowHookAxis
  split
  · exact orderStop_kept _ _
  · exact enterHolding_endMove_kept _
  · exact enterParked_endMove_kept _
  · exact .refl s

theorem stopMoveAxis_kept (a : Axis) : Kept k s (stopMoveAxis s a) := by
  unfold stopMoveAxis
  split
  · exact enterParked_endMove_kept _
  · exact orderStop_kept _ _
  · exact enterHolding_endMove_kept _
  · exact enterHolding_endMove_kept _
  · exact .refl s

theorem lowHookEdge_kept (b : State) : Kept k s (lowHookEdge b s) :=
  Kept.ite (fun _ => (lowHookAxis_kept .bridge).trans (lowHookAxis_kept .trolley)) fun _ => .refl s

/-! ## What the start record's check gives (R9, R10) -/

/-- R8: a record that no number refuses passes every test of both passes. -/
theorem tests_of_checked {c : StartRecord} (h : startRecordFailure c = none) :
    (∀ t ∈ rangeTests c, t.2 = true) ∧ ∀ t ∈ crossTests c, t.2 = true := by
  have all {l : List (Nat × Bool)} (h : firstFailure l = none) : ∀ t ∈ l, t.2 = true := by
    simpa [firstFailure, List.find?_eq_none] using h
  unfold startRecordFailure at h
  split at h
  · cases h
  · exact ⟨all ‹_›, all h⟩

/-- R9, R10: the speeds and steps of an axis in a record that passes its check. -/
theorem axisParams_of_checked {c : StartRecord} (h : startRecordFailure c = none) (a : Axis) :
    20 ≤ (axisParams c a).creepSpeed ∧ (axisParams c a).creepSpeed < (axisParams c a).maxSpeed ∧
      1 ≤ (axisParams c a).accel ∧ 1 ≤ (axisParams c a).decel ∧ 1 ≤ (axisParams c a).decelLoaded ∧
      1 ≤ (axisParams c a).emergency := by
  obtain ⟨range, cross⟩ := tests_of_checked h
  have low {n : Nat} {x a b : Int} (h : (n, within x a b) ∈ rangeTests c) : a ≤ x := by
    have := range _ h
    simp only [within, Bool.and_eq_true, decide_eq_true_eq] at this
    exact this.1
  have less {n : Nat} {x y : Int} {b : Bool} (h : (n, b) ∈ crossTests c) (e : b = true → x < y) : x < y :=
    e (cross _ h)
  cases a
  · exact ⟨low (n := 8) (b := 200) (by simp [rangeTests, axisRanges, axisParams]),
      less (n := 8) (b := decide (c.bridge.creepSpeed < c.bridge.maxSpeed)) (by simp [crossTests]) of_decide_eq_true,
      low (n := 9) (b := 40) (by simp [rangeTests, axisRanges, axisParams]),
      low (n := 10) (b := 40) (by simp [rangeTests, axisRanges, axisParams]),
      low (n := 11) (b := 40) (by simp [rangeTests, axisRanges, axisParams]),
      low (n := 12) (b := 40) (by simp [rangeTests, axisRanges, axisParams])⟩
  · exact ⟨low (n := 20) (b := 200) (by simp [rangeTests, axisRanges, axisParams]),
      less (n := 20) (b := decide (c.trolley.creepSpeed < c.trolley.maxSpeed)) (by simp [crossTests]) of_decide_eq_true,
      low (n := 21) (b := 40) (by simp [rangeTests, axisRanges, axisParams]),
      low (n := 22) (b := 40) (by simp [rangeTests, axisRanges, axisParams]),
      low (n := 23) (b := 40) (by simp [rangeTests, axisRanges, axisParams]),
      low (n := 24) (b := 40) (by simp [rangeTests, axisRanges, axisParams])⟩

/-- The same of the record in force. -/
theorem axisParams_of_recordChecked (hc : recordChecked s) (hr : s.record.isSome = true) (a : Axis) :
    20 ≤ (axisParams s.conf a).creepSpeed ∧ (axisParams s.conf a).creepSpeed < (axisParams s.conf a).maxSpeed ∧
      1 ≤ (axisParams s.conf a).accel ∧ 1 ≤ (axisParams s.conf a).decel ∧ 1 ≤ (axisParams s.conf a).decelLoaded ∧
      1 ≤ (axisParams s.conf a).emergency := by
  obtain ⟨c, e⟩ := Option.isSome_iff_exists.mp hr
  have : s.conf = c := by simp [State.conf, e]
  rw [this]
  exact axisParams_of_checked (hc c e) a

/-- R9: a step is never negative, record or none. -/
theorem emergency_nonneg (hc : recordChecked s) (a : Axis) : 0 ≤ (axisParams s.conf a).emergency := by
  cases hr : s.record with
  | none =>
    have : s.conf = State.conf { s with record := none } := by simp [State.conf, hr]
    rw [this]
    cases a <;> exact le_rfl
  | some c =>
    have := (axisParams_of_recordChecked hc (by simp [hr]) a).2.2.2.2.2
    omega

theorem stepInForce_pos (hc : recordChecked s) (hr : s.record.isSome = true) (a : Axis) : 1 ≤ stepInForce s a := by
  obtain ⟨-, -, -, h1, h2, h3⟩ := axisParams_of_recordChecked hc hr a
  unfold stepInForce
  dsimp only
  repeat' split
  all_goals assumption

/-! ## Speeds (R82, R85, R89, R90) -/

/-- What `speedFits` says of an axis record. -/
theorem speedFits_iff (s : State) (a : Axis) (r : AxisRecord) : speedFits s a r = true ↔
    (magnitude r.setpoint = 0 ∧ r.move = none) ∨ (s.record.isSome = true ∧
      magnitude r.setpoint ≤ (axisParams s.conf a).maxSpeed ∧
      (magnitude r.setpoint ≤ (axisParams s.conf a).creepSpeed ∨
        slowActive s a (if 0 < r.setpoint then .high else .low) = false) ∧
      ∀ m, r.move = some m → (axisParams s.conf a).creepSpeed ≤ m.requested ∧
        m.requested ≤ (axisParams s.conf a).maxSpeed ∧ (axisParams s.conf a).creepSpeed ≤ m.speed ∧
        magnitude r.setpoint ≤ m.speed) := by
  unfold speedFits
  simp only [Bool.or_eq_true, Bool.and_eq_true, beq_iff_eq, Option.isNone_iff_eq_none, decide_eq_true_eq,
    Bool.not_eq_true', and_assoc, Option.all_eq_true]

theorem magnitude_signed (d : Side) {v : Int} (h : 0 ≤ v) : magnitude (signed d v) = v := by
  cases d
  · show (if -v < 0 then - -v else -v) = v
    by_cases h0 : -v < 0
    · rw [if_pos h0]; omega
    · rw [if_neg h0]; omega
  · exact if_neg (by simpa [signed] using h)

theorem magnitude_nonneg (x : Int) : 0 ≤ magnitude x := by
  unfold magnitude
  split <;> omega

theorem signed_pos_iff (d : Side) {v : Int} (h : 0 < v) : (0 < signed d v) ↔ d = .high := by
  cases d <;> simp [signed] <;> omega

/-- R88: the direction of travel of a setpoint other than 0 is its side. -/
theorem travelDirection_of_ne {p x : Int} {m : MoveRecord} (h : p ≠ 0) :
    travelDirection p x m = if 0 < p then .high else .low := by
  unfold travelDirection
  split
  · rfl
  · rw [if_pos (by omega)]

/-- A new setpoint in the direction of travel, bounded as the speed was, with the move speed that follows it. -/
theorem speedFits_followed {a : Axis} {r' : AxisRecord} {m : MoveRecord} {d : Side} {v : Int} (h0 : 0 ≤ v)
    (hs : r'.setpoint = signed d v) (hm : r'.move = some (followSpeed m d v)) (hr : s.record.isSome = true)
    (hmax : v ≤ (axisParams s.conf a).maxSpeed)
    (hslow : v ≤ (axisParams s.conf a).creepSpeed ∨ slowActive s a d = false)
    (hreq : (axisParams s.conf a).creepSpeed ≤ m.requested ∧ m.requested ≤ (axisParams s.conf a).maxSpeed)
    (hc : 0 ≤ (axisParams s.conf a).creepSpeed) : speedFits s a r' = true := by
  rw [speedFits_iff, hs, magnitude_signed d h0, hm]
  refine .inr ⟨hr, hmax, ?_, ?_⟩
  · rcases hslow with h | h
    · exact .inl h
    · rcases h0.eq_or_lt with e | hpos
      · exact .inl (by omega)
      · refine .inr ?_
        have := signed_pos_iff d hpos
        cases d
        · rw [if_neg (by simp [this])]; exact h
        · rw [if_pos (by simp [this])]; exact h
  · rintro _ ⟨⟩
    simp only [followSpeed]
    omega

/-- R89: the bounds of the new setpoint magnitude. -/
theorem nextSpeed_bounds (p : AxisParams) {step cap v g : Int} (hv : 0 ≤ v) (hstep : 1 ≤ step) (hacc : 1 ≤ p.accel)
    (hcreep : 0 ≤ p.creepSpeed) (hmax : p.creepSpeed ≤ p.maxSpeed) (hvm : v ≤ p.maxSpeed) (hcap : p.creepSpeed ≤ cap)
    (hcm : cap ≤ p.maxSpeed) :
    0 ≤ nextSpeed p step cap v g ∧ nextSpeed p step cap v g ≤ p.maxSpeed ∧
      (cap = p.creepSpeed → v ≤ p.creepSpeed → nextSpeed p step cap v g ≤ p.creepSpeed) := by
  unfold nextSpeed
  dsimp only
  split
  · split <;> omega
  · generalize hv1 : (if v < cap then min (v + p.accel) cap else if cap < v then max (v - step) cap else v) = v1
    have b1 : 0 ≤ v1 ∧ v1 ≤ p.maxSpeed ∧ (cap = p.creepSpeed → v ≤ p.creepSpeed → v1 ≤ p.creepSpeed) := by
      subst hv1
      split
      · omega
      · split <;> omega
    split <;> omega

/-- R89, R90: the cap lies between creep speed and the axis maximum, and is creep speed while the slowdown is active. -/
theorem speedCap_bounds {a : Axis} {m : MoveRecord} (d : Side)
    (hmax : (axisParams s.conf a).creepSpeed ≤ (axisParams s.conf a).maxSpeed)
    (hreq : (axisParams s.conf a).creepSpeed ≤ m.requested) (hsp : (axisParams s.conf a).creepSpeed ≤ m.speed) :
    (axisParams s.conf a).creepSpeed ≤ speedCap s a m d ∧ speedCap s a m d ≤ (axisParams s.conf a).maxSpeed ∧
      (slowActive s a d = true → speedCap s a m d = (axisParams s.conf a).creepSpeed) := by
  unfold speedCap
  dsimp only
  split
  · omega
  · rename_i h
    simp only [Bool.or_eq_true, not_or] at h
    refine ⟨by omega, by omega, fun hs => absurd hs h.1⟩

/-- R88: the speed of an axis in the direction of travel is at most creep speed, or the slowdown there is not active. -/
theorem slow_in_direction {a : Axis} {m : MoveRecord} {x : Int} (hc : 0 ≤ (axisParams s.conf a).creepSpeed)
    (h : magnitude (s.axis a).setpoint ≤ (axisParams s.conf a).creepSpeed ∨
      slowActive s a (if 0 < (s.axis a).setpoint then .high else .low) = false) :
    magnitude (s.axis a).setpoint ≤ (axisParams s.conf a).creepSpeed ∨
      slowActive s a (travelDirection (s.axis a).setpoint x m) = false := by
  by_cases h0 : (s.axis a).setpoint = 0
  · exact .inl (by rw [h0]; exact hc)
  · rw [travelDirection_of_ne h0]
    exact h

/-- R89: a profile period's setpoint, in MOVING. -/
theorem profileMove_record_kept {a : Axis} {m : MoveRecord} {x : Int} (hst : (s.axis a).state = .moving)
    (hm : (s.axis a).move = some m) (g : Int) :
    let d := travelDirection (s.axis a).setpoint x m
    let v' := nextSpeed (axisParams s.conf a) (stepInForce s a) (speedCap s a m d) (magnitude (s.axis a).setpoint) g
    AxisKept k s a { driveSetpoint (s.axis a) (signed d v') with move := some (followSpeed m d v') } := by
  intro d v'
  refine .moving (by simp [hm]) (fun ha => ⟨(axisOk_moving (by simpa [driveSetpoint] using hst)).mpr ?_, fun _ => ?_⟩) fun hc ha hs => ?_
  · have := (axisOk_moving hst).mp ha.1
    simp_all [driveSetpoint]
  · simp [driveSetpoint, hst]
  · rw [speedOk_eq, speedFits_iff] at hs
    obtain ⟨hr, hmax, hslow, hmv⟩ := hs.resolve_left (by simp [hm])
    obtain ⟨q1, q2, q3, q4⟩ := hmv m hm
    obtain ⟨p1, p2, p3, p4, p5, p6⟩ := axisParams_of_recordChecked hc hr a
    obtain ⟨c1, c2, c3⟩ := speedCap_bounds (s := s) (m := m) d (by omega) q1 q3
    obtain ⟨n1, n2, n3⟩ := nextSpeed_bounds (axisParams s.conf a) (g := g) (magnitude_nonneg (s.axis a).setpoint)
      (stepInForce_pos hc hr a) p3 (by omega) (by omega) hmax c1 c2
    refine speedFits_followed n1 rfl rfl hr n2 ?_ ⟨q1, q2⟩ (by omega)
    by_cases hsl : slowActive s a d = true
    · refine .inl (n3 (c3 hsl) ?_)
      exact (slow_in_direction (x := x) (m := m) (by omega) hslow).resolve_right (by rw [hsl]; simp)
    · exact .inr (by simpa using hsl)

/-! ## The profile period (R88 to R96) -/

/-- R92, R93: an arrival. Only the bridge waits, as only its target can be cut short. -/
theorem arrive_kept {a : Axis} {m : MoveRecord} {x : Int} (hst : (s.axis a).state = .moving)
    (h0 : (s.axis a).setpoint = 0) : Kept k s (arrive s a m x) := by
  refine Kept.ite (fun _ => Kept.ite (fun _ => ?_) fun he => ?_) fun _ => .refl s
  · refine .of_axis fun _ => .same rfl rfl fun ha => ⟨(axisOk_settling rfl).mpr ?_, by simp⟩
    have := (axisOk_moving hst).mp ha.1
    simp_all
  · refine .after extensionAttempt_kept (.of_axis fun _ => .same rfl rfl fun ha => ⟨(axisOk_waiting rfl).mpr ?_, ?_⟩)
    · have := (axisOk_moving hst).mp ha.1
      simp_all
    · rintro rfl
      exact absurd rfl he

theorem profileMove_kept {a : Axis} {m : MoveRecord} {x : Int} (hst : (s.axis a).state = .moving)
    (hm : (s.axis a).move = some m) : Kept k s (profileMove s a m x) := by
  have record := Kept.of_axis fun _ => profileMove_record_kept (k := k) (x := x) hst hm
    (distanceToGo (effectiveTarget s a m.target (travelDirection (s.axis a).setpoint x m)) x
      (travelDirection (s.axis a).setpoint x m))
  refine Kept.ite (fun h0 => record.trans (arrive_kept ?_ ?_)) fun _ => record
  · simpa [driveSetpoint] using hst
  · simp only [withAxis_axis, driveSetpoint, h0]
    cases travelDirection (s.axis a).setpoint x m <;> rfl

theorem profileStop_kept {a : Axis} {m : MoveRecord} {x : Int} {o : MoveOutcome} (hst : (s.axis a).state = .moving)
    (hm : (s.axis a).move = some m) : Kept k s (profileStop s a m x o) := by
  have record : Kept k s (s.withAxis a { driveSetpoint (s.axis a) (signed (travelDirection (s.axis a).setpoint x m)
      (max (magnitude (s.axis a).setpoint - (axisParams s.conf a).decel) 0)) with
        move := some (followSpeed m (travelDirection (s.axis a).setpoint x m)
          (max (magnitude (s.axis a).setpoint - (axisParams s.conf a).decel) 0)) }) := by
    refine .of_axis fun _ => .moving (by simp [hm]) (fun ha => ⟨(axisOk_moving (by simpa [driveSetpoint] using hst)).mpr ?_, fun _ => ?_⟩) fun hc ha hs => ?_
    · have := (axisOk_moving hst).mp ha.1
      simp_all [driveSetpoint]
    · simp [driveSetpoint, hst]
    · rw [speedOk_eq, speedFits_iff] at hs
      obtain ⟨hr, hmax, hslow, hmv⟩ := hs.resolve_left (by simp [hm])
      obtain ⟨q1, q2, q3, q4⟩ := hmv m hm
      obtain ⟨p1, p2, p3, p4, p5, p6⟩ := axisParams_of_recordChecked hc hr a
      have := magnitude_nonneg (s.axis a).setpoint
      refine speedFits_followed (by omega) rfl rfl hr (by omega) ?_ ⟨q1, q2⟩ (by omega)
      refine (slow_in_direction (x := x) (m := m) (by omega) hslow).imp_left fun h => ?_
      omega
  exact Kept.ite (fun _ => record.trans (enterHolding_endMove_kept o)) fun _ => record

/-- R96: the emergency step only lowers a setpoint. -/
theorem profileStopping_kept {a : Axis} (hst : (s.axis a).state = .stopping) : Kept k s (profileStopping s a) := by
  have noMove (ha : axisGood s a) : (s.axis a).move = none := ((axisOk_stopping hst).mp ha.1).2.2.2.2.2.2
  unfold profileStopping
  dsimp only
  refine Kept.ite (fun _ => enterHolding_kept noMove) fun h0 => ?_
  have hv := magnitude_nonneg (s.axis a).setpoint
  generalize he : (axisParams s.conf a).emergency = e at h0
  have mag : magnitude (if (s.axis a).setpoint < 0 then -max (magnitude (s.axis a).setpoint - e) 0
      else max (magnitude (s.axis a).setpoint - e) 0) = magnitude (s.axis a).setpoint - e := by
    split
    · have := magnitude_signed .low (v := max (magnitude (s.axis a).setpoint - e) 0) (by omega)
      simp only [signed] at this
      omega
    · have := magnitude_signed .high (v := max (magnitude (s.axis a).setpoint - e) 0) (by omega)
      simp only [signed] at this
      omega
  refine .of_axis fun _ =>
    { ok := fun ha => ⟨(axisOk_stopping (by simpa [driveSetpoint] using hst)).mpr ?_, fun _ => ?_⟩, rest := fun _ ha _ => noMove ha
      slow := fun _ hc _ _ => ?_, speed := fun hc ha hs => ?_ }
  · have := (axisOk_stopping hst).mp ha.1
    simp_all [driveSetpoint]
  · simp [driveSetpoint, hst]
  · have := emergency_nonneg hc a
    simp only [driveSetpoint, mag]
    omega
  · have hpos := emergency_nonneg hc a
    rw [speedOk_eq, speedFits_iff] at hs
    rw [speedFits_iff]
    simp only [driveSetpoint, mag, noMove ha] at hs ⊢
    have side : (0 < if (s.axis a).setpoint < 0 then -max (magnitude (s.axis a).setpoint - e) 0
        else max (magnitude (s.axis a).setpoint - e) 0) ↔ 0 < (s.axis a).setpoint := by
      have : 0 < magnitude (s.axis a).setpoint - e := by omega
      by_cases hneg : (s.axis a).setpoint < 0
      · rw [if_pos hneg]
        omega
      · rw [if_neg hneg]
        unfold magnitude at *
        omega
    rcases hs with hs | ⟨hr, hmax, hslow, -⟩
    · exact absurd hs.1 (by omega)
    · refine .inr ⟨hr, by omega, ?_, by simp⟩
      simp only [side]
      exact hslow.imp_left fun h => by omega

/-- R92: the settling measured, and the end it may give. -/
theorem profileSettling_kept {a : Axis} {m : MoveRecord} {x : Int} (hst : (s.axis a).state = .settling)
    (hm : (s.axis a).move = some m) : Kept k s (profileSettling s a m x) := by
  have record (t : SettleTimes) (d : Side) : Kept k s
      (s.withAxis a { s.axis a with settle := some t, move := some { m with direction := d } }) := by
    refine .of_axis fun _ => .moving (by simp [hm]) (fun ha => ⟨(axisOk_settling (by simpa using hst)).mpr ?_, fun _ => by simp [hst]⟩)
      fun hc ha hs => ?_
    · have := (axisOk_settling hst).mp ha.1
      simp_all
    · rw [speedOk_eq] at hs
      simpa [speedFits, hm] using hs
  unfold profileSettling
  dsimp only
  exact Kept.ite (fun _ => (record _ _).trans (enterHolding_endMove_kept _)) fun _ =>
    Kept.ite (fun _ => (record _ _).trans (enterHolding_endMove_kept _)) fun _ => record _ _

/-- R83, R94: an axis that waits, settles or is released enters MOVING with its move. -/
theorem enterMoving_kept {a : Axis} (hst : axisGood s a → (s.axis a).state = .waiting ∨ (s.axis a).state = .releasing) :
    Kept k s (enterMoving s a) := by
  have move (ha : axisGood s a) : (s.axis a).brake = true ∧ (s.axis a).move.isSome = true := by
    rcases hst ha with h | h
    · have := (axisOk_waiting h).mp ha.1
      exact ⟨this.2.1, this.2.2.2.2.2.2.2⟩
    · have := (axisOk_releasing h).mp ha.1
      exact ⟨this.2.1, this.2.2.2.2.2.2.2⟩
  exact .of_axis fun _ => .same rfl rfl fun ha => ⟨(axisOk_moving rfl).mpr (by simp [move ha]), by simp⟩

theorem profileWaiting_kept {a : Axis} {m : MoveRecord} {x : Int} (hst : (s.axis a).state = .waiting)
    (hm : (s.axis a).move = some m) : Kept k s (profileWaiting s a m x) := by
  refine Kept.ite (fun _ => ?_) fun _ => ?_
  · refine .after (profileMove_kept ?_ ?_) (enterMoving_kept fun _ => .inl hst) <;> simp [enterMoving, hm]
  · refine .of_axis fun _ => .moving (by simp [hm]) (fun ha => ?_) fun hc ha hs => ?_
    · have : axisOk { s.axis a with move := some { m with direction := travelDirection 0 x m } } = axisOk (s.axis a) := by
        simp [axisOk, hm]
      exact ⟨this.trans ha.1, ha.2⟩
    · rw [speedOk_eq] at hs
      simpa [speedFits, hm] using hs

theorem profileWork_kept (a : Axis) (x : Int) : Kept k s (profileWork s a x) := by
  unfold profileWork
  split
  · exact profileStopping_kept ‹_›
  · split
    · exact profileStop_kept ‹_› ‹_›
    · exact profileMove_kept ‹_› ‹_›
  · exact profileSettling_kept ‹_› ‹_›
  · exact profileWaiting_kept ‹_› ‹_›
  · exact .refl s

/-- R100. -/
theorem latchHold_fields (r : AxisRecord) (d : Side) :
    axisOk (latchHold r d) = axisOk r ∧ (latchHold r d).state = r.state ∧ (latchHold r d).setpoint = r.setpoint ∧
      (latchHold r d).move = r.move := by
  cases d <;> exact ⟨rfl, rfl, rfl, rfl⟩

theorem latchHold_kept (a : Axis) (d : Side) : Kept k s (s.withAxis a (latchHold (s.axis a) d)) := by
  obtain ⟨h1, h2, h3, h4⟩ := latchHold_fields (s.axis a) d
  exact .of_axis fun _ => .same h3 h4 fun ha => ⟨h1.trans ha.1, h2 ▸ ha.2⟩

theorem endLimitEdge_kept (a : Axis) (d : Side) : Kept k s (endLimitEdge s a d) := by
  unfold endLimitEdge
  dsimp only
  split
  · exact Kept.ite (fun _ => (latchHold_kept a d).trans ((stopAxis_kept _ _).trans (raiseEvent_kept _))) fun _ => .refl s
  · exact (latchHold_kept a d).trans (raiseEvent_kept _)

/-! ## Set Speed and Move -/

theorem clamp_bounds {l h : Int} (x : Int) (hl : l ≤ h) : l ≤ clamp l h x ∧ clamp l h x ≤ h := by
  unfold clamp
  split
  · omega
  · split <;> omega

theorem setAxisSpeed_kept (a : Axis) (v : Int) : Kept k s (setAxisSpeed s a v) := by
  unfold setAxisSpeed
  split
  · exact .refl s
  · rename_i m hm
    refine .of_axis fun _ => .moving (by simp [hm]) (fun ha => ?_) fun hc ha hs => ?_
    · refine ⟨.trans ?_ ha.1, ha.2⟩
      simp [axisOk, hm]
    · rw [speedOk_eq, speedFits_iff] at hs
      obtain ⟨hr, hmax, hslow, hmv⟩ := hs.resolve_left (by simp [hm])
      obtain ⟨q1, q2, q3, q4⟩ := hmv m hm
      obtain ⟨p1, p2, -⟩ := axisParams_of_recordChecked hc hr a
      obtain ⟨c1, c2⟩ := clamp_bounds v (le_of_lt p2)
      rw [speedFits_iff]
      refine .inr ⟨hr, hmax, hslow, ?_⟩
      rintro _ ⟨⟩
      refine ⟨c1, c2, ?_⟩
      dsimp only
      split
      · exact ⟨c1, ‹_›⟩
      · exact ⟨q3, q4⟩

/-- R83: the record that an axis takes up an accepted move with. -/
def startedRecord (s : State) (a : Axis) (r : AxisRecord) : AxisRecord :=
  match r.state with
  | .parked => { r with state := .releasing, brake := true, brakeTimer := some (s.now + s.conf.brakeSettle) }
  | .holding =>
    { r with
      state := .moving, commanded := (s.position a).map (100 * ·), brakeTimer := none, parkTimer := none, settle := none
      waitTimer := none, profileTimer := some (r.profileTimer.getD (s.now + Config.profilePeriod)) }
  | .settling | .waiting =>
    { r with
      state := .moving, brakeTimer := none, parkTimer := none, settle := none, waitTimer := none
      profileTimer := some (r.profileTimer.getD (s.now + Config.profilePeriod)) }
  | _ => r

theorem startMove_withAxis (s : State) (a : Axis) (r : AxisRecord) :
    startMove (s.withAxis a r) a = s.withAxis a (startedRecord s a r) := by
  obtain ⟨st, sp, br, co, mv, lo, hi, la, t1, t2, t3, se, wa⟩ := r
  cases a <;> cases st <;> rfl

/-- R104: the last outcome of an axis whose move in hand, if it has one, ends REPLACED. -/
def replacedLast (s : State) (a : Axis) : Option LastOutcome :=
  match (s.axis a).move with
  | some m => some ⟨.replaced, m.target, s.position a⟩
  | none => (s.axis a).last

/-- R104: the end REPLACED of a move only clears it. -/
theorem endMove_replaced (s : State) (a : Axis) : endMove s a .replaced = s.withAxis a
    { s.axis a with move := none, last := replacedLast s a } := by
  unfold endMove replacedLast
  cases h : (s.axis a).move with
  | none =>
    dsimp only
    rw [← h]
    cases a <;> rfl
  | some m => cases a <;> rfl

theorem clearHold_fields (r : AxisRecord) (d : Side) (m : Option MoveRecord) :
    axisOk { clearHold r d with move := m } = axisOk { r with move := m } ∧ (clearHold r d).state = r.state ∧
      (clearHold r d).setpoint = r.setpoint := by
  cases d <;> exact ⟨rfl, rfl, rfl⟩

/-- R83: the record with which an axis that may take up a move does so is as its state says. -/
theorem startedRecord_ok {a : Axis} {r : AxisRecord} {m : MoveRecord} (h : axisOk r = true)
    (hs : r.state ≠ .stopping ∧ r.state ≠ .fault) :
    axisOk (startedRecord s a { r with move := some m }) = true ∧ (startedRecord s a { r with move := some m }).state ≠ .waiting ∧
      (startedRecord s a { r with move := some m }).setpoint = r.setpoint ∧
      (startedRecord s a { r with move := some m }).move = some m := by
  cases hst : r.state
  case stopping => exact absurd hst hs.1
  case fault => exact absurd hst hs.2
  case parked => have := (axisOk_parked hst).mp h; simp_all [startedRecord, axisOk]
  case releasing => have := (axisOk_releasing hst).mp h; simp_all [startedRecord, axisOk]
  case holding => have := (axisOk_holding hst).mp h; simp_all [startedRecord, axisOk]
  case moving => have := (axisOk_moving hst).mp h; simp_all [startedRecord, axisOk]
  case settling => have := (axisOk_settling hst).mp h; simp_all [startedRecord, axisOk]
  case waiting => have := (axisOk_waiting hst).mp h; simp_all [startedRecord, axisOk]

end Sys2Proof.Machine

/-! SUPPORT. What the Halt Line Unit, the axis timers and the changes of node state do keeps what `Kept` says. -/

namespace Sys2Proof.Machine

variable {k : Scope} {s : State}

/-! ## The stop of an axis -/

theorem endMove_move (a : Axis) (o : MoveOutcome) : ((endMove s a o).axis a).move = none := by
  unfold endMove
  split
  · assumption
  · rw [recordEnd_axis]

/-- R104: the record of an axis after the end of its move. -/
theorem endMove_axis (a : Axis) (o : MoveOutcome) :
    ∃ l, (endMove s a o).axis a = { s.axis a with move := none, last := l } := by
  unfold endMove
  split
  · rename_i h
    exact ⟨(s.axis a).last, by rw [← h]⟩
  · exact ⟨_, recordEnd_axis s a o _⟩

theorem endMove_other {a b : Axis} (h : b ≠ a) (o : MoveOutcome) : (endMove s a o).axis b = s.axis b := by
  unfold endMove
  split
  · rfl
  · exact recordEnd_other s h o _

theorem stopAxis_other {a b : Axis} (h : b ≠ a) (o : MoveOutcome) : (stopAxis s a o).axis b = s.axis b := by
  have stopped : (enterStopping s a).axis b = s.axis b := by
    unfold enterStopping
    split <;> simp only [enterHolding, withAxis_other s h]
  have parked : (enterParked s a).axis b = s.axis b := by simp only [enterParked, withAxis_other s h]
  unfold stopAxis
  split <;> simp only [endMove_other h, stopped, parked]

/-- R96: an axis that is stopped has no move in hand. -/
theorem stopAxis_move {a : Axis} (ha : axisOk (s.axis a) = true) (o : MoveOutcome) : ((stopAxis s a o).axis a).move = none := by
  unfold stopAxis
  cases hst : (s.axis a).state <;> simp only [endMove_move]
  case parked => exact ((axisOk_parked hst).mp ha).2.2.2.2.2.2.2
  case holding => exact ((axisOk_holding hst).mp ha).2.2.2.2.2.2.2
  case stopping => exact ((axisOk_stopping hst).mp ha).2.2.2.2.2.2
  case fault => exact ((axisOk_fault hst).mp ha).2.2.2.2.2.2.2

/-- R96: a stop leaves an axis in FAULT. -/
theorem stopAxis_fault {a b : Axis} (h : (s.axis a).state = .fault) (o : MoveOutcome) :
    (stopAxis s b o).axis a = s.axis a := by
  by_cases e : a = b
  · subst e
    simp [stopAxis, h]
  · exact stopAxis_other e o

/-! ## The Halt Line (R105 to R108) -/

theorem haltEvent_axis (c : HaltCause) (a : Axis) : (haltEvent s c).axis a = s.axis a := by cases a <;> rfl

theorem lineEdge_kept (b : State) : Kept k s (lineEdge b s) := by
  refine Kept.ite (fun _ => ?_) fun _ => Kept.ite (fun _ => raiseEvent_kept _) fun _ => .refl s
  exact (raiseEvent_kept _).trans ((stopAxis_kept .bridge .halted).trans (stopAxis_kept .trolley .halted))

/-- R108: no axis keeps a move over an asserted edge of the line. -/
theorem lineEdge_move {b : State} {a : Axis} (hb : b.halt.asserted = false) (hs : s.halt.asserted = true)
    (ha : axisOk (s.axis a) = true) : ((lineEdge b s).axis a).move = none := by
  unfold lineEdge
  rw [if_pos (by simp [hb, hs])]
  cases a
  · rw [stopAxis_other (by simp)]
    exact stopAxis_move (by rwa [haltEvent_axis]) _
  · refine stopAxis_move ?_ _
    rw [stopAxis_other (by simp), haltEvent_axis]
    exact ha

theorem lineEdge_fault {b : State} {a : Axis} (h : (s.axis a).state = .fault) : (lineEdge b s).axis a = s.axis a := by
  have he (c : HaltCause) : ((haltEvent s c).axis a).state = .fault := by rw [haltEvent_axis]; exact h
  unfold lineEdge
  split
  · rw [stopAxis_fault (by rw [stopAxis_fault (he _)]; exact he _), stopAxis_fault (he _), haltEvent_axis]
  · split
    · exact haltEvent_axis _ a
    · rfl

theorem lineOk_congr {t : State} (h : t.halt = s.halt) (hn : t.node = s.node) (hr : t.record = s.record)
    (hi : t.inputs = s.inputs) : lineOk t = lineOk s := by
  simp [lineOk, driveDue, lineDue, h, hn, hr, hi]

theorem judgeLine_lineOk : lineOk (judgeLine s) = true := by
  simp [lineOk, judgeLine, driveDue, lineDue]

theorem lineEdge_lineOk (b : State) : lineOk (lineEdge b s) = lineOk s := by
  apply lineOk_congr <;> simp

/-- R107: whatever the line state was, it is then what drive and level make it. -/
theorem refreshLine_lineOk : lineOk (refreshLine s) = true := by
  rw [refreshLine, lineEdge_lineOk]
  exact judgeLine_lineOk

/-- A change of the Halt Line Unit, judged, and the edge of the line that it makes. -/
theorem lineEdge_of_halt {t : State} {h : HaltUnit} (K : Kept k { s with halt := h } t) (ht : t.travel = s.travel)
    (hh : t.halt = h) (hl : lineOk t = true) : Kept k s (lineEdge s t) := by
  refine .of_halt (K.trans (lineEdge_kept s)) (by rw [lineEdge_lineOk]; exact hl) fun hs ha _ a _ hg => ?_
  exact lineEdge_move hs (by rw [hh]; exact ha) (by rw [axis_of_travel ht]; exact hg.1)

theorem refreshLine_kept : Kept k s (refreshLine s) :=
  lineEdge_of_halt (.refl (judgeLine s)) rfl rfl judgeLine_lineOk

/-- The own reasons replaced, and what follows for the line. -/
theorem refreshReasons_kept (r : HaltReasons) :
    Kept k s (refreshLine { s with halt := { s.halt with reasons := r } }) :=
  lineEdge_of_halt (.refl (judgeLine { s with halt := { s.halt with reasons := r } })) rfl rfl judgeLine_lineOk

theorem setReason_kept (r : HaltReason) : Kept k s (setReason s r) :=
  Kept.ite (fun _ => .refl s) fun _ =>
    lineEdge_of_halt (raiseEvent_kept (s := judgeLine { s with halt := { s.halt with reasons := s.halt.reasons.put true r } })
      _) rfl rfl judgeLine_lineOk

/-- R105: a reason set leaves an axis in FAULT. -/
theorem setReason_fault {a : Axis} (h : (s.axis a).state = .fault) (r : HaltReason) : (setReason s r).axis a = s.axis a := by
  have stays (u : State) (hu : u.axis a = s.axis a) : (lineEdge s u).axis a = s.axis a := by
    rw [lineEdge_fault (by rw [hu]; exact h), hu]
  unfold setReason
  split
  · rfl
  · exact stays _ (haltEvent_axis _ a)

/-! ## FAULT (R97, R98, R111) -/

/-- R97: the record of an axis that enters FAULT from a state in which its profile timer runs. -/
theorem axisOk_of_faulted {r : AxisRecord} (h : axisOk r = true) (ht : r.profileTimer.isSome = true) :
    axisOk { r with state := .fault, setpoint := 0, brake := true, profileTimer := none, settle := none, waitTimer := none
                    move := none } = true := by
  refine (axisOk_fault rfl).mpr ?_
  rcases state_of_profileTimer h ht with hs | hs | hs | hs
  · have := (axisOk_moving hs).mp h; simp_all
  · have := (axisOk_settling hs).mp h; simp_all
  · have := (axisOk_waiting hs).mp h; simp_all
  · have := (axisOk_stopping hs).mp h; simp_all

theorem faultAxis_kept {a : Axis} {c : FaultCause} (ht : axisGood s a → (s.axis a).profileTimer.isSome = true) :
    Kept k s (faultAxis s a c) := by
  refine .after (raiseEvent_kept _) ?_
  cases a
  · refine .after (setReason_kept _) (endMove_withAxis_kept fun _ => ?_)
    exact .standing rfl (fun _ => rfl) fun ha => ⟨axisOk_of_faulted (r := s.axis .bridge) ha.1 (ht ha), by simp⟩
  · -- the reason is set before the move ends, with the axis in FAULT and its move still in hand
    have fault : ((s.withAxis .trolley { s.axis .trolley with
        state := .fault, setpoint := 0, brake := true, profileTimer := none, settle := none, waitTimer := none }).axis
          .trolley).state = .fault := rfl
    have ended (u : State) (o : MoveOutcome) : Kept { k with tracked := fun b => k.tracked b ∧ b ≠ .trolley } u
        (endMove u .trolley o) := by
      unfold endMove
      split
      · exact .refl u
      · exact recordEnd_kept fun hk => absurd rfl hk.2
    obtain ⟨l, axis⟩ := endMove_axis (s := setReason (s.withAxis .trolley { s.axis .trolley with
      state := .fault, setpoint := 0, brake := true, profileTimer := none, settle := none, waitTimer := none })
        .following) .trolley .fault
    rw [setReason_fault fault .following] at axis
    refine Kept.track (a := .trolley) ?_ ?_ (endMove_move _ _) fun ha => ?_
    · exact .after (ended _ _) (.after (setReason_kept _) (.of_axis fun hk => absurd rfl hk.2))
    · exact congrArg AxisRecord.setpoint axis
    · rw [axisGood]
      dsimp only
      rw [axis]
      exact ⟨axisOk_of_faulted (r := s.axis .trolley) ha.1 (ht ha), by simp⟩

/-! ## The axis timers (R83, R87, R89, R92, R94) -/

theorem profileAxis_kept {a : Axis} (ht : axisGood s a → (s.axis a).profileTimer.isSome = true) :
    Kept k s (profileAxis s a) := by
  unfold profileAxis
  split
  · exact faultAxis_kept ht
  · exact profileWork_kept a _
  · exact .refl s

/-- R89: the profile timer of an axis that runs one starts again. -/
theorem periodDue_kept {a : Axis} (ht : (s.axis a).profileTimer.isSome = true) : Kept k s (periodDue a s) := by
  refine .after (profileAxis_kept fun _ => by simp) (.of_axis fun _ => .same rfl rfl fun ha => ⟨.trans ?_ ha.1, ha.2⟩)
  simp [axisOk, ht]

theorem brakeDue_kept {a : Axis} (ht : (s.axis a).brakeTimer.isSome = true) : Kept k s (brakeDue a s) := by
  refine .after (enterMoving_kept fun ha => .inr (state_of_brakeTimer ha.1 (by simpa using ht))) ?_
  exact .of_axis fun _ => .same rfl rfl fun ha => ⟨.trans (by simp [axisOk]) ha.1, ha.2⟩

theorem enterParked_due_kept {a : Axis} (ht : (s.axis a).parkTimer.isSome = true) : Kept k s (enterParked s a) :=
  enterParked_kept fun ha => by
    have := (axisOk_holding (state_of_parkTimer ha.1 ht)).mp ha.1
    simp [this]

theorem settleDue_kept (a : Axis) : Kept k s (settleDue a s) := by
  unfold settleDue
  split
  · exact enterHolding_endMove_kept _
  · exact .refl s

theorem waitDue_kept : Kept k s (waitDue s) := Kept.ite (fun _ => enterHolding_endMove_kept _) fun _ => .refl s

/-- R98: an axis in FAULT has no move in hand. -/
theorem recoverAxis_kept (a : Axis) : Kept k s (recoverAxis s a) :=
  Kept.ite (fun h => enterHolding_kept fun ha => by
    have hst : (s.axis a).state = .fault := by simp_all
    have := (axisOk_fault hst).mp ha.1
    simp [this]) fun _ => .refl s

theorem clearHalts_kept : Kept k s (clearHalts s) := by
  refine .after ?_ ((recoverAxis_kept .bridge).trans (recoverAxis_kept .trolley))
  exact refreshReasons_kept _

theorem announceOutbox_kept : Kept k s (announceOutbox s) := Kept.ite (fun _ => .refl s) fun _ => offer_kept _

/-! ## The node state (R15, R46, R47) -/

/-- R47: a record after its arming is cleared. -/
theorem peerAt_clearArmings (t : PeerTable) (r : Nat) : peerAt (clearArmings t) r = { peerAt t r with arming := none } := by
  match r with
  | 0 | 1 | 2 | 3 | 4 | 5 | 6 | 7 | 8 => rfl
  | _ + 9 => rfl

theorem peerOk_arming {p : PeerRecord} (h : peerOk p = true) : peerOk { p with arming := none } = true := by
  simp only [peerOk, Bool.and_eq_true] at *
  simp_all

theorem peersAtEntry_ok (n : NodeState) {r : Nat} (h : peerOk (s.peer r) = true) :
    peerOk (peerAt (peersAtEntry s n).table r) = true := by
  have cleared : peerOk (peerAt (if s.node = .active then { s.peers with isolation := none, table := clearArmings s.peers.table }
      else s.peers).table r) = true := by
    split
    · rw [peerAt_clearArmings]
      exact peerOk_arming h
    · exact h
  cases n <;> first | exact h | exact cleared

/-- What follows the change of node state at an entry to it. -/
theorem enterNode_after_kept {m : NodeState} : Kept k (refreshLine (changeNode s m)) (enterNode s m) := by
  cases m
  case unconfigured => exact .refl _
  case listening => exact closeQuery_kept
  case joinBlocked => exact (withdraw_kept _).trans (closeQuery_kept.trans announceOutbox_kept)
  case voided => exact (offer_kept _).trans (closeQuery_kept.trans announceOutbox_kept)
  case active => exact (offer_kept _).trans (announceOutbox_kept.trans scanLater_kept)
  all_goals exact (offer_kept _).trans announceOutbox_kept

/-- R106, R107: an entry to a node state leaves the line as drive and level make it. -/
theorem enterNode_lineOk (m : NodeState) : lineOk (enterNode s m) = true :=
  (enterNode_after_kept (k := ⟨True, True, True, fun _ => True, fun _ => True⟩)).line refreshLine_lineOk

/-- An entry to a node state, with the listen window and the own claim record as they stand then. -/
theorem enterNode_of_claim {m : NodeState} {l : Option Nat} {c : ClaimRecord} {b : Bool} (hm : m ≠ .unconfigured)
    (hk : k.configured → s.node ≠ .unconfigured) (hc : claimless m = true → claimOk s = true → c = .reset) :
    Kept k s (enterNode { s with listen := l, claim := c, scanDue := b } m) := by
  refine .of_node (.after enterNode_after_kept (.after refreshLine_kept (raiseEvent_kept _))) (enterNode_lineOk m) hm hk ?_
    (fun r _ h => peersAtEntry_ok (s := { s with listen := l, claim := c, scanDue := b }) m h) hc
  cases m <;> simp [listenAtEntry]

theorem enterNode_kept {m : NodeState} (hm : m ≠ .unconfigured) (hk : k.configured → s.node ≠ .unconfigured)
    (hc : claimless m = true → s.claim = .reset) : Kept k s (enterNode s m) :=
  enterNode_of_claim (l := s.listen) (b := s.scanDue) hm hk fun h _ => hc h

theorem blockJoin_kept (hk : k.configured → s.node ≠ .unconfigured) : Kept k s (blockJoin s) :=
  enterNode_of_claim (l := s.listen) (c := .reset) (b := true) (by simp) hk fun _ _ => rfl

theorem isolateNode_kept (hn : s.node = .active) : Kept k s (isolateNode s) := by
  refine .after shrink_kept (.after (isolateAxis_kept _) (.after (isolateAxis_kept _) (.after clearWanted_kept ?_)))
  exact enterNode_kept (by simp) (fun _ => by simp [hn]) (by simp [claimless])

theorem removeClaim_kept : Kept k s (removeClaim s) :=
  .after scanLater_kept (.after (.of_claim fun _ _ => rfl) withdrawClaimFrame_kept)

theorem voidNode_kept (hn : s.node ≠ .unconfigured) : Kept k s (voidNode s) := by
  have removed : Kept k s (removeClaim (taskVoided s)) := .after removeClaim_kept taskVoided_kept
  refine .after (claimEvent_kept _) (.after (setReason_kept _) (.after (stopAxis_kept _ _) (.after (stopAxis_kept _ _) ?_)))
  exact removed.trans (enterNode_kept (by simp) (fun _ => removed.node hn) fun _ => rfl)

theorem reportVoid_kept : Kept k s (reportVoid s) := by
  unfold reportVoid
  split
  all_goals first | exact .refl s | exact voidNode_kept (by simp [*])

theorem heardAnyPeer_kept : Kept k s (heardAnyPeer s) := by
  unfold heardAnyPeer
  split
  · exact .of_peers fun _ _ h => h
  · exact enterNode_kept (by simp) (fun _ => by simp [*]) (by simp [claimless])
  · exact .refl s

/-! ## Re-tests (R60, R65) -/

theorem retestJoin_kept : Kept k s (retestJoin s) := by
  refine Kept.ite (fun hn => ?_) fun _ => .refl s
  split
  · refine Kept.ite (fun _ => withdrawClaimFrame_kept.trans (blockJoin_kept fun _ => ?_)) fun _ => .refl s
    simp [withdrawClaimFrame, hn]
  · exact .refl s

/-- An own extension ends. -/
theorem dropPending_kept : Kept k s (withClaim s { s.claim with pending := none }) :=
  .of_claim fun _ e => by rw [e]; rfl

theorem retestExtend_kept : Kept k s (retestExtend s) := by
  unfold retestExtend
  split
  · refine Kept.ite (fun _ => .after retryIfWanted_kept ?_) fun _ => .refl s
    exact withdrawClaimFrame_kept.trans (.of_claim fun _ e => by
      have : s.claim = .reset := by simpa [withdrawClaimFrame] using e
      rw [this]; rfl)
  · exact .refl s

theorem retest_kept : Kept k s (retest s) := retestJoin_kept.trans retestExtend_kept

/-! ## The own Join and Extend (R14, R60, R61, R66, R70) -/

theorem formJoin_kept (hn : s.node = .listening) (i : Interval) : Kept k s (formJoin s i) := by
  refine Kept.ite (fun _ => blockJoin_kept fun _ => by simp [hn]) fun _ => (offer_kept (.join i)).trans ?_
  exact .of_link id (.inl rfl) (fun _ => by simp [Config.sequenceModulus]) fun a b c d => ⟨a, b, c, d⟩

theorem endListening_kept : Kept k s (endListening s) := by
  have stopped : Kept k s { s with listen := none } := .of_listen (.inl rfl)
  refine Kept.ite (fun _ => stopped) fun hn => ?_
  have hn : s.node = .listening := by simpa using hn
  refine Kept.ite (fun _ => ?_) fun _ => ?_
  · exact stopped.trans (enterNode_of_claim (s := { s with listen := none }) (l := none) (b := true) (by simp) (fun _ => by simp [hn])
      (by simp [claimless]))
  · split
    · exact .of_listen (.inr hn)
    · exact stopped.trans (formJoin_kept (s := { s with listen := none }) hn _)

theorem ownJoinTaken_kept (hk : k.configured → s.node ≠ .unconfigured) (i : Interval) (w : Bool) :
    Kept k s (ownJoinTaken s i w) := by
  refine (enterNode_kept (m := .joining) (by simp) hk (by simp [claimless])).trans ?_
  refine Kept.ite (fun _ => blockJoin_kept fun _ => by simp) fun _ => ?_
  exact .after (setConfirmed_kept (by simp [claimless])) (.of_claim (by simp [claimless]))

theorem ownExtendTaken_kept (f : ExtendFrame) (seq : Nat) (w : Bool) : Kept k s (ownExtendTaken s f seq w) := by
  unfold ownExtendTaken
  split
  · rename_i p i hp hi
    refine Kept.ite (fun _ => .after retryIfWanted_kept (.after (claimEvent_kept _) dropPending_kept)) fun _ => ?_
    exact .of_claim fun _ e => by rw [e] at hp; cases hp
  · exact .refl s

theorem completeJoin_kept (hn : s.node ≠ .unconfigured) : Kept k s (completeJoin s) :=
  enterNode_of_claim (l := s.listen) (c := { s.claim with joinWindow := none }) (b := s.scanDue) (by simp) (fun _ => hn) (by simp [claimless])

theorem joinDue_kept : Kept k s (joinDue s) :=
  Kept.ite (fun hn => completeJoin_kept (by simp [hn])) fun _ => .of_claim fun _ e => by rw [e]; rfl

theorem confirmExtension_kept {p : PendingExtension} {i : Interval} (hi : s.claim.confirmed = some i) :
    Kept k s (confirmExtension s p i) := by
  have recorded : Kept k s (setConfirmed (withClaim s { s.claim with pending := none }) (some (widen i p.side p.edge))) :=
    .after (setConfirmed_kept fun _ e => by
      have := congrArg ClaimRecord.confirmed e
      simp [hi, ClaimRecord.reset] at this) dropPending_kept
  refine .after (Kept.ite (fun _ => clearWanted_kept) fun _ => retryIfWanted_kept) (.after (claimEvent_kept _) ?_)
  exact .after (offer_kept _) recorded

theorem extensionDue_kept : Kept k s (extensionDue s) := by
  unfold extensionDue
  split
  · exact confirmExtension_kept ‹_›
  · exact .refl s

theorem retryDue_kept : Kept k s (retryDue s) :=
  .after extensionAttempt_kept (.of_claim fun _ e => by rw [e]; rfl)

theorem shrinkDue_kept : Kept k s (shrinkDue s) :=
  .after shrinkIfIdle_kept (.of_claim fun _ e => by rw [e]; rfl)

/-- R13: the listen window starts with the entry to LISTENING. -/
theorem startListening_kept (hk : k.configured → s.node ≠ .unconfigured) (hc : claimOk s = true → s.claim = .reset) :
    Kept k s (startListening s) :=
  enterNode_of_claim (b := s.scanDue) (by simp) hk fun _ => hc

end Sys2Proof.Machine

/-! SUPPORT. What the Peer Table, the Hook Weigher and the frames of the Runway Link do keeps what `Kept` says. -/

namespace Sys2Proof.Machine

variable {k : Scope} {s : State}

/-! ## A peer record read after an operation -/

section
variable {r n : Nat}

/-- A rank outside 1..8 has no record. -/
theorem peer_of_no_rank (h : ¬ (1 ≤ n ∧ n ≤ 8)) (s : State) : s.peer n = .reset := by
  match n with
  | 0 => rfl
  | 1 | 2 | 3 | 4 | 5 | 6 | 7 | 8 => exact absurd ⟨by omega, by omega⟩ h
  | _ + 9 => rfl

theorem mapPeer_peer (h : 1 ≤ n ∧ n ≤ 8) (f : PeerRecord → PeerRecord) : (s.mapPeer n f).peer n = f (s.peer n) :=
  peerAt_put _ h _

theorem mapPeer_other (h : r ≠ n) (f : PeerRecord → PeerRecord) : (s.mapPeer n f).peer r = s.peer r :=
  peerAt_put_other _ h _

theorem peer_of_peers {t : State} (h : t.peers = s.peers) (r : Nat) : t.peer r = s.peer r :=
  congrArg (fun p : Peers => peerAt p.table r) h

theorem foldl_peers {α : Type} {f : State → α → State} (hf : ∀ t a, (f t a).peers = t.peers) (l : List α) (s : State) :
    (l.foldl f s).peers = s.peers := by
  induction l generalizing s with
  | nil => rfl
  | cons a l ih => exact (ih _).trans (hf _ _)

theorem markRegion_peers (i : Interval) (rank : Nat) : (markRegion s i rank).peers = s.peers :=
  foldl_peers (f := markRow) (fun _ _ => rfl) _ s

theorem unsureBays_peers (i : Interval) : (unsureBays s i).peers = s.peers := by
  refine foldl_peers (fun t b => ?_) _ s
  split
  · simp
  · rfl

theorem clearForeign_peers (rank : Nat) : (clearForeign s rank).peers = s.peers := by
  refine foldl_peers (fun t b => ?_) _ s
  split
  · simp
  · rfl

theorem handRegion_peers (region : Option Interval) (rank : Nat) : (handRegion s region rank).peers = s.peers := by
  cases region with
  | none => rfl
  | some i => exact (unsureBays_peers i).trans (markRegion_peers i rank)

theorem handRegion_peer (region : Option Interval) (rank : Nat) : (handRegion s region rank).peer r = s.peer r :=
  peer_of_peers (handRegion_peers region rank) r

theorem endFlight_peer (o : ReleaseOutcome) (d : Option Nat) : (endFlight s o d).peer r = s.peer r := by
  unfold endFlight
  split <;> rfl

theorem flightLeavesStale_peer (rank : Nat) : (flightLeavesStale s rank).peer r = s.peer r := by
  unfold flightLeavesStale
  dsimp only
  repeat' split
  all_goals first | rfl | exact endFlight_peer _ _

theorem offers_peers {α : Type} (f : α → Content) (l : List α) : (l.foldl (fun t a => offer t (f a)) s).peers = s.peers :=
  foldl_peers (fun _ _ => offer_peers _ _) l s

theorem denyPending_peer (h : 1 ≤ n ∧ n ≤ 8) : (denyPending s n).peer n = { s.peer n with releasePending := none } := by
  unfold denyPending
  split
  · rename_i hp
    rw [← hp]
  · exact (peer_of_peers (offers_peers _ _) n).trans (mapPeer_peer h _)

theorem leaveStale_peer (h : 1 ≤ n ∧ n ≤ 8) : (leaveStale s n).peer n =
    if (s.peer n).presence = .stale then { s.peer n with releasePending := none, arming := none } else s.peer n := by
  unfold leaveStale
  split
  · rw [mapPeer_peer h, flightLeavesStale_peer, denyPending_peer h]
  · rfl

theorem setPresence_peer (h : 1 ≤ n ∧ n ≤ 8) (p : Presence) :
    (setPresence s n p).peer n = { s.peer n with presence := p } := by
  unfold setPresence
  dsimp only
  split
  · exact mapPeer_peer h _
  · exact (peer_of_peers (raiseEvent_peers _ _) n).trans (mapPeer_peer h _)

theorem enterNode_peers (m : NodeState) : (enterNode s m).peers = peersAtEntry s m := by
  cases m <;> simp [enterNode, changeNode]

theorem enterNode_presence (m : NodeState) : ((enterNode s m).peer r).presence = (s.peer r).presence := by
  rw [State.peer, enterNode_peers]
  have cleared : (peerAt (if s.node = .active then { s.peers with isolation := none, table := clearArmings s.peers.table }
      else s.peers).table r).presence = (s.peer r).presence := by
    split
    · rw [peerAt_clearArmings]
      rfl
    · rfl
  cases m <;> first | rfl | exact cleared

theorem retest_presence : ((retest s).peer r).presence = (s.peer r).presence := by
  have extend (t : State) : (retestExtend t).peer r = t.peer r := by
    refine peer_of_peers ?_ r
    unfold retestExtend
    split
    · split
      · simp [withdrawClaimFrame]
      · rfl
    · rfl
  unfold retest
  rw [extend]
  unfold retestJoin
  split
  · split
    · split
      · exact enterNode_presence _
      · rfl
    · rfl
  · rfl

theorem heardAnyPeer_presence : ((heardAnyPeer s).peer r).presence = (s.peer r).presence := by
  unfold heardAnyPeer
  split
  · rfl
  · exact enterNode_presence _
  · rfl

end

/-! ## Peer records kept (R37, R41, R47) -/

/-- A record changed as its presence allows. -/
theorem mapPeer_kept {n : Nat} {f : PeerRecord → PeerRecord}
    (h : k.ranks n → 1 ≤ n ∧ n ≤ 8 → peerOk (s.peer n) = true → peerOk (f (s.peer n)) = true) : Kept k s (s.mapPeer n f) := by
  refine .of_peers fun r hr hp => ?_
  by_cases e : r = n
  · subst e
    by_cases hrange : 1 ≤ r ∧ r ≤ 8
    · exact (show peerOk ((s.mapPeer r f).peer r) = true by rw [mapPeer_peer hrange]; exact h hr hrange hp)
    · exact (show peerOk ((s.mapPeer r f).peer r) = true by rw [peer_of_no_rank hrange]; rfl)
  · exact (show peerOk ((s.mapPeer n f).peer r) = true by rw [mapPeer_other e]; exact hp)

/-- Work that leaves one record in question, and leaves it in the end as its presence allows. -/
theorem Kept.one_rank {n : Nat} {t : State} (K : Kept { k with ranks := fun r => k.ranks r ∧ r ≠ n } s t)
    (h : 1 ≤ n ∧ n ≤ 8 → peerOk (s.peer n) = true → peerOk (t.peer n) = true) : Kept k s t := by
  refine .rank K fun hp => ?_
  by_cases hrange : 1 ≤ n ∧ n ≤ 8
  · exact h hrange hp
  · rw [peer_of_no_rank hrange]
    rfl

/-- A record that is not looked at. -/
theorem mapPeer_untracked {n : Nat} {f : PeerRecord → PeerRecord} :
    Kept { k with ranks := fun r => k.ranks r ∧ r ≠ n } s (s.mapPeer n f) :=
  mapPeer_kept fun h => absurd rfl h.2

theorem endFlight_kept (o : ReleaseOutcome) (d : Option Nat) : Kept k s (endFlight s o d) := by
  unfold endFlight
  split
  · exact .refl s
  · exact .after (raiseEvent_kept _) (.of_peers fun _ _ h => h)

theorem flightLeavesStale_kept (rank : Nat) : Kept k s (flightLeavesStale s rank) := by
  unfold flightLeavesStale
  dsimp only
  split
  · refine Kept.ite (fun _ => ?_) fun _ => .refl s
    refine Kept.ite (fun _ => endFlight_kept _ _) fun _ => ?_
    exact Kept.ite (fun _ => withdraw_kept _) fun _ => (withdraw_kept _).trans (endFlight_kept _ _)
  · exact .refl s

theorem denyPending_kept (rank : Nat) : Kept k s (denyPending s rank) := by
  unfold denyPending
  split
  · exact .refl s
  · refine .after (.foldl _ (fun _ _ _ => offer_kept _) _) (mapPeer_kept fun _ _ h => ?_)
    simp only [peerOk, Bool.and_eq_true] at *
    simp_all

theorem leaveStale_kept (rank : Nat) : Kept k s (leaveStale s rank) :=
  Kept.ite (fun _ => .after (mapPeer_kept fun _ _ => peerOk_arming) (.after (flightLeavesStale_kept _) (denyPending_kept _)))
    fun _ => .refl s

theorem setPresence_kept {n : Nat} {p : Presence}
    (h : k.ranks n → 1 ≤ n ∧ n ≤ 8 → peerOk (s.peer n) = true → peerOk { s.peer n with presence := p } = true) :
    Kept k s (setPresence s n p) := by
  unfold setPresence
  dsimp only
  exact Kept.ite (fun _ => mapPeer_kept h) fun _ => .after (raiseEvent_kept _) (mapPeer_kept h)

theorem setPresence_untracked {n : Nat} {p : Presence} :
    Kept { k with ranks := fun r => k.ranks r ∧ r ≠ n } s (setPresence s n p) :=
  setPresence_kept fun h => absurd rfl h.2

theorem handIf_kept (c : Bool) (region : Option Interval) (rank : Nat) :
    Kept k s (if c then handRegion s region rank else s) :=
  Kept.ite (fun _ => handRegion_kept _ _) fun _ => .refl s

theorem handIf_peer (c : Bool) (region : Option Interval) (rank r : Nat) :
    (if c then handRegion s region rank else s).peer r = s.peer r := by
  split
  · exact handRegion_peer _ _
  · rfl

/-- R38, R40: the Peer Table's own work at a frame of a sender that is not RELEASED. -/
def notedWork (s : State) (sender seq : Nat) (isReport : Bool) : State :=
  let p := s.peer sender
  let gap := showsGap p.lastSeq seq
  let s := s.mapPeer sender fun q => { q with silence := some (s.now + silenceTimeoutOf s.conf) }
  let s := if gap then handRegion s (handedRegion p) sender else s
  let s := s.mapPeer sender fun q => { q with lastSeq := some seq }
  setPresence (leaveStale s sender) sender (presenceAfter p.presence isReport gap)

theorem noteFrame_eq (s : State) (sender seq : Nat) (isReport : Bool) :
    noteFrame s sender seq isReport = heardAnyPeer (retest (notedWork s sender seq isReport)) := rfl

/-- R38, R40: the record of a frame's sender after that work. -/
theorem notedWork_peer {sender : Nat} (hr : 1 ≤ sender ∧ sender ≤ 8) (seq : Nat) (isReport : Bool) :
    (notedWork s sender seq isReport).peer sender =
      let p := s.peer sender
      let q := { p with silence := some (s.now + silenceTimeoutOf s.conf), lastSeq := some seq
                        presence := presenceAfter p.presence isReport (showsGap p.lastSeq seq) }
      if p.presence = .stale then { q with releasePending := none, arming := none } else q := by
  unfold notedWork
  simp only [setPresence_peer hr, leaveStale_peer hr, mapPeer_peer hr, handIf_peer]
  split <;> rfl

/-- R40: a frame makes its sender LIVE or DOUBTFUL. -/
theorem presenceAfter_heard {p : Presence} (h : p ≠ .released) (isReport gap : Bool) :
    presenceAfter p isReport gap = .live ∨ presenceAfter p isReport gap = .doubtful := by
  cases p <;> cases isReport <;> cases gap <;> simp_all [presenceAfter]

theorem notedWork_kept {sender : Nat} (h : (s.peer sender).presence ≠ .released) (seq : Nat) (isReport : Bool) :
    Kept k s (notedWork s sender seq isReport) := by
  refine .one_rank (n := sender) ?_ fun hr hp => ?_
  · exact .after setPresence_untracked (.after (leaveStale_kept _) (.after mapPeer_untracked
      (.after (handIf_kept _ _ _) mapPeer_untracked)))
  · rw [notedWork_peer hr]
    have := presenceAfter_heard h isReport (showsGap (s.peer sender).lastSeq seq)
    simp only [peerOk, Bool.and_eq_true] at hp
    obtain ⟨⟨⟨h1, h2⟩, h3⟩, -⟩ := hp
    dsimp only
    split
    · rcases this with e | e <;> simp [peerOk, e]
    · rcases this with e | e <;> simp_all [peerOk]

theorem noteFrame_kept {sender : Nat} (h : (s.peer sender).presence ≠ .released) (seq : Nat) (isReport : Bool) :
    Kept k s (noteFrame s sender seq isReport) :=
  .after heardAnyPeer_kept (.after retest_kept (notedWork_kept h seq isReport))

/-- The rank has no record, or one that is neither ABSENT nor RELEASED. -/
def known (s : State) (n : Nat) : Prop :=
  1 ≤ n ∧ n ≤ 8 → (s.peer n).presence ≠ .absent ∧ (s.peer n).presence ≠ .released

theorem noteFrame_known {sender : Nat} (h : (s.peer sender).presence ≠ .released) (seq : Nat) (isReport : Bool) :
    known (noteFrame s sender seq isReport) sender := by
  intro hr
  rw [noteFrame_eq, heardAnyPeer_presence, retest_presence, notedWork_peer hr]
  have := presenceAfter_heard h isReport (showsGap (s.peer sender).lastSeq seq)
  dsimp only
  split <;> rcases this with e | e <;> simp [e]

theorem withhold_kept (sender seq : Nat) : Kept k s (withhold s sender seq) :=
  .after heardAnyPeer_kept (.after (offer_kept _) (mapPeer_kept fun _ _ h => h))

theorem hearFrame_kept {sender : Nat} (seq : Nat) (isReport : Bool) {handle : State → State}
    (h : ∀ t, known t sender → Kept k t (handle t)) : Kept k s (hearFrame s sender seq isReport handle) :=
  Kept.ite (fun _ => withhold_kept _ _) fun hp => (noteFrame_kept hp _ _).trans (h _ (noteFrame_known hp _ _))

/-- R41: STALE. -/
theorem silencePeer_kept (rank : Nat) : Kept k s (silencePeer s rank) := by
  refine .after retest_kept (.one_rank (n := rank) (.after setPresence_untracked mapPeer_untracked) fun hr hp => ?_)
  rw [setPresence_peer hr, mapPeer_peer hr]
  simp [peerOk]

/-! ## Joins, Extends and reported claims (R43, R62, R67, R68, R71, R72) -/

/-- R43: the record of a Join's sender, LIVE anew. -/
def joinedWork (s : State) (sender seq : Nat) : State :=
  setPresence ((leaveStale s sender).mapPeer sender fun q =>
    { q with
      lastSeq := some seq, silence := some ((leaveStale s sender).now + silenceTimeoutOf (leaveStale s sender).conf)
      lastReport := none, extension := none, arming := none, releasePending := none }) sender .live

theorem joinedWork_peer {sender : Nat} (hr : 1 ≤ sender ∧ sender ≤ 8) (seq : Nat) :
    peerOk ((joinedWork s sender seq).peer sender) = true ∧ ((joinedWork s sender seq).peer sender).presence = .live := by
  rw [joinedWork, setPresence_peer hr, mapPeer_peer hr]
  simp [peerOk]

theorem joinedWork_kept (sender seq : Nat) : Kept k s (joinedWork s sender seq) :=
  .one_rank (n := sender) (.after setPresence_untracked (.after mapPeer_untracked (leaveStale_kept _)))
    fun hr _ => (joinedWork_peer hr seq).1

theorem resetForJoin_kept (sender seq : Nat) : Kept k s (resetForJoin s sender seq) :=
  .after heardAnyPeer_kept (.after (clearForeign_kept _)
    (.after (t := joinedWork s sender seq) (Kept.ite (fun _ => handRegion_kept _ _) fun _ => .refl _) (joinedWork_kept _ _)))

theorem resetForJoin_known (sender seq : Nat) : known (retest (resetForJoin s sender seq)) sender := by
  intro hr
  have live : ((resetForJoin s sender seq).peer sender).presence = .live := by
    refine heardAnyPeer_presence.trans ?_
    rw [peer_of_peers (clearForeign_peers _)]
    have := (joinedWork_peer (s := s) hr seq).2
    split
    · rw [handRegion_peer]
      exact this
    · exact this
  rw [retest_presence, live]
  simp

/-- R37: a claim may be recorded of a peer that is neither ABSENT nor RELEASED. -/
theorem peerOk_claim {p : PeerRecord} (h : peerOk p = true) (hp : p.presence ≠ .absent ∧ p.presence ≠ .released)
    (c : Option Interval) : peerOk { p with claim := c } = true := by
  simp only [peerOk, Bool.and_eq_true] at *
  simp_all

theorem peerOk_no_claim {p : PeerRecord} (h : peerOk p = true) : peerOk { p with claim := none } = true := by
  simp only [peerOk, Bool.and_eq_true] at *
  simp_all

theorem admitJoin_kept {sender : Nat} (h : known s sender) (i : Interval) : Kept k s (admitJoin s sender i) := by
  refine .after retest_kept (Kept.after (t := s.mapPeer sender fun q =>
    { q with claim := if joinVoid s sender i then none else some i
             joinWindow := some ⟨s.now + objectionWindowOf s.conf, !joinVoid s sender i⟩ }) ?_ ?_)
  · exact Kept.ite (fun _ => offer_kept _) fun _ => .refl _
  · exact mapPeer_kept fun _ hr hp => peerOk_claim hp (h hr) _

theorem peerJoin_kept (sender seq : Nat) (i : Interval) : Kept k s (peerJoin s sender seq i) :=
  .after (admitJoin_kept (resetForJoin_known sender seq) i) (.after retest_kept (resetForJoin_kept _ _))

/-- R67: the record that the view sequence shows a gap of becomes DOUBTFUL. -/
theorem compareView_kept (sender : Nat) (f : ExtendFrame) : Kept k s (compareView s sender f) := by
  unfold compareView
  dsimp only
  split
  · exact .refl s
  · refine Kept.ite (fun hv => .after retest_kept (.one_rank (n := adjacentRank sender f.side) ?_ fun hr hp => ?_)) fun _ => .refl s
    · exact .after setPresence_untracked (.after mapPeer_untracked (handRegion_kept _ _))
    · rw [setPresence_peer hr, mapPeer_peer hr, handRegion_peer]
      simp only [viewShowsGap, Bool.and_eq_true, Bool.or_eq_true, beq_iff_eq] at hv
      simp only [peerOk, Bool.and_eq_true] at *
      rcases hv.1.2 with e | e <;> simp_all

theorem recordExtend_kept (sender seq : Nat) (f : ExtendFrame) : Kept k s (recordExtend s sender seq f) := by
  have cleared : Kept k s (s.mapPeer sender fun q => { q with extension := none }) := mapPeer_kept fun _ _ h => h
  refine cleared.trans (Kept.ite (fun _ => .after retest_kept (offer_kept _)) fun _ => ?_)
  exact .after retest_kept (mapPeer_kept fun _ _ h => h)

theorem peerExtend_kept (sender seq : Nat) (f : ExtendFrame) : Kept k s (peerExtend s sender seq f) :=
  (compareView_kept _ _).trans (recordExtend_kept _ _ _)

theorem recordClaim_kept {sender : Nat} (h : known s sender) (i : Interval) : Kept k s (recordClaim s sender i) := by
  unfold recordClaim
  dsimp only
  refine .after retest_kept (Kept.after (mapPeer_kept fun _ hr hp => peerOk_claim hp ?_ (some i))
    (Kept.ite (fun _ => setReason_kept _) fun _ => .refl s))
  have : (if claimConflict s sender i then setReason s .claimConflict else s).peers = s.peers := by split <;> simp
  rw [peer_of_peers this]
  exact h hr

theorem peerReport_kept {sender : Nat} (f : ReportFrame) (h : known s sender) : Kept k s (peerReport sender f s) := by
  have noted : Kept k s (s.mapPeer sender fun q =>
      { q with lastReport := some ⟨f.nodeState, f.position, f.speed, f.hookLoad, f.hookCoil⟩ }) := mapPeer_kept fun _ _ h => h
  refine noted.trans (Kept.ite (fun _ => .refl _) fun _ => ?_)
  split
  · exact .after retest_kept (mapPeer_kept fun _ _ h => peerOk_no_claim h)
  · refine recordClaim_kept (fun hr => ?_) _
    rw [mapPeer_peer hr]
    exact h hr

theorem peerJoinDue_kept (rank : Nat) : Kept k s (peerJoinDue rank s) := .after retest_kept (mapPeer_kept fun _ _ h => h)

/-! ## Objections and Releases (R45, R47 to R52, R69) -/

theorem overlapOwn_kept (sender seq : Nat) : Kept k s (overlapOwn s sender seq) := by
  refine Kept.ite (fun h => ?_) fun _ => ?_
  · have hn : s.node = .joining := by simp_all
    exact blockJoin_kept fun _ => by simp [hn]
  · split
    · exact Kept.ite (fun _ => .after retryIfWanted_kept (.after (claimEvent_kept _) dropPending_kept)) fun _ => .refl s
    · exact .refl s

theorem overlapPeer_kept (rank seq : Nat) : Kept k s (overlapPeer s rank seq) :=
  Kept.ite (fun _ => .after retest_kept (mapPeer_kept fun _ _ h => peerOk_no_claim h)) fun _ =>
    Kept.ite (fun _ => .after retest_kept (mapPeer_kept fun _ _ h => h)) fun _ => .refl s

theorem endFlightOf_kept (rank : Nat) (o : ReleaseOutcome) (d : Option Nat) : Kept k s (endFlightOf s rank o d) := by
  unfold endFlightOf
  split
  · exact Kept.ite (fun _ => .after (endFlight_kept _ _) (Kept.ite (fun _ => .refl s) fun _ => withdraw_kept _)) fun _ => .refl s
  · exact .refl s

theorem peerOk_no_pending {p : PeerRecord} (h : peerOk p = true) : peerOk { p with releasePending := none } = true := by
  simp only [peerOk, Bool.and_eq_true] at *
  simp_all

theorem denyAt_kept (denier target seq rank : Nat) : Kept k s (denyAt denier target seq s rank) :=
  Kept.ite (fun _ => .after (endFlightOf_kept _ _ _) (mapPeer_kept fun _ _ => peerOk_no_pending)) fun _ => .refl s

theorem objectionTaken_kept (sender : Nat) (f : ObjectionFrame) : Kept k s (objectionTaken sender f s) := by
  unfold objectionTaken
  split
  · exact Kept.ite (fun _ => overlapOwn_kept _ _) fun _ => overlapPeer_kept _ _
  · exact Kept.ite (fun _ => reportVoid_kept) fun _ => .refl s
  · exact Kept.foldl _ (fun _ _ _ => denyAt_kept _ _ _ _) s

/-- R50: a Release joins the release pending of a STALE record. -/
theorem holdPending_kept {sender seq : Nat} {f : ReleaseFrame} (h : (s.peer f.rank).presence = .stale) :
    Kept k s (holdPending s sender seq f) := by
  have handed : Kept k s (if (s.peer f.rank).lastSeq = some f.lastSeq then s
      else handRegion s (handedRegion (s.peer f.rank)) f.rank) := Kept.ite (fun _ => .refl s) fun _ => handRegion_kept _ _
  unfold holdPending
  dsimp only
  refine handed.trans (mapPeer_kept fun _ _ hp => ?_)
  have same : (if (s.peer f.rank).lastSeq = some f.lastSeq then s
      else handRegion s (handedRegion (s.peer f.rank)) f.rank).peer f.rank = s.peer f.rank := by
    split
    · rfl
    · exact handRegion_peer _ _
  rw [same] at hp ⊢
  simp only [peerOk, Bool.and_eq_true] at *
  simp_all

theorem peerRelease_kept (sender seq : Nat) (f : ReleaseFrame) : Kept k s (peerRelease sender seq f s) := by
  refine Kept.ite (fun _ => reportVoid_kept) fun _ => Kept.ite (fun _ => .refl s) fun _ => ?_
  split
  · exact offer_kept _
  · exact offer_kept _
  · exact holdPending_kept ‹_›
  · exact .refl s
  · exact .refl s

theorem ownReleaseTaken_kept (seq : Nat) (f : ReleaseFrame) : Kept k s (ownReleaseTaken s seq f) := by
  refine Kept.ite (fun h => (holdPending_kept h).trans (Kept.ite (fun _ => .of_peers fun _ _ h => h) fun _ => .refl _))
    fun _ => Kept.ite (fun _ => endFlight_kept _ _) fun _ => .refl s

/-- R51: RELEASED. -/
theorem releasePeer_kept (rank : Nat) : Kept k s (releasePeer s rank) := by
  refine .after retest_kept (.after (endFlightOf_kept _ _ _) (.after (clearForeign_kept _) (.one_rank (n := rank) ?_ ?_)))
  · exact .after setPresence_untracked (.after (handRegion_kept _ _) mapPeer_untracked)
  · intro hr _
    rw [setPresence_peer hr, handRegion_peer, mapPeer_peer hr]
    simp [peerOk]

/-! ## The frames of the link (R16 to R21, R36) -/

theorem countUp_le {n : Nat} (h : n ≤ Config.counterTop) : countUp n ≤ Config.counterTop := by
  unfold countUp
  split <;> omega

theorem countCheckError_kept : Kept k s (countCheckError s) :=
  .of_link id (.inl rfl) id fun a b c d => ⟨countUp_le a, b, c, d⟩

theorem countReceived_kept : Kept k s (countReceived s) :=
  .of_link id (.inl rfl) id fun a b c d => ⟨a, b, countUp_le c, d⟩

theorem receive_kept {sender : Nat} {wellCoded : Bool} {deliver : State → State} (h : ∀ t, Kept k t (deliver t)) :
    Kept k s (receive s sender wellCoded deliver) :=
  Kept.ite (fun _ => countCheckError_kept) fun _ =>
    countReceived_kept.trans (Kept.ite (fun _ => (h _).trans finish_kept) fun _ => .refl _)

/-- R16, R30: an attempt begins in a configured node alone, and is a change of queue and attempt. -/
theorem beginAttempt_cases (s : State) : beginAttempt s = s ∨ s.node ≠ .unconfigured ∧
    ∃ q a, beginAttempt s = { s with link := { s.link with queue := q, attempt := some a } } := by
  unfold beginAttempt
  split
  · split
    · rename_i h
      exact .inr ⟨fun e => by simp [e, mayOffer] at h, _, _, rfl⟩
    · exact .inl rfl
  · exact .inl rfl

theorem beginAttempt_kept : Kept k s (beginAttempt s) := by
  have hq := beginAttempt_queue (s := s)
  rcases beginAttempt_cases s with e | ⟨hn, q, a, e⟩ <;> rw [e] at hq ⊢
  · exact .refl s
  · exact .of_link hq (.inr (.inl hn)) id fun a b c d => ⟨a, b, c, d⟩

theorem loseAttempt_kept : Kept k s (loseAttempt s) := by
  unfold loseAttempt
  split
  · exact .refl s
  · dsimp only
    have lost : Kept k s { s with link := { s.link with
        queue := s.link.queue.filterMap lostEntry, attempt := none, counters := countLoss s.link.counters } } := by
      refine .of_link (fun h => ?_) (.inr (.inr rfl)) id fun a b c _ => ⟨a, b, c, ?_⟩
      · rw [queueOk_iff] at *
        exact lostEntries_kept h
      · exact Nat.le_of_lt_succ (Nat.mod_lt _ (Nat.succ_pos _))
    exact Kept.ite (fun _ => lost.trans (endFlight_kept _ _)) fun _ => lost

theorem closeAttempt_kept (a : Attempt) : Kept k s (closeAttempt s a) := by
  have outbox : Kept k s { s with store := { s.store with outbox := s.store.outbox.drop a.carried } } := .of_lists rfl rfl rfl
  refine outbox.trans (.of_link (fun h => ?_) (.inr (.inr rfl)) (fun _ => Nat.mod_lt _ (by decide)) fun a b c d =>
    ⟨a, countUp_le b, c, d⟩)
  rw [queueOk_iff] at *
  exact queueAfterTaken_kept h _ _

theorem ownQueryTaken_kept (f : SlotQueryFrame) : Kept k s (ownQueryTaken s f) := by
  unfold ownQueryTaken
  split
  · exact Kept.ite (fun _ => .of_lists rfl rfl rfl) fun _ => .refl s
  · exact .refl s

theorem deliverOwn_kept (hk : k.configured → s.node ≠ .unconfigured) (a : Attempt) (w : Bool) :
    Kept k s (deliverOwn s a w) := by
  unfold deliverOwn
  split
  · exact ownJoinTaken_kept hk _ _
  · exact ownExtendTaken_kept _ _ _
  · exact objectionTaken_kept _ _
  · exact ownReleaseTaken_kept _ _
  · exact ownQueryTaken_kept _
  all_goals exact .refl s

/-- R18: an attempt that runs is a configured node's. -/
theorem takeAttempt_kept (hk : k.configured → s.link.attempt.isSome = true → s.node ≠ .unconfigured) :
    Kept k s (takeAttempt s) := by
  unfold takeAttempt
  split
  · exact .refl s
  · rename_i a ha
    have closed := closeAttempt_kept (k := k) (s := s) a
    exact .after finish_kept (closed.trans (deliverOwn_kept (fun h => closed.node (hk h (by simp [ha]))) _ _))

theorem planAnswer_kept (f : SlotQueryFrame) : Kept k s (planAnswer f s) :=
  Kept.ite (fun _ => .of_lists rfl rfl rfl) fun _ => .refl s

theorem makeWayTaken_kept (sender : Nat) (f : MakeWayFrame) : Kept k s (makeWayTaken sender f s) :=
  Kept.ite (fun _ => raiseEvent_kept _) fun _ => .refl s

theorem bayNoticeTaken_kept (sender : Nat) (f : Body BayNoticeFrame) : Kept k s (bayNoticeTaken sender f s) := by
  cases f
  · exact applyBayNotice_kept _ _
  · exact .refl s

/-! ## The Hook Weigher (Chapter 7) -/

theorem weightFault_kept (c : WeightCause) : Kept k s (weightFault s c) := raiseEvent_kept _

/-- The weigher replaced by one with the same window and count of lost samples. -/
theorem withWeigher_kept {w : Weigher} (hl : w.lost = s.weigher.lost) (hw : w.window = s.weigher.window) :
    Kept k s (withWeigher s w) := .of_weigher (by rw [hl]; exact id) (by rw [hw]; exact id)

theorem joinWindow_length {l : List Int} (g : Int) (h : l.length ≤ Config.windowCapacity) :
    (joinWindow l g).length ≤ Config.windowCapacity := by
  simp only [joinWindow, List.length_drop, List.length_append, List.length_singleton]
  omega

theorem handOn_kept (act : HookAct) (net filtered : Int) : Kept k s (handOn s act net filtered) := by
  cases act
  · exact (taskLift_kept _).trans (raiseEvent_kept _)
  · exact (taskSet_kept _).trans (raiseEvent_kept _)
  · exact (setReason_kept _).trans taskSnag_kept
  · exact (setReason_kept _).trans taskLoadLost_kept

theorem evaluateHook_kept (net filtered : Int) : Kept k s (evaluateHook s net filtered) := by
  refine Kept.ite (fun _ => .refl s) fun _ => ?_
  split
  · exact .after (lowHookEdge_kept _) (.after (handOn_kept _ _ _) (withWeigher_kept rfl rfl))
  · exact .after (lowHookEdge_kept _) (withWeigher_kept rfl rfl)

theorem judgeOverload_kept (net : Int) : Kept k s (judgeOverload s net) :=
  Kept.ite (fun _ => Kept.ite (fun _ => .refl s) fun _ => .after (weightFault_kept _) (withWeigher_kept rfl rfl))
    fun _ => withWeigher_kept rfl rfl

theorem takeSample_kept (raw : Int) : Kept k s (takeSample s raw) := by
  have armed : Kept k s (withWeigher s
      { s.weigher with converter := .armed, raw := some raw, timer := some (s.now + Config.sampleTimeout) }) :=
    withWeigher_kept rfl rfl
  refine armed.trans (Kept.ite (fun _ => ?_) fun _ => ?_)
  · unfold overrangeSample
    dsimp only
    exact Kept.ite (fun _ => .after (weightFault_kept _) (withWeigher_kept rfl rfl)) fun _ => withWeigher_kept rfl rfl
  · refine .after (judgeOverload_kept _) (.after (evaluateHook_kept _ _) (.of_weigher id fun h => ?_))
    refine joinWindow_length _ ?_
    split
    · exact Nat.zero_le _
    · exact h

theorem completeSample_kept (b : Byte) : Kept k s (completeSample b s) := by
  unfold completeSample
  split
  · exact (takeSample_kept _).trans finish_kept
  all_goals exact .refl s

theorem loseSensor_kept : Kept k s (loseSensor s) := by
  unfold loseSensor
  dsimp only
  exact Kept.ite (fun _ => .after (weightFault_kept _) (withWeigher_kept rfl rfl)) fun _ => withWeigher_kept rfl rfl

theorem dataReady_kept : Kept k s (withWeigher s (dataReady s.weigher)) := by
  unfold dataReady
  split
  · exact .refl s
  · exact withWeigher_kept rfl rfl
  all_goals exact .of_weigher countUp_le id

theorem keepByte_kept (b : Byte) : Kept k s (withWeigher s (keepByte s.weigher b)) := by
  unfold keepByte
  split
  · exact withWeigher_kept rfl rfl
  · exact withWeigher_kept rfl rfl
  all_goals exact .refl s

end Sys2Proof.Machine

/-! SUPPORT. What each command keeps: the requests, the expiries, the changes of the inputs and the frames. -/

namespace Sys2Proof.Machine

variable {k : Scope} {s : State}

/-! ## The Service Port (R112, R189 to R191) -/

theorem restartHostTimer_kept : Kept k s (restartHostTimer s) :=
  Kept.ite (fun _ => .of_port id (fun _ => ⟨rfl, rfl⟩) id id) fun _ => .refl s

theorem takeInHand_kept (hp : ¬ k.portless) (kind tag : Nat) : Kept k s (takeInHand s kind tag) :=
  .of_port id (fun h => absurd h hp) id id

theorem transmit_kept (hp : ¬ k.portless) (f : PortFrame) : Kept k s (transmit s f) :=
  .of_port id (fun h => absurd h hp) id id

theorem answerAtOnce_kept (hp : ¬ k.portless) (kind tag : Nat) (st : Status) (r : Result) :
    Kept k s (answerAtOnce s kind tag st r) :=
  Kept.ite (fun _ => .of_port id (fun _ => ⟨rfl, rfl⟩) id countUp_le) fun _ => transmit_kept hp _

theorem taken_kept (hp : ¬ k.portless) (kind tag : Nat) : Kept k s (taken s kind tag) :=
  restartHostTimer_kept.trans (takeInHand_kept hp _ _)

theorem failFrame_kept (hp : ¬ k.portless) (after : Receiver) (header : Option (Nat × Nat)) (r : Result) :
    Kept k s (failFrame s after header r) := by
  refine Kept.ite (fun _ => .refl s) fun _ => ?_
  have failed : Kept k s (framingError s after) := .of_port id (fun _ => ⟨rfl, rfl⟩) countUp_le id
  cases header
  · exact failed
  · exact failed.trans (answerAtOnce_kept hp _ _ _ _)

/-- R192: the own rules of a request are followed in a configured node, or early. -/
theorem replyTo_kept {α : Type} {early : Bool} {unfit : Result} {body : Body α} {own : α → State → Reply}
    (h : ∀ a, early = true ∨ s.record.isSome = true → Kept k s (own a s).state) :
    Kept k s (replyTo early unfit body own s).state := by
  unfold replyTo
  split
  · exact .refl s
  · rename_i hc
    split
    · exact .refl s
    · refine h _ ?_
      cases early
      · right
        cases hr : s.record <;> simp [hr] at hc ⊢
      · exact .inl rfl

/-- R191: the way of a request from its completion, with what its handling replies. -/
def handledBy (kind tag : Nat) (reply : State → Reply) (s : State) : State :=
  if s.port.receiver = .resync then s
  else if s.port.inHand.isSome then answerAtOnce (restartHostTimer s) kind tag .busy .none
  else respond kind tag (reply (taken s kind tag))

theorem request_handled {α : Type} (kind tag : Nat) (early : Bool) (unfit : Result) (body : Body α)
    (own : α → State → Reply) :
    request kind tag early unfit body own s = handledBy kind tag (replyTo early unfit body own) s :=
  request_cases s kind tag early unfit body own

theorem respond_kept {r : Reply} (hp : ¬ k.portless) (kind tag : Nat) : Kept k r.state (respond kind tag r) :=
  finish_kept.trans (transmit_kept hp _)

/-- R191, R192: what a request keeps, where its handling keeps it. -/
theorem handledBy_kept {kind tag : Nat} {reply : State → Reply} (hp : ¬ k.portless)
    (h : Kept k (taken s kind tag) (reply (taken s kind tag)).state) : Kept k s (handledBy kind tag reply s) :=
  Kept.ite (fun _ => .refl s) fun _ => Kept.ite
    (fun _ => restartHostTimer_kept.trans (answerAtOnce_kept hp _ _ _ _)) fun _ =>
    ((taken_kept hp kind tag).trans h).trans (respond_kept hp _ _)

theorem unlessRefused_kept {o : Option Status} {t : State} (h : o = none → Kept k s t) :
    Kept k s (unlessRefused s o t).state := by
  cases o
  · exact h rfl
  · exact .refl s

/-! ## The requests' own rules -/

theorem clearReturned_kept : Kept k s (clearReturned s) := by
  refine .of_port (fun h => ?_) (fun _ => ⟨rfl, rfl⟩) id id
  obtain ⟨-, hall, -⟩ := (eventsOk_iff _).mp h
  have none : s.port.events.filter (fun e => !e.2.pending) = [] := by
    refine List.filter_eq_nil_iff.mpr fun e he => ?_
    have := hall e he
    simp only [eventOk, Bool.and_eq_true] at this
    simp [this]
  rw [eventsOk_iff]
  simp [refreshAttention, none, tableWf, tableAbove]

theorem setMask_kept (m : BitVec 16) : Kept k s { s with port := refreshAttention { s.port with mask := m } } := by
  refine .of_port (fun h => ?_) (fun _ => ⟨rfl, rfl⟩) id id
  rw [eventsOk_iff] at *
  exact ⟨h.1, h.2.1, rfl⟩

theorem setSpeeds_kept (l : List (Axis × Int)) : Kept k s (l.foldl (fun t n => setAxisSpeed t n.1 n.2) s) :=
  Kept.foldl l (fun _ _ _ => setAxisSpeed_kept _ _) s

theorem stopMoveIf_kept (c : Bool) (a : Axis) : Kept k s (if c then stopMoveAxis s a else s) :=
  Kept.ite (fun _ => stopMoveAxis_kept a) fun _ => .refl s

/-! ### Move (R81 to R83) -/

theorem withAxis_withAxis (s : State) (a : Axis) (r r' : AxisRecord) : (s.withAxis a r).withAxis a r' = s.withAxis a r' := by
  cases a <;> rfl

/-- R83: the record with which an axis takes up a move. -/
def takenUpRecord (s : State) (a : Axis) (l : Option LastOutcome) (d : Side) (t v : Int) : AxisRecord :=
  startedRecord s a { clearHold { s.axis a with last := l } d with
    move := some ⟨t, v, max v (magnitude (s.axis a).setpoint), d, none⟩ }

theorem takenUpRecord_kept {a : Axis} {l : Option LastOutcome} {d : Side} {t x : Int} (hm : ¬ k.moveless)
    (hr : s.record.isSome = true) (hs : (s.axis a).state ≠ .stopping ∧ (s.axis a).state ≠ .fault) :
    AxisKept k s a (takenUpRecord s a l d t (clampSpeed s.conf a x)) := by
  have same : axisOk (clearHold { s.axis a with last := l } d) = axisOk (s.axis a) ∧
      (clearHold { s.axis a with last := l } d).state = (s.axis a).state ∧
      (clearHold { s.axis a with last := l } d).setpoint = (s.axis a).setpoint := by cases d <;> exact ⟨rfl, rfl, rfl⟩
  have ok (h : axisGood s a) := startedRecord_ok (s := s) (a := a)
    (m := ⟨t, clampSpeed s.conf a x, max (clampSpeed s.conf a x) (magnitude (s.axis a).setpoint), d, none⟩)
    (same.1.trans h.1) (by rw [same.2.1]; exact hs)
  refine { ok := fun h => ⟨(ok h).1, fun _ => (ok h).2.1⟩, rest := fun h => absurd h hm, slow := fun h => absurd h hm
           speed := fun hc h hspeed => ?_ }
  obtain ⟨p1, p2, -⟩ := axisParams_of_recordChecked hc hr a
  obtain ⟨c1, c2⟩ := clamp_bounds x (le_of_lt p2)
  rw [speedOk_eq, speedFits_iff] at hspeed
  have bounds : magnitude (s.axis a).setpoint ≤ (axisParams s.conf a).maxSpeed ∧
      (magnitude (s.axis a).setpoint ≤ (axisParams s.conf a).creepSpeed ∨
        slowActive s a (if 0 < (s.axis a).setpoint then .high else .low) = false) := by
    rcases hspeed with ⟨h0, -⟩ | ⟨-, h1, h2, -⟩
    · exact ⟨by omega, .inl (by omega)⟩
    · exact ⟨h1, h2⟩
  rw [speedFits_iff, takenUpRecord, (ok h).2.2.1, (ok h).2.2.2, same.2.2]
  refine .inr ⟨hr, bounds.1, bounds.2, ?_⟩
  rintro _ ⟨⟩
  exact ⟨c1, c2, le_max_of_le_left c1, le_max_right _ _⟩

/-- R82: the Travel Profiler tells the Claim Controller of a bridge move. -/
def toldOf (a : Axis) (t : State) (target : Int) : State :=
  match a with
  | .bridge => reportMove t target
  | .trolley => t

theorem toldOf_kept (a : Axis) (target : Int) : Kept k s (toldOf a s target) := by
  cases a
  · exact reportMove_kept _
  · exact .refl s

theorem toldOf_travel (a : Axis) (target : Int) : (toldOf a s target).travel = s.travel := by
  cases a <;> simp [toldOf]

/-- R82: a move that completes at once. -/
theorem takeUpMove_at_once {a : Axis} {m : AxisMove} (h : completesAtOnce s a (clampTarget s.conf a m.target) = true) :
    takeUpMove s a m =
      recordEnd (toldOf a s (clampTarget s.conf a m.target)) a .done (clampTarget s.conf a m.target) := by
  unfold takeUpMove
  dsimp only
  rw [if_pos h]
  cases a <;> rfl

/-- R83: a move that is taken up: the axis has its record for the move. -/
theorem takeUpMove_started {a : Axis} {m : AxisMove} (h : completesAtOnce s a (clampTarget s.conf a m.target) = false) :
    takeUpMove s a m = toldOf a (s.withAxis a (takenUpRecord s a (replacedLast s a) (directionFor s a (clampTarget s.conf a m.target))
      (clampTarget s.conf a m.target) (clampSpeed s.conf a m.speed))) (clampTarget s.conf a m.target) := by
  generalize hlast : replacedLast s a = l
  have hl := hlast ▸ endMove_replaced s a
  have started (r : AxisRecord) : startedRecord (s.withAxis a { s.axis a with move := none, last := l }) a r =
      startedRecord s a r := by cases a <;> rfl
  have cleared (d : Side) (v : Option MoveRecord) :
      { clearHold { s.axis a with move := none, last := l } d with move := v } =
        { clearHold { s.axis a with last := l } d with move := v } := by cases d <;> rfl
  have setpoint (d : Side) : (clearHold { s.axis a with move := none, last := l } d).setpoint = (s.axis a).setpoint := by
    cases d <;> rfl
  unfold takeUpMove
  dsimp only
  rw [if_neg (by simp [h]), hl, withAxis_axis, withAxis_withAxis, startMove_withAxis, cleared, setpoint]
  cases a <;> rfl

theorem takeUpMove_kept {a : Axis} {m : AxisMove} (hm : ¬ k.moveless) (hr : s.record.isSome = true)
    (hs : (s.axis a).state ≠ .stopping ∧ (s.axis a).state ≠ .fault) : Kept k s (takeUpMove s a m) := by
  cases h : completesAtOnce s a (clampTarget s.conf a m.target)
  · have e := takeUpMove_started h
    rw [e]
    exact (Kept.of_axis fun _ => takenUpRecord_kept hm hr hs).trans (toldOf_kept _ _)
  · rw [takeUpMove_at_once h]
    refine (toldOf_kept _ _).trans (recordEnd_kept fun _ hg => ?_)
    simp only [completesAtOnce, Bool.and_eq_true, Bool.or_eq_true, beq_iff_eq] at h
    have hok := hg.1
    rw [axis_of_travel (toldOf_travel a _)] at hok ⊢
    rcases h.1 with h | h
    · exact ((axisOk_holding h).mp hok).2.2.2.2.2.2.2
    · exact ((axisOk_parked h).mp hok).2.2.2.2.2.2.2

/-- R83: a move taken up leaves the other axis, the record and the Halt Line. -/
theorem takeUpMove_other {a b : Axis} (h : b ≠ a) (m : AxisMove) : (takeUpMove s a m).axis b = s.axis b := by
  cases hc : completesAtOnce s a (clampTarget s.conf a m.target)
  · have e := takeUpMove_started hc
    rw [e, axis_of_travel (toldOf_travel a _), withAxis_other s h]
  · rw [takeUpMove_at_once hc, recordEnd_other _ h, axis_of_travel (toldOf_travel a _)]

theorem takeUpMove_halt (a : Axis) (m : AxisMove) : (takeUpMove s a m).halt = s.halt := by
  cases hc : completesAtOnce s a (clampTarget s.conf a m.target)
  · have e := takeUpMove_started hc
    rw [e]
    cases a <;> simp [toldOf]
  · rw [takeUpMove_at_once hc]
    cases a <;> simp [toldOf]

/-- R81: no axis that an accepted Move names is STOPPING or in FAULT, and the line is released. -/
theorem accepted_of_move {q : MoveRequest} (h : moveRefusal s q = none) : s.halt.asserted = false ∧
    ∀ n ∈ namedMoves q, (s.axis n.1).state ≠ .stopping ∧ (s.axis n.1).state ≠ .fault := by
  unfold moveRefusal at h
  dsimp only at h
  split at h
  · cases h
  · split at h
    · cases h
    · split at h
      · cases h
      · rename_i h1 h2
        refine ⟨by simpa using h1, fun n hn => ?_⟩
        simp only [List.any_eq_true, not_exists, not_and, Bool.or_eq_true, beq_iff_eq, not_or] at h2
        exact h2 n hn

/-- R81 to R83: an accepted Move takes up its moves, the bridge's first. -/
theorem acceptMove_eq (q : MoveRequest) : acceptMove s q =
    match q.bridge, q.trolley with
    | some b, some t => takeUpMove (takeUpMove s .bridge b) .trolley t
    | some b, none => takeUpMove s .bridge b
    | none, some t => takeUpMove s .trolley t
    | none, none => s := by
  obtain ⟨b, t⟩ := q
  cases b <;> cases t <;> rfl

theorem acceptMove_kept {q : MoveRequest} (hm : ¬ k.moveless) (hr : s.record.isSome = true) (h : moveRefusal s q = none) :
    Kept k s (acceptMove s q) := by
  obtain ⟨-, hs⟩ := accepted_of_move h
  rw [acceptMove_eq]
  obtain ⟨b, t⟩ := q
  have hb (m : AxisMove) (e : b = some m) := hs (.bridge, m) (by simp [namedMoves, e])
  have ht (m : AxisMove) (e : t = some m) := hs (.trolley, m) (by simp [namedMoves, e])
  cases b with
  | none =>
    cases t with
    | none => exact .refl s
    | some m => exact takeUpMove_kept hm hr (ht m rfl)
  | some m =>
    have first := takeUpMove_kept (m := m) hm hr (hb m rfl)
    cases t with
    | none => exact first
    | some m' =>
      refine first.trans (takeUpMove_kept hm (by rw [first.record]; exact hr) ?_)
      rw [takeUpMove_other (by simp)]
      exact ht m' rfl

theorem acceptMove_halt (q : MoveRequest) : (acceptMove s q).halt = s.halt := by
  rw [acceptMove_eq]
  split <;> simp only [takeUpMove_halt]

/-- R108: with the line asserted every Move is refused. -/
theorem handleMove_kept (hm : k.moveless → s.halt.asserted = true) (hr : s.record.isSome = true) (q : MoveRequest) :
    Kept k s (handleMove q s).state := by
  unfold handleMove
  split
  · exact .refl s
  · rename_i h
    exact acceptMove_kept (fun hk => by rw [(accepted_of_move h).1] at hm; cases hm hk) hr h

theorem handleGoTo_kept (hm : k.moveless → s.halt.asserted = true) (hr : s.record.isSome = true) (q : GoToRequest) :
    Kept k s (handleGoTo q s).state := by
  unfold handleGoTo
  split
  · exact .refl s
  · exact handleMove_kept hm hr _

/-! ### Peers and the claim (R47, R48, R78) -/

theorem handlePrepareRelease_kept (q : PrepareRequest) : Kept k s (handlePrepareRelease q s).state := by
  refine unlessRefused_kept fun h => mapPeer_kept fun _ _ hp => ?_
  have stale : (s.peer q.rank).presence = .stale := by
    unfold prepareRefusal at h
    dsimp only at h
    split at h
    · cases h
    · split at h
      · cases h
      · split at h
        · cases h
        · simp_all
  simp only [peerOk, Bool.and_eq_true] at *
  simp_all

theorem handleConfirmRelease_kept (rank : Nat) : Kept k s (handleConfirmRelease rank s).state :=
  unlessRefused_kept fun _ => .after (.of_peers fun _ _ h => h)
    ((mapPeer_kept (n := rank) fun _ _ => peerOk_arming).trans
      (offer_kept (.release ⟨rank, ((s.peer rank).arming.map (·.seq)).getD 0⟩)))

theorem endFlight_claim (o : ReleaseOutcome) (d : Option Nat) : (endFlight s o d).claim = s.claim := by
  unfold endFlight
  split <;> rfl

/-- R78: a Rejoin begins with the reason VOID cleared, and ends in LISTENING with the line judged anew. -/
theorem rejoinNode_kept (h : mayRejoin s = true) : Kept k s (rejoinNode s) := by
  have hn : s.node ≠ .unconfigured := by
    intro e
    simp [mayRejoin, e] at h
  refine .of_halt (h := (clearReason s .void).halt) ?_ (enterNode_lineOk _)
    fun h h' => absurd h (by rw [show s.halt.asserted = true from h']; simp)
  have emptied : Kept k (clearReason s .void) (withdraw (withClaim (clearReason s .void) .reset) fun _ => true) :=
    .after (withdraw_kept _) (.of_claim fun _ _ => rfl)
  have ended (c : Bool) (u : State) (hu : u.claim = .reset) : Kept k u (if c then endFlight u .withdrawn none else u) ∧
      (if c then endFlight u .withdrawn none else u).claim = .reset := by
    cases c
    · exact ⟨.refl u, hu⟩
    · exact ⟨endFlight_kept _ _, (endFlight_claim _ _).trans hu⟩
  have flight := ended ((withdraw (withClaim (clearReason s .void) .reset) fun _ => true).peers.inFlight.any (!·.taken))
    (withdraw (withClaim (clearReason s .void) .reset) fun _ => true) rfl
  have cleared := emptied.trans flight.1
  exact cleared.trans (startListening_kept (fun _ => cleared.node hn) fun _ => flight.2)

/-! ## Expiries -/

theorem expire_kept {o : Option Nat} {act : State → State}
    (h : ∀ d, o = some d → Kept k (elapse s d) (act (elapse s d))) : Kept k s (expire o act s) := by
  cases o with
  | none => exact .refl s
  | some d => exact (Kept.elapse d).trans ((h d rfl).trans finish_kept)

theorem hostSilent_kept : Kept k s (hostSilent s) :=
  .after (setReason_kept _) (.of_port id (fun _ => ⟨rfl, rfl⟩) id id)

theorem reportDue_kept : Kept k s (reportDue s) := .after (offer_kept _) (.of_queue id rfl rfl rfl)

theorem isolationDue_kept : Kept k s (isolationDue s) := by
  have stopped : Kept k s { s with peers := { s.peers with isolation := none } } := .of_peers fun _ _ h => h
  exact stopped.trans (Kept.ite (fun hn => isolateNode_kept hn) fun _ => .refl _)

theorem armingDue_kept (rank : Nat) : Kept k s (armingDue rank s) := mapPeer_kept fun _ _ => peerOk_arming

theorem queryDue_kept : Kept k s (queryDue s) := by
  unfold queryDue
  split
  · exact .after scanLater_kept (.after (suspect_kept _ _ _ _) (.after closeQuery_kept (putRow_kept _ _)))
  · exact .refl s

theorem planDue_kept : Kept k s (planDue s) := by
  unfold planDue
  split
  · exact .after (placeAnswers_kept _ _) (.of_lists rfl rfl rfl)
  · exact .refl s

/-! ## The inputs -/

theorem slowLevel_withAxis (i : Inputs) (a b : Axis) (p : AxisInputs)
    (h : b = a → p.slowLow = (i.axis a).slowLow ∧ p.slowHigh = (i.axis a).slowHigh) (d : Side) :
    slowLevel (i.withAxis a p) b d = slowLevel i b d := by
  cases a <;> cases b <;> cases d <;> simp_all [slowLevel, Inputs.withAxis, Inputs.axis]

theorem changePosition_kept (a : Axis) (x : Option Int) : Kept k s (changePosition a x s) := by
  have pins : Kept k s (withInputs s (s.inputs.withAxis a { s.inputs.axis a with position := x })) :=
    .of_inputs (by cases a <;> rfl) fun b _ => slowLevel_withAxis _ _ _ _ fun _ => ⟨rfl, rfl⟩
  unfold changePosition
  dsimp only
  split
  · refine pins.trans (Kept.ite (fun _ => .of_axis fun _ => .same rfl rfl fun ha => ⟨?_, ha.2⟩) fun _ => .refl _)
    exact .trans (by simp [axisOk]) ha.1
  · exact pins

theorem magnitude_eq_signed (x : Int) : magnitude x = signed (if 0 < x then .high else .low) x := by
  by_cases h : 0 < x
  · rw [if_pos h]
    exact if_neg (by omega)
  · rw [if_neg h]
    by_cases h0 : x < 0
    · exact if_pos h0
    · have : x = 0 := by omega
      subst this
      rfl

/-- The bounds of a speed as one slowdown input changes: it holds the axis to creep speed only where it is active. -/
theorem speedFits_of_slow {u : State} {a : Axis} {d : Side} {r : AxisRecord} (hrec : u.record = s.record)
    (ho : ∀ e, e ≠ d → slowActive u a e = slowActive s a e)
    (hs : slowActive u a d = true → s.record.isSome = true → signed d r.setpoint ≤ (axisParams s.conf a).creepSpeed)
    (h : speedFits s a r = true) : speedFits u a r = true := by
  rw [speedFits_iff] at *
  rw [conf_of_record hrec, hrec]
  refine h.imp_right fun ⟨hr, hmax, hslow, hmv⟩ => ⟨hr, hmax, ?_, hmv⟩
  generalize he : (if 0 < r.setpoint then Side.high else Side.low) = e at hslow ⊢
  by_cases hd : e = d
  · by_cases ha : slowActive u a d = true
    · refine .inl (le_trans (le_of_eq ?_) (hs ha hr))
      rw [← hd, ← he]
      exact magnitude_eq_signed _
    · exact .inr (by rw [hd]; simpa using ha)
  · rw [ho e hd]
    exact hslow

/-- R90: a setpoint cut to creep speed. -/
theorem speedFits_slowCut {u : State} {a : Axis} {d : Side} {r : AxisRecord} (hc : recordChecked s)
    (hr : s.record.isSome = true) (hrec : u.record = s.record)
    (ho : ∀ e, e ≠ d → slowActive u a e = slowActive s a e) (h : speedFits s a r = true) :
    speedFits u a (slowCut (axisParams s.conf a).creepSpeed r d) = true := by
  unfold slowCut
  split
  · rename_i hcut
    obtain ⟨p1, p2, -⟩ := axisParams_of_recordChecked hc hr a
    have mag : magnitude (signed d (axisParams s.conf a).creepSpeed) = (axisParams s.conf a).creepSpeed :=
      magnitude_signed d (by omega)
    rw [speedFits_iff] at *
    rw [conf_of_record hrec, hrec, mag]
    refine .inr ⟨hr, le_of_lt p2, .inl le_rfl, fun m hm => ?_⟩
    obtain ⟨m', hm', rfl⟩ := Option.map_eq_some_iff.mp hm
    rcases h with ⟨-, h⟩ | ⟨-, -, -, h⟩
    · rw [h] at hm'; cases hm'
    · obtain ⟨q1, q2, -⟩ := h m' hm'
      exact ⟨q1, q2, le_rfl, le_rfl⟩
  · rename_i hcut
    exact speedFits_of_slow hrec ho (fun _ _ => not_lt.mp hcut) h

/-- R90: a cut leaves an axis as its state says, and only lowers its setpoint. -/
theorem slowCut_axisOk {a : Axis} {c : Int} {d : Side} (hst : (s.axis a).state = .moving ∨ (s.axis a).state = .stopping)
    (h : axisGood s a) : axisOk (slowCut c (s.axis a) d) = true ∧ (a = .trolley → (slowCut c (s.axis a) d).state ≠ .waiting) := by
  unfold slowCut
  split
  · refine ⟨.trans ?_ h.1, h.2⟩
    rcases hst with e | e <;> simp [axisOk, e]
  · exact h

theorem slowCut_lowers {c : Int} (hc : 0 ≤ c) (r : AxisRecord) (d : Side) :
    magnitude (slowCut c r d).setpoint ≤ magnitude r.setpoint := by
  unfold slowCut
  split
  · rename_i h
    rw [show (_ : AxisRecord).setpoint = signed d c from rfl, magnitude_signed d hc]
    unfold magnitude
    cases d <;> simp only [signed] at h <;> split <;> omega
  · exact le_rfl

theorem slowCut_move {c : Int} {r : AxisRecord} (h : r.move = none) (d : Side) : (slowCut c r d).move = none := by
  unfold slowCut
  split
  · rw [show (_ : AxisRecord).move = r.move.map _ from rfl, h]
    rfl
  · exact h

/-- R90: what a change of a slowdown input leaves: the pin, and the cut where the edge is active. -/
theorem changeSlow_cases (a : Axis) (d : Side) (level : Bool) (s : State) :
    ∃ i, i.haltLine = s.inputs.haltLine ∧ (∀ b, b ≠ a → ∀ e, slowLevel i b e = slowLevel s.inputs b e) ∧
      (∀ e, e ≠ d → slowLevel i a e = slowLevel s.inputs a e) ∧
      ((changeSlow a d level s = { s with inputs := i } ∧
          (slowActive { s with inputs := i } a d = true → s.record.isSome = true →
            (s.axis a).state ≠ .moving ∧ (s.axis a).state ≠ .stopping)) ∨
        (s.record.isSome = true ∧ ((s.axis a).state = .moving ∨ (s.axis a).state = .stopping) ∧
          changeSlow a d level s = State.withAxis { s with inputs := i } a
            (slowCut (axisParams s.conf a).creepSpeed (s.axis a) d))) := by
  refine ⟨s.inputs.withAxis a ((s.inputs.axis a).withSlow d level), by cases a <;> rfl, fun b hb e => ?_, fun e he => ?_, ?_⟩
  · exact slowLevel_withAxis _ _ _ _ (fun h => absurd h hb) e
  · cases a <;> cases d <;> cases e <;> simp_all [slowLevel, Inputs.withAxis, Inputs.axis, AxisInputs.withSlow]
  · unfold changeSlow cutSpeed
    dsimp only
    split
    · rename_i hc
      simp only [Bool.and_eq_true] at hc
      split
      · rename_i hst
        simp only [Bool.or_eq_true, decide_eq_true_eq] at hst
        refine .inr ⟨hc.1, by cases a <;> exact hst, ?_⟩
        cases a <;> rfl
      · rename_i hst
        refine .inl ⟨rfl, fun _ _ => ?_⟩
        simp only [Bool.or_eq_true, decide_eq_true_eq, not_or] at hst
        cases a <;> exact hst
    · rename_i hc
      refine .inl ⟨rfl, fun h1 h2 => absurd ?_ hc⟩
      simp only [Bool.and_eq_true]
      exact ⟨h2, h1⟩

theorem changeSlow_kept (a : Axis) (d : Side) (level : Bool) : Kept k s (changeSlow a d level s) := by
  obtain ⟨i, hl, hb, hd, h⟩ := changeSlow_cases a d level s
  have others : Kept { k with tracked := fun b => k.tracked b ∧ b ≠ a } s { s with inputs := i } :=
    .of_inputs hl fun b ⟨_, hba⟩ => hb b hba
  have active (e : Side) (he : e ≠ d) : slowActive { s with inputs := i } a e = slowActive s a e := by
    show activeLevel _ _ (slowLevel i a e) = _
    rw [hd e he]
    rfl
  have axis : State.axis { s with inputs := i } a = s.axis a := by cases a <;> rfl
  rcases h with ⟨e, hst⟩ | ⟨hr, hst, e⟩
  · rw [e]
    refine others.axis_too (fun h => ?_) (fun _ _ h => ?_) (fun _ _ _ _ => ?_) (fun _ _ h h' => ?_) fun hc hg h => ?_
    · rw [axisGood, axis]; exact h
    · rw [axis]; exact h
    · rw [axis]
    · exact absurd h (by rw [show s.halt.asserted = true from h']; simp)
    · rw [speedOk_eq, axis]
      refine speedFits_of_slow (s := s) rfl active (fun h1 h2 => ?_) h
      have h0 : (s.axis a).setpoint = 0 := by
        by_contra h0
        rcases state_of_setpoint hg.1 h0 with e | e
        · exact (hst h1 h2).1 e
        · exact (hst h1 h2).2 e
      obtain ⟨p1, -⟩ := axisParams_of_recordChecked hc h2 a
      rw [h0]
      cases d <;> simp only [signed] <;> omega
  · rw [e]
    refine Kept.axis_too (a := a) (others.trans (.of_axis fun h => absurd rfl h.2)) (fun h => ?_) (fun _ _ h => ?_)
      (fun _ hc _ _ => ?_) (fun _ _ h h' => ?_) fun hc hg h => ?_
    · rw [axisGood, withAxis_axis]
      exact slowCut_axisOk hst h
    · rw [withAxis_axis]
      exact slowCut_move h d
    · rw [withAxis_axis]
      exact slowCut_lowers (by have := (axisParams_of_recordChecked hc hr a).1; omega) _ _
    · exact absurd h (by rw [withAxis_halt] at h'; rw [show s.halt.asserted = true from h']; simp)
    · rw [speedOk_eq, withAxis_axis]
      refine speedFits_slowCut hc hr (by simp) (fun e he => ?_) h
      rw [← active e he]
      cases a <;> rfl

theorem changeLimit_kept (a : Axis) (d : Side) (level : Bool) : Kept k s (changeLimit a d level s) := by
  have pins : Kept k s (withInputs s (s.inputs.withAxis a ((s.inputs.axis a).withLimit d level))) :=
    .of_inputs (by cases a <;> rfl) fun b _ => slowLevel_withAxis _ _ _ _ fun _ => by cases d <;> exact ⟨rfl, rfl⟩
  exact pins.trans (Kept.ite (fun _ => (endLimitEdge_kept _ _).trans finish_kept) fun _ => .refl _)

theorem withHoist_kept (h : Hoist) : Kept k s (withHoist s h) := (Kept.of_hoist h).trans (lowHookEdge_kept s)

theorem countHoist_kept (up : Bool) : Kept k s (countHoist up s) :=
  Kept.ite (fun _ => (withHoist_kept _).trans finish_kept) fun _ => .refl s

theorem changeTopReference_kept (level : Bool) : Kept k s (changeTopReference level s) := by
  have pins : Kept k s (withInputs s { s.inputs with topReference := level }) :=
    .of_inputs rfl fun b _ d => by cases b <;> cases d <;> rfl
  exact pins.trans (Kept.ite (fun _ => (withHoist_kept _).trans finish_kept) fun _ => .refl _)

theorem changeHaltLine_kept (b : Bool) : Kept k s (changeHaltLine b s) :=
  .of_line_level (i := { s.inputs with haltLine := b }) (fun b d => by cases b <;> cases d <;> rfl)
    (refreshLine_kept.trans finish_kept)
    ((finish_kept (k := ⟨True, True, True, fun _ => True, fun _ => True⟩)).line refreshLine_lineOk)

theorem changeDataReady_kept (level : Bool) : Kept k s (changeDataReady level s) := by
  have pins : Kept k s (withInputs s { s.inputs with dataReady := level }) :=
    .of_inputs rfl fun b _ d => by cases b <;> cases d <;> rfl
  exact pins.trans (Kept.ite (fun _ => dataReady_kept) fun _ => .refl _)

/-! ## Acceptance of the start record (R12) -/

theorem latchAtAcceptance_kept (a : Axis) : Kept k s (latchAtAcceptance s a) :=
  .of_axis fun _ => .same rfl rfl fun ha => ⟨.trans (by simp [axisOk]) ha.1, ha.2⟩

/-- R12, R13: what follows the record's entry into force. -/
theorem takeUpRecord_kept (c : StartRecord) (hk : ¬ k.configured) (hc : claimOk s = true → s.claim = .reset) :
    Kept k { s with record := some c } (takeUpRecord s c) := by
  have armed : Kept k { s with record := some c } (withWeigher { s with record := some c } (armWeigher { s with record := some c })) :=
    .of_weigher id fun _ => Nat.zero_le _
  refine (((armed.trans (latchAtAcceptance_kept .bridge)).trans (latchAtAcceptance_kept .trolley)).trans
    restartHostTimer_kept).trans (startListening_kept (fun h => absurd h hk) fun h => ?_)
  simp only [claimOk, restartHostTimer_claim, restartHostTimer_node, latchAtAcceptance, withAxis_claim, withAxis_node,
    withWeigher_claim, withWeigher_node] at h ⊢
  exact hc h

/-! ## The commands -/

/-- The commands after which the node may stand as after reset, or in LISTENING with a new start record. -/
def starts : Instr → Bool
  | .powerOn | .responseSent | .configure _ _ => true
  | _ => false

/-- The commands that take up moves. -/
def takesMoves : Instr → Bool
  | .move _ _ | .goTo _ _ => true
  | _ => false

/-- The commands that the Service Port answers. -/
def answers : Instr → Bool
  | .busy _ _ | .badCheck _ _ | .incomplete _ => true
  | c => (requestHeader c).isSome

/-- The handling of a request keeps what its own rules keep. -/
theorem requestWork {c : Instr} {α : Type} {kind tag : Nat} {early : Bool} {unfit : Result} {body : Body α}
    {own : α → State → Reply} (he : exec c s = .next (request kind tag early unfit body own s))
    (h : starts c = false → ∀ (k : Scope) (t : State), (k.moveless → takesMoves c = false ∨ t.halt.asserted = true) →
      ∀ a, early = true ∨ t.record.isSome = true → Kept k t (own a t).state) :
    ∃ reply, exec c s = .next (handledBy kind tag reply s) ∧ (starts c = false → ∀ (k : Scope) (t : State),
      (k.moveless → takesMoves c = false ∨ t.halt.asserted = true) → Kept k t (reply t).state) :=
  ⟨_, by rw [he, request_handled], fun hc k t hm => replyTo_kept fun a => h hc k t hm a⟩

/-- What the handling of every request keeps, but that of Configure. -/
theorem exec_request {c : Instr} {h : Nat × Nat} (hc : requestHeader c = some h) :
    ∃ reply, exec c s = .next (handledBy h.1 h.2 reply s) ∧ (starts c = false → ∀ (k : Scope) (t : State),
      (k.moveless → takesMoves c = false ∨ t.halt.asserted = true) → Kept k t (reply t).state) := by
  cases c <;> cases hc
  case configure => exact requestWork rfl fun h => by cases h
  case readStatus => exact requestWork rfl fun _ k t _ _ _ => .refl t
  case readEvents => exact requestWork rfl fun _ k t _ _ _ => clearReturned_kept
  case setEventMask => exact requestWork rfl fun _ k t _ _ _ => setMask_kept _
  case move =>
    exact requestWork rfl fun _ k t hm q hr =>
      handleMove_kept (fun h => (hm h).resolve_left (by simp [takesMoves])) (by simpa using hr) q
  case goTo =>
    exact requestWork rfl fun _ k t hm q hr =>
      handleGoTo_kept (fun h => (hm h).resolve_left (by simp [takesMoves])) (by simpa using hr) q
  case setSpeed =>
    refine requestWork rfl fun _ k t _ q _ => ?_
    unfold handleSetSpeed
    split
    · exact .refl t
    · exact setSpeeds_kept _
  case stopMove =>
    exact requestWork rfl fun _ k t _ q _ => (stopMoveIf_kept _ _).trans (stopMoveIf_kept _ _)
  case tare =>
    refine requestWork rfl fun _ k t _ q _ => ?_
    unfold handleTare
    split
    · exact .refl t
    · exact withWeigher_kept rfl rfl
  case beginTask =>
    refine requestWork rfl fun _ k t _ q _ => ?_
    unfold handleBeginTask
    split
    · exact .refl t
    · exact beginTheTask_kept ‹_›
  case abortTask =>
    refine requestWork rfl fun _ k t _ q _ => ?_
    unfold handleAbortTask
    split
    · exact .refl t
    · exact abortNest_kept _ _ _ _ .refl
  case readTask => exact requestWork rfl fun _ k t _ _ _ => .refl t
  case readRow =>
    refine requestWork rfl fun _ k t _ q _ => ?_
    unfold handleReadRow
    split <;> exact .refl t
  case surveyRow =>
    exact requestWork rfl fun _ k t _ q _ => unlessRefused_kept fun _ => applySurvey_kept q
  case blockSlot =>
    exact requestWork rfl fun _ k t _ q _ => unlessRefused_kept fun _ =>
      (changeSlot_kept _ _).trans (joinOutbox_kept _)
  case unblockSlot =>
    exact requestWork rfl fun _ k t _ q _ => unlessRefused_kept fun _ =>
      (changeSlot_kept _ _).trans (joinOutbox_kept _)
  case dockTruck =>
    exact requestWork rfl fun _ k t _ q _ => unlessRefused_kept dock_kept
  case closeBay =>
    exact requestWork rfl fun _ k t _ q _ => unlessRefused_kept closeTheBay_kept
  case undock =>
    exact requestWork rfl fun _ k t _ q _ => unlessRefused_kept fun _ => undockTheBay_kept _
  case readBay =>
    refine requestWork rfl fun _ k t _ q _ => ?_
    unfold handleReadBay
    split <;> exact .refl t
  case readPeers => exact requestWork rfl fun _ k t _ _ _ => .refl t
  case prepareRelease =>
    exact requestWork rfl fun _ k t _ q _ => handlePrepareRelease_kept q
  case confirmRelease =>
    exact requestWork rfl fun _ k t _ q _ => handleConfirmRelease_kept q
  case rejoin =>
    refine requestWork rfl fun _ k t _ q _ => ?_
    unfold handleRejoin
    split
    · exact rejoinNode_kept ‹_›
    · exact .refl t
  case halt => exact requestWork rfl fun _ k t _ _ _ => setReason_kept _
  case clearHalt => exact requestWork rfl fun _ k t _ _ _ => clearHalts_kept
  case restart => exact requestWork rfl fun _ k t _ _ _ => .refl t
  case unknownRequest => exact requestWork rfl fun _ k t _ _ _ => .refl t

/-- What every command that is no request keeps, but those that start the node. -/
theorem exec_work {c : Instr} (hr : requestHeader c = none) (hc : starts c = false)
    (hk : k.configured → configuredOk s = true) (hp : k.portless → answers c = false) :
    ∃ t, exec c s = .next t ∧ Kept k s t := by
  cases c <;> try cases hr
  case powerOn => cases hc
  case responseSent => cases hc
  case impossibleLength =>
    refine ⟨_, rfl, Kept.ite (fun _ => .refl s) fun _ => ?_⟩
    exact .of_port id (fun _ => ⟨rfl, rfl⟩) countUp_le id
  case incomplete => exact ⟨_, rfl, failFrame_kept (fun h => by cases hp h) _ _ _⟩
  case badCheck => exact ⟨_, rfl, failFrame_kept (fun h => by cases hp h) _ _ _⟩
  case resyncSilence =>
    exact ⟨_, rfl, Kept.ite (fun _ => .of_port id (fun _ => ⟨rfl, rfl⟩) id id) fun _ => .refl s⟩
  case busy =>
    exact ⟨_, rfl, Kept.ite (fun _ => .refl s) fun _ =>
      restartHostTimer_kept.trans (answerAtOnce_kept (fun h => by cases hp h) _ _ _ _)⟩
  case hostSilenceExpiry => exact ⟨_, rfl, expire_kept fun _ _ => hostSilent_kept⟩
  case attempt => exact ⟨_, rfl, beginAttempt_kept⟩
  case contentionLoss => exact ⟨_, rfl, loseAttempt_kept⟩
  case taken =>
    refine ⟨_, rfl, takeAttempt_kept fun h ha hn => ?_⟩
    have := hk h
    cases hr : s.record <;> simp [configuredOk, hn, hr] at this
    simp [this] at ha
  case checkError => exact ⟨_, rfl, countCheckError_kept⟩
  case positionReport => exact ⟨_, rfl, receive_kept fun _ => hearFrame_kept _ _ fun _ h => peerReport_kept _ h⟩
  case join => exact ⟨_, rfl, receive_kept fun _ => peerJoin_kept _ _ _⟩
  case extend => exact ⟨_, rfl, receive_kept fun _ => hearFrame_kept _ _ fun _ _ => peerExtend_kept _ _ _⟩
  case objection => exact ⟨_, rfl, receive_kept fun _ => hearFrame_kept _ _ fun _ _ => objectionTaken_kept _ _⟩
  case release => exact ⟨_, rfl, receive_kept fun _ => hearFrame_kept _ _ fun _ _ => peerRelease_kept _ _ _⟩
  case makeWay => exact ⟨_, rfl, receive_kept fun _ => hearFrame_kept _ _ fun _ _ => makeWayTaken_kept _ _⟩
  case storeNotice => exact ⟨_, rfl, receive_kept fun _ => hearFrame_kept _ _ fun _ _ => applyNotice_kept _ _⟩
  case slotQuery => exact ⟨_, rfl, receive_kept fun _ => hearFrame_kept _ _ fun _ _ => planAnswer_kept _⟩
  case bayNotice => exact ⟨_, rfl, receive_kept fun _ => hearFrame_kept _ _ fun _ _ => bayNoticeTaken_kept _ _⟩
  case listenWindowEnd => exact ⟨_, rfl, expire_kept fun _ _ => endListening_kept⟩
  case reportTimerExpiry => exact ⟨_, rfl, expire_kept fun _ _ => reportDue_kept⟩
  case silenceTimeout => exact ⟨_, rfl, expire_kept fun _ _ => silencePeer_kept _⟩
  case isolationTimeout => exact ⟨_, rfl, expire_kept fun _ _ => isolationDue_kept⟩
  case armingExpiry => exact ⟨_, rfl, expire_kept fun _ _ => armingDue_kept _⟩
  case releaseWindowExpiry => exact ⟨_, rfl, expire_kept fun _ _ => releasePeer_kept _⟩
  case joinWindowExpiry => exact ⟨_, rfl, expire_kept fun _ _ => joinDue_kept⟩
  case extensionWindowExpiry => exact ⟨_, rfl, expire_kept fun _ _ => extensionDue_kept⟩
  case peerJoinWindowExpiry => exact ⟨_, rfl, expire_kept fun _ _ => peerJoinDue_kept _⟩
  case retryTimerExpiry => exact ⟨_, rfl, expire_kept fun _ _ => retryDue_kept⟩
  case shrinkTimerExpiry => exact ⟨_, rfl, expire_kept fun _ _ => shrinkDue_kept⟩
  case queryExpiry => exact ⟨_, rfl, expire_kept fun _ _ => queryDue_kept⟩
  case answerPlanDue => exact ⟨_, rfl, expire_kept fun _ _ => planDue_kept⟩
  case brakeSettleExpiry a =>
    exact ⟨_, rfl, expire_kept fun _ h => brakeDue_kept (by rw [axis_of_travel (elapse_travel _ _), h]; rfl)⟩
  case parkTimerExpiry a =>
    exact ⟨_, rfl, expire_kept fun _ h => enterParked_due_kept (by rw [axis_of_travel (elapse_travel _ _), h]; rfl)⟩
  case profilePeriod a =>
    exact ⟨_, rfl, expire_kept fun _ h => periodDue_kept (by rw [axis_of_travel (elapse_travel _ _), h]; rfl)⟩
  case settleTimerExpiry a => exact ⟨_, rfl, (settleDue_kept a).trans finish_kept⟩
  case waitTimeout => exact ⟨_, rfl, expire_kept fun _ _ => waitDue_kept⟩
  case positionInputChange a x => exact ⟨_, rfl, changePosition_kept a x⟩
  case slowdownEdge a d l => exact ⟨_, rfl, changeSlow_kept a d l⟩
  case endLimitEdge a d l => exact ⟨_, rfl, changeLimit_kept a d l⟩
  case hoistCount up => exact ⟨_, rfl, countHoist_kept up⟩
  case topReferenceEdge l => exact ⟨_, rfl, changeTopReference_kept l⟩
  case haltLineLevelChange b => exact ⟨_, rfl, changeHaltLine_kept b⟩
  case dataReadyEdge l => exact ⟨_, rfl, changeDataReady_kept l⟩
  case sample b => exact ⟨_, rfl, completeSample_kept b⟩
  case sampleTimerExpiry => exact ⟨_, rfl, expire_kept fun _ _ => loseSensor_kept⟩
  case converterByteComplete b => exact ⟨_, rfl, keepByte_kept b⟩

/-- What every command but those that start the node keeps. -/
theorem exec_kept {c : Instr} (hc : starts c = false) (hk : k.configured → configuredOk s = true)
    (hm : k.moveless → takesMoves c = false ∨ s.halt.asserted = true) (hp : ¬ k.portless) :
    ∃ t, exec c s = .next t ∧ Kept k s t := by
  cases hr : requestHeader c with
  | none => exact exec_work hr hc hk fun h => absurd h hp
  | some h =>
    obtain ⟨reply, e, kept⟩ := exec_request hr
    exact ⟨_, e, handledBy_kept hp (kept hc k _ (by rwa [taken_halt]))⟩

end Sys2Proof.Machine

/-! PROOFS. The invariants of every step, from what each command keeps. -/

namespace Sys2Proof.Machine

variable {s t : State}

/-! ## The commands that start the node (R8, R11, R191, R197) -/

/-- What is kept where a start record enters into force: of the state before, of the request in hand, and of the acceptance. -/
structure Accepted (k : Scope) (s t : State) : Prop where
  step : ∃ u c, Kept k s u ∧ u.node = .unconfigured ∧ startRecordFailure c = none ∧
    Kept { k with configured := False } { u with record := some c } t
  line : lineOk t = true
  node : t.node = .listening

theorem execConfigure_cases {k : Scope} (hp : ¬ k.portless) (tag : Nat) (body : Body StartRecord) :
    ∃ t, exec (.configure tag body) s = .next t ∧ (Kept k s t ∨ Accepted k s t) := by
  refine ⟨_, rfl, ?_⟩
  rw [request_handled]
  unfold handledBy
  split
  · exact .inl (.refl s)
  · split
    · exact .inl (restartHostTimer_kept.trans (answerAtOnce_kept hp _ _ _ _))
    · have taken := taken_kept (k := k) (s := s) hp 1 tag
      cases body with
      | misfit => exact .inl (taken.trans (respond_kept hp (r := ⟨_, _, _⟩) 1 tag))
      | fields c =>
        have same (st : Status) (r : Result) : Kept k s (respond 1 tag ⟨Machine.taken s 1 tag, st, r⟩) :=
          taken.trans (respond_kept hp (r := ⟨_, _, _⟩) 1 tag)
        show Kept k s (respond 1 tag (handleConfigure c (Machine.taken s 1 tag))) ∨
          Accepted k s (respond 1 tag (handleConfigure c (Machine.taken s 1 tag)))
        unfold handleConfigure
        split
        · exact .inl (same _ _)
        · rename_i hn
          have hn : (Machine.taken s 1 tag).node = .unconfigured := by simpa using hn
          split
          · exact .inl (same _ _)
          · rename_i hf
            refine .inr ?_
            have up : Kept { k with configured := False } { Machine.taken s 1 tag with record := some c }
                (takeUpRecord (Machine.taken s 1 tag) c) :=
              takeUpRecord_kept c id fun h => by
                have hs : s.node = .unconfigured := by simpa using hn
                simpa [claimOk, hs, claimless] using h
            have after : Kept { k with configured := False } (takeUpRecord (Machine.taken s 1 tag) c)
                (respond 1 tag (accept (takeUpRecord (Machine.taken s 1 tag) c))) := 
              respond_kept (k := { k with configured := False }) (r := accept _) hp 1 tag
            refine ⟨⟨_, c, taken, hn, hf, up.trans after⟩, after.line (enterNode_lineOk _), ?_⟩
            show (finish _).node = _
            simp [accept, takeUpRecord, startListening]

/-- What a command leaves: what work keeps, a start record accepted, or the node as after reset. -/
theorem exec_cases {c : Instr} {k : Scope} (hk : k.configured → configuredOk s = true)
    (hm : k.moveless → takesMoves c = false ∨ s.halt.asserted = true) (hp : ¬ k.portless) :
    ∃ t, exec c s = .next t ∧ (Kept k s t ∨ Accepted k s t ∨ t = resetNode s) := by
  by_cases hc : starts c = false
  · obtain ⟨t, e, h⟩ := exec_kept hc hk hm hp
    exact ⟨t, e, .inl h⟩
  cases c
  case powerOn => exact ⟨_, rfl, .inr (.inr rfl)⟩
  case configure tag body =>
    obtain ⟨t, e, h⟩ := execConfigure_cases (s := s) hp tag body
    exact ⟨t, e, h.imp_right .inl⟩
  case responseSent =>
    refine ⟨_, rfl, ?_⟩
    unfold frameSent
    split
    · exact .inl (.refl s)
    · split
      · exact .inl (.of_port id (fun h => absurd h hp) id id)
      · split
        · exact .inr (.inr rfl)
        · exact .inl (.of_port id (fun h => absurd h hp) id id)
  all_goals exact absurd rfl hc

/-- The scope of any work. -/
def anyWork : Scope := ⟨False, False, False, fun _ => True, fun _ => True⟩

/-- The scope of work that takes up no move. -/
def moveless : Scope := ⟨False, True, False, fun _ => True, fun _ => True⟩

/-- The scope of work in a node whose configuration is as `configuredOk` says. -/
def configured : Scope := ⟨True, False, False, fun _ => True, fun _ => True⟩

/-- What a step leaves, with the queue of commands as it stands after it. -/
theorem step_cases {k : Scope} (hk : k.configured → configuredOk s = true)
    (hm : k.moveless → s.halt.asserted = true ∨ ∀ c l, s.pending = c :: l → takesMoves c = false) (hp : ¬ k.portless)
    (ht : step s = .next t) :
    ∃ l, Kept k { s with pending := l } t ∨ Accepted k { s with pending := l } t ∨ t = resetNode { s with pending := l } := by
  unfold step at ht
  split at ht
  · cases ht
    exact ⟨s.pending, .inl (.of_now (Nat.le_succ _))⟩
  · rename_i c rest hc
    obtain ⟨u, e, hu⟩ := exec_cases (c := c) (s := { s with pending := rest }) hk
      (fun h => (hm h).symm.imp_left fun g => g c rest hc) hp
    rw [ht] at e
    cases e
    exact ⟨rest, hu⟩

/-- What every step keeps of a predicate that work keeps, that a start record does not bear on, and that holds after
reset. -/
theorem step_keeps {P : State → Prop} (kept : ∀ s t, Kept anyWork s t → P s → P t)
    (pending : ∀ s l, P s → P { s with pending := l }) (record : ∀ s c, P s → P { s with record := some c })
    (reset : ∀ s, P s → P (resetNode s)) (h : P s) (ht : step s = .next t) : P t := by
  obtain ⟨l, hu | ⟨⟨v, r, hv, -, -, hw⟩, -, -⟩ | rfl⟩ := step_cases (k := anyWork) False.elim False.elim id ht
  · exact kept _ _ hu (pending s l h)
  · exact kept _ _ hw (record _ _ (kept _ _ hv (pending s l h)))
  · exact reset _ (pending s l h)

/-! ## The Halt Line (R107, R108) -/

theorem haltedOk_iff (s : State) : haltedOk s = true ↔ (s.halt.asserted = true → ∀ a, (s.axis a).move = none) := by
  simp only [haltedOk, Bool.or_eq_true, Bool.not_eq_true', Bool.and_eq_true, Option.isNone_iff_eq_none]
  constructor
  · intro h ha a
    obtain ⟨hb, ht⟩ := h.resolve_left (by simp [ha])
    cases a
    · exact hb
    · exact ht
  · intro h
    by_cases ha : s.halt.asserted = true
    · exact .inr ⟨h ha .bridge, h ha .trolley⟩
    · exact .inl (by simpa using ha)

/-- R108: no move is in hand after work that takes up none. -/
theorem Kept.haltedOk {k : Scope} (K : Kept k s t) (hm : k.moveless) (hk : ∀ a, k.tracked a) (ha : axesOk s = true)
    (h : haltedOk s = true) : haltedOk t = true := by
  rw [axesOk_iff] at ha
  rw [haltedOk_iff] at *
  intro ht a
  by_cases hs : s.halt.asserted = true
  · exact K.rest hm a (hk a) (ha a) (h hs a)
  · exact K.edge hm a (hk a) (ha a) (by simpa using hs) ht

theorem Kept.axesOk {k : Scope} (K : Kept k s t) (hk : ∀ a, k.tracked a) (ha : axesOk s = true) : axesOk t = true := by
  rw [axesOk_iff] at *
  exact fun a => K.axis a (hk a) (ha a)

theorem handledBy_halt {kind tag : Nat} {reply : State → Reply}
    (h : (reply (taken s kind tag)).state.halt = s.halt) : (handledBy kind tag reply s).halt = s.halt := by
  unfold handledBy
  split
  · rfl
  · split
    · simp
    · simp [respond, h]

/-- R108: the commands that take up moves leave the Halt Line Unit. -/
theorem exec_takesMoves_halt {c : Instr} (hc : takesMoves c = true) (h : exec c s = .next t) : t.halt = s.halt := by
  have moved (q : MoveRequest) (u : State) : (handleMove q u).state.halt = u.halt := by
    unfold handleMove
    split
    · rfl
    · exact acceptMove_halt q
  have replied {α : Type} (own : α → State → Reply) (ho : ∀ a u, (own a u).state.halt = u.halt) (body : Body α) (u : State) :
      (replyTo false .none body own u).state.halt = u.halt := by
    unfold replyTo
    split
    · rfl
    · split
      · rfl
      · exact ho _ _
  have goes (q : GoToRequest) (u : State) : (handleGoTo q u).state.halt = u.halt := by
    unfold handleGoTo
    split
    · rfl
    · exact moved _ _
  cases c
  case move tag body =>
    cases h
    rw [request_handled]
    exact handledBy_halt ((replied _ moved _ _).trans (taken_halt s 5 tag))
  case goTo tag body =>
    cases h
    rw [request_handled]
    exact handledBy_halt ((replied _ goes _ _).trans (taken_halt s 6 tag))
  all_goals cases hc

/-- R106, R107: the line stands as drive and level make it after every step. -/
theorem step_lineOk (h : lineOk s = true) (ht : step s = .next t) : lineOk t = true := by
  obtain ⟨l, hu | hu | rfl⟩ := step_cases (k := anyWork) False.elim False.elim id ht
  · exact hu.line h
  · exact hu.line
  · rfl

/-- R108: no move outlives a halt. -/
theorem step_haltedOk (ha : axesOk s = true) (h : haltedOk s = true) (ht : step s = .next t) : haltedOk t = true := by
  by_cases hm : s.halt.asserted = true ∨ ∀ c l, s.pending = c :: l → takesMoves c = false
  · obtain ⟨l, hu | ⟨⟨v, r, hv, -, -, hw⟩, -, -⟩ | rfl⟩ := step_cases (k := moveless) False.elim (fun _ => hm) id ht
    · exact hu.haltedOk trivial (fun _ => trivial) ha h
    · exact hw.haltedOk trivial (fun _ => trivial) (hv.axesOk (fun _ => trivial) ha)
        (hv.haltedOk trivial (fun _ => trivial) ha h)
    · rfl
  · simp only [not_or, not_forall, Bool.not_eq_false] at hm
    obtain ⟨hs, c, l, hp, hc⟩ := hm
    rw [step, hp] at ht
    have := exec_takesMoves_halt hc ht
    rw [haltedOk_iff, this]
    exact fun h => absurd h hs

/-! ## Speeds (R82, R85, R90, R108) -/

theorem recordChecked_of_configuredOk (h : configuredOk s = true) : recordChecked s := by
  intro c hc
  simp only [configuredOk, Bool.and_eq_true, hc] at h
  simpa using h.1.1.2

theorem record_none_of_unconfigured (h : configuredOk s = true) (hn : s.node = .unconfigured) : s.record = none := by
  simp only [configuredOk, Bool.and_eq_true, hn] at h
  cases hr : s.record <;> simp_all

/-- Without a start record an axis stands and has no move in hand. -/
theorem speedOk_unconfigured {a : Axis} (h : s.record = none) : speedOk s a = true ↔
    magnitude (s.axis a).setpoint = 0 ∧ (s.axis a).move = none := by
  rw [speedOk_eq, speedFits_iff]
  simp [h]

/-- R8: the start record that enters into force has passed its check. -/
theorem recordChecked_accepted {c : StartRecord} (h : startRecordFailure c = none) :
    recordChecked { s with record := some c } := by
  rintro _ ⟨⟩
  exact h

theorem step_speedOk {a : Axis} (hc : configuredOk s = true) (ha : axesOk s = true) (h : speedOk s a = true)
    (ht : step s = .next t) : speedOk t a = true := by
  have hr := recordChecked_of_configuredOk hc
  rw [axesOk_iff] at ha
  obtain ⟨l, hu | ⟨⟨v, r, hv, hn, hf, hw⟩, -, -⟩ | rfl⟩ := step_cases (k := anyWork) False.elim False.elim id ht
  · exact hu.speed hr a trivial (ha a) h
  · have hs : s.node = .unconfigured := by
      by_contra hs
      exact hv.node hs hn
    have none : v.record = none := hv.record.trans (record_none_of_unconfigured hc hs)
    refine hw.speed (recordChecked_accepted hf) a trivial (hv.axis a trivial (ha a)) ?_
    have := (speedOk_unconfigured none).mp (hv.speed hr a trivial (ha a) h)
    rw [speedOk_eq, speedFits_iff]
    exact .inl this
  · cases a <;> rfl

/-- R108: while the line is asserted no setpoint rises. -/
theorem step_slow {a : Axis} (hl : lineOk s = true) (hx : axesOk s = true) (hh : haltedOk s = true)
    (hc : configuredOk s = true) (ha : s.halt.asserted = true) (ht : step s = .next t) :
    magnitude (t.axis a).setpoint ≤ magnitude (s.axis a).setpoint := by
  rw [axesOk_iff] at hx
  obtain ⟨l, hu | ⟨⟨v, r, hv, hn, hf, hw⟩, -, -⟩ | rfl⟩ := step_cases (k := moveless) False.elim (fun _ => .inl ha) id ht
  · exact hu.slow trivial (recordChecked_of_configuredOk hc) a trivial (hx a) ((haltedOk_iff s).mp hh ha a)
  · exfalso
    have hs : s.node = .unconfigured := by
      by_contra hs
      exact hv.node hs hn
    simp [lineOk, lineDue, record_none_of_unconfigured hc hs, ha] at hl
  · have : (State.axis (resetNode { s with pending := l }) a).setpoint = 0 := by cases a <;> rfl
    rw [this]
    exact magnitude_nonneg _

/-! ## The start record, the node state and the query scan (R8, R11, R143) -/

theorem configuredOk_iff (s : State) : configuredOk s = true ↔
    (s.record.isSome = true ↔ s.node ≠ .unconfigured) ∧ recordChecked s ∧ (s.record.isSome = true ∨ s.link.attempt = none) ∧
      (s.listen = none ∨ s.node = .listening) := by
  have checked : (s.record.all fun c => (startRecordFailure c).isNone) = true ↔ recordChecked s := by
    simp [recordChecked, Option.all_eq_true]
  have state : (s.record.isSome == (s.node != .unconfigured)) = true ↔ (s.record.isSome = true ↔ s.node ≠ .unconfigured) := by
    rw [beq_iff_eq, Bool.eq_iff_iff, bne_iff_ne]
  rw [configuredOk, Bool.and_eq_true, Bool.and_eq_true, Bool.and_eq_true, checked, state]
  simp only [Bool.or_eq_true, Option.isNone_iff_eq_none, beq_iff_eq, and_assoc]

theorem step_configuredOk (h : configuredOk s = true) (ht : step s = .next t) : configuredOk t = true := by
  obtain ⟨hr, hc, ha, hl⟩ := (configuredOk_iff s).mp h
  obtain ⟨l, hu | ⟨⟨v, r, hv, hn, hf, hw⟩, -, hnode⟩ | rfl⟩ := step_cases (k := configured) (fun _ => h) False.elim id ht
  · have node : (t.record.isSome = true ↔ t.node ≠ .unconfigured) := by
      rw [hu.record, hr]
      exact ⟨hu.node, fun g e => g (hu.stays trivial e)⟩
    refine (configuredOk_iff t).mpr ⟨node, hu.checked hc, ?_, hu.listen hl⟩
    rw [node]
    exact hu.attempt (by rw [← hr]; exact ha)
  · have record : t.record = some r := hw.record
    refine (configuredOk_iff t).mpr ⟨by simp [record, hnode], ?_, .inl (by simp [record]), .inr hnode⟩
    intro c hc
    rw [record] at hc
    cases hc
    exact hf
  · rfl

end Sys2Proof.Machine

namespace Sys2Proof.Proofs

open Machine

/-- Settles O7: work keeps the queue by the rules of insertion, merging, attempt, loss and taking, and reset empties it. -/
theorem transmitQueueKept : Obligations.TransmitQueueKept := by
  intro s h t ht
  exact step_keeps (P := fun s => queueOk s.link = true) (fun _ _ k => k.queue) (fun _ _ => id) (fun _ _ => id)
    (fun _ _ => rfl) h ht

/-- Settles O12: every part of the work keeps the bounds, the tables' form and the bays, which hold after reset. -/
theorem boundsAndTablesKept : Obligations.BoundsAndTablesKept := by
  refine ⟨fun s h t ht => ?_, fun s h t ht => ?_, fun s h t ht => ?_⟩
  · exact step_keeps (P := fun s => boundsOk s = true) (fun _ _ k => k.bounds) (fun _ _ => id) (fun _ _ => id)
      (fun _ _ => rfl) h ht
  · exact step_keeps (P := fun s => tablesOk s = true) (fun _ _ k => k.tables) (fun _ _ => id) (fun _ _ => id)
      (fun _ _ => rfl) h ht
  · exact step_keeps (P := fun s => baysOk s = true) (fun _ _ k => k.bays) (fun _ _ => id) (fun _ _ => id)
      (fun _ _ => rfl) h ht

/-- Settles O9: each axis record that work puts in place of another is as its state says. -/
theorem axesAsTheirStates : Obligations.AxesAsTheirStates := by
  intro s h t ht
  refine step_keeps (P := fun s => axesOk s = true) (fun s t k h => ?_) (fun _ _ => id) (fun _ _ => id) (fun _ _ => rfl) h ht
  rw [axesOk_iff] at *
  exact fun a => k.axis a trivial (h a)

/-- Settles O8: the line is judged wherever reasons, node state or level change; work that takes up no move leaves none in
hand under an asserted line, and the commands that take up moves leave the line. -/
theorem haltLineStateKept : Obligations.HaltLineStateKept :=
  ⟨fun _ h _ ht => step_lineOk h ht, fun _ _ ha h _ ht => step_haltedOk ha h ht⟩

/-- Settles O10: each record that work puts in place of an axis's keeps the speed bounds, and without a move in hand none
raises a setpoint. -/
theorem speedsKept : Obligations.SpeedsKept :=
  ⟨fun _ _ hc ha h _ ht => step_speedOk hc ha h ht, fun _ _ hl hx hh hc ha _ ht => step_slow hl hx hh hc ha ht⟩

end Sys2Proof.Proofs

/-! PROOFS. Query scans, the transmitter, and the completion of every command. -/

namespace Sys2Proof.Machine

variable {s t : State}

/-! ## No query scan is owed after a command (R143) -/

theorem handledBy_scanDue {kind tag : Nat} {reply : State → Reply} (h : s.scanDue = false) :
    (handledBy kind tag reply s).scanDue = false := by
  unfold handledBy
  split
  · exact h
  · split
    · simpa using h
    · simp [respond]

theorem expire_scanDue (o : Option Nat) (act : State → State) (h : s.scanDue = false) : (expire o act s).scanDue = false := by
  cases o with
  | none => exact h
  | some d => simp [expire]

theorem receive_scanDue (sender : Nat) (wellCoded : Bool) (deliver : State → State) (h : s.scanDue = false) :
    (receive s sender wellCoded deliver).scanDue = false := by
  unfold receive
  split
  · exact h
  · dsimp only
    split
    · simp
    · exact h

theorem endFlight_scanDue (o : ReleaseOutcome) (d : Option Nat) : (endFlight s o d).scanDue = s.scanDue := by
  unfold endFlight
  split <;> rfl

theorem loseAttempt_scanDue : (loseAttempt s).scanDue = s.scanDue := by
  unfold loseAttempt
  split
  · rfl
  · dsimp only
    split
    · exact endFlight_scanDue _ _
    · rfl

theorem failFrame_scanDue (after : Receiver) (header : Option (Nat × Nat)) (r : Result) :
    (failFrame s after header r).scanDue = s.scanDue := by
  unfold failFrame
  split
  · rfl
  · dsimp only
    split <;> simp

theorem changePosition_scanDue (a : Axis) (x : Option Int) : (changePosition a x s).scanDue = s.scanDue := by
  unfold changePosition followInFault
  dsimp only
  split
  · split <;> simp
  · rfl

theorem changeSlow_scanDue (a : Axis) (d : Side) (level : Bool) : (changeSlow a d level s).scanDue = s.scanDue := by
  unfold changeSlow cutSpeed
  dsimp only
  split
  · split <;> simp
  · rfl

theorem endLimit_scanDue (a : Axis) (d : Side) (level : Bool) (h : s.scanDue = false) :
    (changeLimit a d level s).scanDue = false := by
  unfold changeLimit
  dsimp only
  split
  · simp
  · exact h

theorem countHoist_scanDue (up : Bool) (h : s.scanDue = false) : (countHoist up s).scanDue = false := by
  unfold countHoist
  split
  · simp
  · exact h

theorem changeTopReference_scanDue (level : Bool) (h : s.scanDue = false) :
    (changeTopReference level s).scanDue = false := by
  unfold changeTopReference
  dsimp only
  split
  · simp
  · exact h

theorem changeDataReady_scanDue (level : Bool) (h : s.scanDue = false) : (changeDataReady level s).scanDue = false := by
  unfold changeDataReady
  dsimp only
  split <;> simpa using h

theorem completeSample_scanDue (b : Byte) (h : s.scanDue = false) : (completeSample b s).scanDue = false := by
  unfold completeSample
  split
  · simp
  all_goals exact h

theorem takeAttempt_scanDue (h : s.scanDue = false) : (takeAttempt s).scanDue = false := by
  unfold takeAttempt
  split
  · exact h
  · simp

theorem beginAttempt_scanDue : (beginAttempt s).scanDue = s.scanDue := by
  rcases beginAttempt_cases s with e | ⟨-, q, a, e⟩ <;> rw [e]

theorem frameSent_scanDue (h : s.scanDue = false) : (frameSent s).scanDue = false := by
  unfold frameSent
  split
  · exact h
  · split
    · exact h
    · split
      · rfl
      · exact h

theorem exec_work_scanDue {c : Instr} (hr : requestHeader c = none) (h : s.scanDue = false) :
    ∃ t, exec c s = .next t ∧ t.scanDue = false := by
  cases c <;> try cases hr
  case powerOn => exact ⟨_, rfl, rfl⟩
  case impossibleLength => exact ⟨_, rfl, (failFrame_scanDue _ _ _).trans h⟩
  case incomplete => exact ⟨_, rfl, (failFrame_scanDue _ _ _).trans h⟩
  case badCheck => exact ⟨_, rfl, (failFrame_scanDue _ _ _).trans h⟩
  case resyncSilence => exact ⟨_, rfl, by split <;> exact h⟩
  case busy => exact ⟨_, rfl, by split <;> simpa using h⟩
  case responseSent => exact ⟨_, rfl, frameSent_scanDue h⟩
  case attempt => exact ⟨_, rfl, beginAttempt_scanDue.trans h⟩
  case contentionLoss => exact ⟨_, rfl, loseAttempt_scanDue.trans h⟩
  case taken => exact ⟨_, rfl, takeAttempt_scanDue h⟩
  case checkError => exact ⟨_, rfl, h⟩
  case settleTimerExpiry => exact ⟨_, rfl, finish_scanDue _⟩
  case positionInputChange => exact ⟨_, rfl, (changePosition_scanDue _ _).trans h⟩
  case slowdownEdge => exact ⟨_, rfl, (changeSlow_scanDue _ _ _).trans h⟩
  case endLimitEdge => exact ⟨_, rfl, endLimit_scanDue _ _ _ h⟩
  case hoistCount => exact ⟨_, rfl, countHoist_scanDue _ h⟩
  case topReferenceEdge => exact ⟨_, rfl, changeTopReference_scanDue _ h⟩
  case haltLineLevelChange => exact ⟨_, rfl, finish_scanDue _⟩
  case dataReadyEdge => exact ⟨_, rfl, changeDataReady_scanDue _ h⟩
  case sample => exact ⟨_, rfl, completeSample_scanDue _ h⟩
  case converterByteComplete => exact ⟨_, rfl, h⟩
  case positionReport => exact ⟨_, rfl, receive_scanDue _ _ _ h⟩
  case join => exact ⟨_, rfl, receive_scanDue _ _ _ h⟩
  case extend => exact ⟨_, rfl, receive_scanDue _ _ _ h⟩
  case objection => exact ⟨_, rfl, receive_scanDue _ _ _ h⟩
  case release => exact ⟨_, rfl, receive_scanDue _ _ _ h⟩
  case makeWay => exact ⟨_, rfl, receive_scanDue _ _ _ h⟩
  case storeNotice => exact ⟨_, rfl, receive_scanDue _ _ _ h⟩
  case slotQuery => exact ⟨_, rfl, receive_scanDue _ _ _ h⟩
  case bayNotice => exact ⟨_, rfl, receive_scanDue _ _ _ h⟩
  all_goals exact ⟨_, rfl, expire_scanDue _ _ h⟩

/-- R143: a scan owed is made at the end of the command that owes it. -/
theorem exec_scanDue (c : Instr) (h : s.scanDue = false) : ∃ t, exec c s = .next t ∧ t.scanDue = false := by
  cases hr : requestHeader c with
  | some header =>
    obtain ⟨reply, e, -⟩ := exec_request hr
    exact ⟨_, e, handledBy_scanDue h⟩
  | none => exact exec_work_scanDue hr h

theorem step_settled (h : settled s = true) (ht : step s = .next t) : settled t = true := by
  have h : s.scanDue = false := by simpa [settled] using h
  unfold step at ht
  split at ht
  · cases ht
    simpa [settled, idle] using h
  · rename_i c rest _
    obtain ⟨u, e, hu⟩ := exec_scanDue (s := { s with pending := rest }) c h
    rw [ht] at e
    cases e
    simp [settled, hu]

/-! ## The transmitter (R191) -/

theorem transmitterOk_iff (p : Port) : transmitterOk p = true ↔
    p.transmit.countP (fun f => !f.immediate) = (if p.inHand.isSome then 1 else 0) ∧
      p.transmit.tail.countP (·.immediate) ≤ 1 := by
  simp [transmitterOk]

theorem transmitterOk_congr {p q : Port} (hi : q.inHand = p.inHand) (ht : q.transmit = p.transmit) :
    transmitterOk q = transmitterOk p := by
  simp [transmitterOk, hi, ht]

/-- R191: an immediate answer joins the list only while none waits in it. -/
theorem answerAtOnce_transmitterOk {kind tag : Nat} {st : Status} {r : Result} (h : transmitterOk s.port = true) :
    transmitterOk (answerAtOnce s kind tag st r).port = true := by
  unfold answerAtOnce
  split
  · exact h
  · rename_i hw
    obtain ⟨h1, h2⟩ := (transmitterOk_iff _).mp h
    refine (transmitterOk_iff _).mpr ⟨?_, ?_⟩
    · rw [transmit, List.countP_append]
      simpa using h1
    rw [transmit]
    cases ht : s.port.transmit with
    | nil => simp
    | cons f q =>
      have : q.countP (·.immediate) = 0 := by simpa [ht, List.countP_eq_zero] using hw
      simp [this]

/-- R191: with no request in hand before, the response is the only one in the list. -/
theorem respond_transmitterOk {kind tag : Nat} {r : Reply} (h : transmitterOk s.port = true) (hs : s.port.inHand = none)
    (hi : r.state.port.inHand = (taken s kind tag).port.inHand)
    (ht : r.state.port.transmit = (taken s kind tag).port.transmit) :
    transmitterOk (respond kind tag r).port = true := by
  rw [transmitterOk_iff] at *
  obtain ⟨h1, h2⟩ := h
  have inHand : (respond kind tag r).port.inHand = some (kind, tag) := by
    simp [respond, transmit, hi, taken, takeInHand]
  have list : (respond kind tag r).port.transmit = s.port.transmit ++ [⟨false, kind, tag, r.status, r.result⟩] := by
    simp [respond, transmit, ht]
  rw [inHand, list]
  rw [hs] at h1
  constructor
  · simpa using h1
  · cases hl : s.port.transmit with
    | nil => simp
    | cons f q => simpa [hl] using h2

theorem handledBy_transmitterOk {kind tag : Nat} {reply : State → Reply} (h : transmitterOk s.port = true)
    (hr : (reply (taken s kind tag)).state.port.inHand = (taken s kind tag).port.inHand ∧
      (reply (taken s kind tag)).state.port.transmit = (taken s kind tag).port.transmit) :
    transmitterOk (handledBy kind tag reply s).port = true := by
  unfold handledBy
  split
  · exact h
  · split
    · refine answerAtOnce_transmitterOk ?_
      rw [transmitterOk_congr (p := s.port) (by unfold restartHostTimer; split <;> rfl)
        (by unfold restartHostTimer; split <;> rfl)]
      exact h
    · exact respond_transmitterOk h (by simpa using ‹¬ s.port.inHand.isSome = true›) hr.1 hr.2

/-- The scope of work that does not use the port's transmitter. -/
def portless : Scope := ⟨False, False, True, fun _ => True, fun _ => True⟩

theorem frameSent_transmitterOk (h : transmitterOk s.port = true) : transmitterOk (frameSent s).port = true := by
  unfold frameSent
  split
  · exact h
  · rename_i f rest hl
    obtain ⟨h1, h2⟩ := (transmitterOk_iff _).mp h
    rw [hl] at h1 h2
    have tail : rest.tail.countP (·.immediate) ≤ 1 := (rest.tail_sublist.countP_le).trans h2
    split
    · rename_i hf
      rw [transmitterOk_iff]
      exact ⟨by simpa [hf] using h1, tail⟩
    · rename_i hf
      split
      · rfl
      · rw [transmitterOk_iff]
        refine ⟨?_, tail⟩
        have : rest.countP (fun f => !f.immediate) + 1 ≤ 1 := by
          rw [List.countP_cons_of_pos (by simpa using hf)] at h1
          split at h1 <;> omega
        simp only [Option.isSome_none, Bool.false_eq_true, if_false]
        omega

/-- R8: Configure leaves the request in hand and the transmitter's list to the port. -/
theorem handleConfigure_transmitter (c : StartRecord) (u : State) :
    (handleConfigure c u).state.port.inHand = u.port.inHand ∧ (handleConfigure c u).state.port.transmit = u.port.transmit := by
  unfold handleConfigure
  split
  · exact ⟨rfl, rfl⟩
  · split
    · exact ⟨rfl, rfl⟩
    · rename_i hn _ _
      exact (takeUpRecord_kept (k := portless) c id (fun h => by
        simpa [claimOk, claimless, show u.node = .unconfigured by simpa using hn] using h)).transmitter trivial

theorem exec_answer_transmitterOk {c : Instr} (hr : requestHeader c = none)
    (ha : ¬ (answers c = false ∧ starts c = false)) (h : transmitterOk s.port = true) :
    ∃ t, exec c s = .next t ∧ transmitterOk t.port = true := by
  have failed (header : Option (Nat × Nat)) (r : Result) : transmitterOk (failFrame s .hunt header r).port = true := by
    unfold failFrame
    split
    · exact h
    · cases header
      · exact h
      · exact answerAtOnce_transmitterOk h
  cases c <;> try cases hr
  case powerOn => exact ⟨_, rfl, rfl⟩
  case responseSent => exact ⟨_, rfl, frameSent_transmitterOk h⟩
  case incomplete => exact ⟨_, rfl, failed _ _⟩
  case badCheck => exact ⟨_, rfl, failed _ _⟩
  case busy =>
    refine ⟨_, rfl, ?_⟩
    split
    · exact h
    · refine answerAtOnce_transmitterOk ?_
      rw [transmitterOk_congr (p := s.port) (by unfold restartHostTimer; split <;> rfl)
        (by unfold restartHostTimer; split <;> rfl)]
      exact h
  all_goals exact absurd ⟨rfl, rfl⟩ ha

theorem exec_work_transmitterOk {c : Instr} (hr : requestHeader c = none) (h : transmitterOk s.port = true) :
    ∃ t, exec c s = .next t ∧ transmitterOk t.port = true := by
  by_cases ha : answers c = false ∧ starts c = false
  · obtain ⟨t, e, kept⟩ := exec_work (k := portless) (s := s) hr ha.2 False.elim fun _ => ha.1
    obtain ⟨hi, ht⟩ := kept.transmitter trivial
    exact ⟨t, e, (transmitterOk_congr hi ht).trans h⟩
  · exact exec_answer_transmitterOk hr ha h

theorem exec_transmitterOk (c : Instr) (h : transmitterOk s.port = true) :
    ∃ t, exec c s = .next t ∧ transmitterOk t.port = true := by
  cases hr : requestHeader c with
  | some header =>
    by_cases hc : starts c = false
    · obtain ⟨reply, e, kept⟩ := exec_request hr
      exact ⟨_, e, handledBy_transmitterOk h ((kept hc portless _ False.elim).transmitter trivial)⟩
    · cases c <;> try exact absurd rfl hc
      case configure tag body =>
        refine ⟨_, rfl, ?_⟩
        rw [request_handled]
        refine handledBy_transmitterOk h ?_
        unfold replyTo
        split
        · exact ⟨rfl, rfl⟩
        · split
          · exact ⟨rfl, rfl⟩
          · exact handleConfigure_transmitter _ _
      all_goals cases hr
  | none => exact exec_work_transmitterOk hr h

theorem step_transmitterOk (h : transmitterOk s.port = true) (ht : step s = .next t) : transmitterOk t.port = true := by
  unfold step at ht
  split at ht
  · cases ht
    exact h
  · rename_i c rest _
    obtain ⟨u, e, hu⟩ := exec_transmitterOk (s := { s with pending := rest }) c h
    rw [ht] at e
    cases e
    exact hu

/-! ## Completion -/

/-- R8: what is kept by an acceptance of the queue of commands and the clock. -/
theorem exec_completes (c : Instr) (s : State) : ∃ t, exec c s = .next t ∧ t.pending = s.pending ∧ s.now ≤ t.now := by
  obtain ⟨t, e, hu | ⟨⟨v, r, hv, -, -, hw⟩, -, -⟩ | rfl⟩ := exec_cases (c := c) (s := s) (k := anyWork) False.elim False.elim id
  · exact ⟨t, e, hu.pending, hu.now⟩
  · exact ⟨t, e, hw.pending.trans hv.pending, hv.now.trans hw.now⟩
  · exact ⟨_, e, rfl, le_rfl⟩

/-- The expiry of a timer that is stopped does nothing. -/
theorem exec_stopped_timer {c : Instr} (h : timerOf s c = some none) : exec c s = .next s := by
  have stopped {o : Option Nat} (ho : some o = some none) (act : State → State) : expire o act s = s := by
    cases ho
    rfl
  cases c
  case hostSilenceExpiry => exact congrArg _ (stopped h _)
  case listenWindowEnd => exact congrArg _ (stopped h _)
  case reportTimerExpiry => exact congrArg _ (stopped h _)
  case silenceTimeout => exact congrArg _ (stopped h _)
  case isolationTimeout => exact congrArg _ (stopped h _)
  case armingExpiry => exact congrArg _ (stopped h _)
  case releaseWindowExpiry => exact congrArg _ (stopped h _)
  case joinWindowExpiry => exact congrArg _ (stopped h _)
  case extensionWindowExpiry => exact congrArg _ (stopped h _)
  case peerJoinWindowExpiry => exact congrArg _ (stopped h _)
  case retryTimerExpiry => exact congrArg _ (stopped h _)
  case shrinkTimerExpiry => exact congrArg _ (stopped h _)
  case queryExpiry => exact congrArg _ (stopped h _)
  case answerPlanDue => exact congrArg _ (stopped h _)
  case brakeSettleExpiry => exact congrArg _ (stopped h _)
  case parkTimerExpiry => exact congrArg _ (stopped h _)
  case profilePeriod => exact congrArg _ (stopped h _)
  case waitTimeout => exact congrArg _ (stopped h _)
  case sampleTimerExpiry => exact congrArg _ (stopped h _)
  all_goals cases h

end Sys2Proof.Machine

namespace Sys2Proof.Proofs

open Machine

/-- Settles O2: what every command leaves is named; a stopped timer's expiry and an empty queue by their equations. -/
theorem everyCommandCompletes : Obligations.EveryCommandCompletes :=
  ⟨exec_completes, fun _ _ h => exec_stopped_timer h, fun s h => by
    unfold step
    split
    · rfl
    · rename_i e
      rw [h] at e
      cases e⟩

/-- Settles O6: events are raised and cleared by rules that keep them; the transmitter by the three ways of a request. -/
theorem eventsAndTransmitterKept : Obligations.EventsAndTransmitterKept :=
  ⟨fun _ h _ ht => step_keeps (P := fun s => eventsOk s.port = true) (fun _ _ k => k.events) (fun _ _ => id)
    (fun _ _ => id) (fun _ _ => rfl) h ht, fun _ h _ ht => step_transmitterOk h ht⟩

/-- Settles O11: claims and peer records by what each change of them keeps, the start record by the one command that
replaces it, and the scan by the end of every handling. -/
theorem recordAndClaimsKept : Obligations.RecordAndClaimsKept := by
  refine ⟨fun s h t ht => ?_, fun s h t ht => ?_, fun s h hs t ht => ⟨step_configuredOk h ht, step_settled hs ht⟩⟩
  · exact step_keeps (P := fun s => claimOk s = true) (fun _ _ k => k.claim) (fun _ _ => id) (fun _ _ => id)
      (fun _ _ => rfl) h ht
  · refine step_keeps (P := fun s => peersOk s = true) (fun s t k h => ?_) (fun _ _ => id) (fun _ _ => id) (fun _ _ => rfl)
      h ht
    rw [peersOk_iff] at *
    exact fun r => k.peers r trivial (h r)

end Sys2Proof.Proofs

/-! PROOFS. The step, the reset, and the requests as a whole. -/

namespace Sys2Proof.Machine

variable {s : State}

/-- A rank without a record reads as after reset; so does every rank after reset. -/
theorem reset_peer (r : Nat) : State.reset.peer r = .reset := by
  match r with
  | 0 | 1 | 2 | 3 | 4 | 5 | 6 | 7 | 8 => rfl
  | _ + 9 => rfl

theorem reset_bay (b : Nat) : State.reset.bay b = .reset := by
  match b with
  | 0 | 1 | 2 | 3 => rfl
  | _ + 4 => rfl

/-! ## Requests in a node that is ready (R191, R192) -/

/-- R192: a request that fits, in a node that is ready, is answered by what its own rules give. -/
theorem request_fields {α : Type} (h : ready s = true) {early : Bool} (hc : early = true ∨ s.record.isSome = true)
    (kind tag : Nat) (unfit : Result) (a : α) (own : α → State → Reply) :
    request kind tag early unfit (.fields a) own s = respond kind tag (own a (taken s kind tag)) := by
  rw [request_ready s h]
  congr 1
  rcases hc with rfl | hc
  · rfl
  · exact replyTo_fields _ (by simpa using hc) _ _ _ _

/-- R192: a reply that leaves the state as the request found it. -/
theorem respond_taken (h : settled s = true) (kind tag : Nat) (st : Status) (r : Result) :
    respond kind tag ⟨taken s kind tag, st, r⟩ = answered (taken s kind tag) kind tag st r :=
  respond_settled kind tag _ (by simpa [settled] using h)

/-- R192: a reply without a scan owed. -/
theorem respond_unscanned {r : Reply} (h : r.state.scanDue = false) (kind tag : Nat) :
    respond kind tag r = answered r.state kind tag r.status r.result :=
  respond_settled kind tag r (by simp [settled, h])

theorem not_scanDue (h : settled s = true) : s.scanDue = false := by simpa [settled] using h

/-- R189, R191: what `ready` says. -/
theorem ready_iff : ready s = true ↔ s.port.receiver = .hunt ∧ s.port.inHand = none := by
  simp [ready]

end Sys2Proof.Machine

namespace Sys2Proof.Proofs

open Machine

/-- Settles O1. -/
theorem stepRunsFrontCommand : Obligations.StepRunsFrontCommand := fun _ _ _ => rfl

/-- Settles O3: the record of each rank and bay is read off by cases, every table is empty. -/
theorem resetValues : Obligations.ResetValues := by
  refine ⟨rfl, rfl, rfl, rfl, rfl, rfl, rfl, rfl, fun r => ?_, rfl, rfl, rfl, fun a => ?_, rfl, fun r => ?_, rfl, rfl, rfl, rfl, rfl,
    rfl, rfl, rfl, rfl, rfl, rfl, rfl, rfl, rfl, rfl, rfl, rfl, rfl, fun _ => rfl, fun _ => rfl, rfl, rfl, rfl, rfl, rfl, rfl, rfl,
    rfl, rfl, rfl, fun b => ?_, rfl, rfl, rfl, rfl, rfl, fun _ => rfl, ?_, rfl, rfl⟩
  · rw [reset_peer]
    exact ⟨rfl, rfl, rfl, rfl, rfl, rfl, rfl, rfl, rfl⟩
  · cases a <;> exact ⟨rfl, rfl, rfl, rfl, rfl, rfl, rfl, rfl, rfl, rfl, rfl, rfl, rfl⟩
  · cases r <;> rfl
  · rw [reset_bay]
    exact ⟨rfl, rfl, rfl, rfl⟩
  · decide

/-- Settles O4: each invariant by evaluation. -/
theorem invariantsHoldAtReset : Obligations.InvariantsHoldAtReset :=
  ⟨rfl, rfl, rfl, rfl, rfl, rfl, rfl, rfl, rfl, rfl, rfl, rfl, rfl, rfl, rfl⟩

/-- Settles O5: by the cases of the head of the transmitter's list. -/
theorem resetAndResponseSent : Obligations.ResetAndResponseSent := by
  refine fun s tag f rest => ⟨rfl, fun hr hs => ?_, fun h => ?_, fun h => ⟨fun hf => ?_, fun hf hk hst => ?_, fun hf hk => ?_⟩⟩
  · show Host.Outcome.next (request ..) = _
    rw [request_fields hr (.inl rfl)]
    exact congrArg _ (respond_taken hs 27 tag .ok .none)
  · show Host.Outcome.next (frameSent s) = _
    rw [frameSent, h]
  all_goals
    show Host.Outcome.next (frameSent s) = _
    rw [frameSent, h]
    dsimp only
  · rw [if_pos hf]
  · rw [if_neg (by simp [hf]), if_pos (by simp [hk, hst])]
    rfl
  · rw [if_neg (by simp [hf]), if_neg]
    simpa [imp_iff_not_or] using hk

/-- Settles O14: every request goes the same way from its completion. -/
theorem requestWhileInHand : Obligations.RequestWhileInHand := by
  intro s hr hi
  have busy (kind tag : Nat) : answerAtOnce (restartHostTimer s) kind tag .busy .none =
      if s.port.transmit.tail.any (·.immediate) then
        { restartHostTimer s with port := { (restartHostTimer s).port with overrun := countUp s.port.overrun } }
      else { restartHostTimer s with
        port := { (restartHostTimer s).port with transmit := s.port.transmit ++ [⟨true, kind, tag, .busy, .none⟩] } } := by
    unfold answerAtOnce transmit restartHostTimer
    split <;> rfl
  refine ⟨fun c h hc => ?_, fun kind tag => ?_⟩
  · obtain ⟨reply, e, -⟩ := exec_request (s := s) hc
    rw [e, handledBy, if_neg hr, if_pos hi, busy]
  · show Host.Outcome.next (if _ then _ else _) = _
    rw [if_neg (by simp [hr, Option.isSome_iff_ne_none.mp hi]), busy]

end Sys2Proof.Proofs

namespace Sys2Proof.Machine

variable {s : State}

/-- R192: what a well-formed request of a kind 1 to 27 is to the port: whether it is handled early, what a wrong length is
answered with, and its payload. -/
theorem exec_request_shape {c : Instr} {h : Nat × Nat} (hc : requestHeader c = some h) (hu : c ≠ .unknownRequest h.1 h.2) :
    ∃ (α : Type) (body : Body α) (own : α → State → Reply),
      exec c s = .next (request h.1 h.2 (handledEarly h.1) (if h.1 = 1 then .field 0 else .none) body own s) ∧
      (unfit c = true → body = .misfit) := by
  cases c <;> cases hc
  case unknownRequest => exact absurd rfl hu
  all_goals exact ⟨_, _, _, rfl, fun h => beq_iff_eq.mp h⟩

/-- R196: the events listed by a state in which they are well kept are all pending. -/
theorem pendingEvents_of_eventsOk {p : Port} (h : eventsOk p = true) : pendingEvents p = p.events ∧
    p.events.filter (fun e => !e.2.pending) = [] := by
  obtain ⟨-, hall, -⟩ := (eventsOk_iff p).mp h
  have pending (e : Nat × EventRecord) (he : e ∈ p.events) : e.2.pending = true := by
    have := hall e he
    simp only [eventOk, Bool.and_eq_true] at this
    exact this.1.1.1
  exact ⟨List.filter_eq_self.mpr pending, List.filter_eq_nil_iff.mpr fun e he => by simp [pending e he]⟩

/-- The keys of a table in canonical form rise. -/
theorem tableAbove_keys {α : Type} [DecidableEq α] {d : α} {t : Table α} {b : Option Nat} (h : tableAbove d b t = true) :
    (t.map (·.1)).Pairwise (· < ·) ∧ ∀ n, b = some n → ∀ k ∈ t.map (·.1), n < k := by
  induction t generalizing b with
  | nil => simp
  | cons e t ih =>
    obtain ⟨k, v⟩ := e
    simp only [tableAbove, Bool.and_eq_true] at h
    obtain ⟨⟨hb, -⟩, ht⟩ := h
    obtain ⟨hp, hk⟩ := ih ht
    refine ⟨by simpa using ⟨fun a x hx => hk k rfl a (List.mem_map_of_mem hx), hp⟩, fun n hn m hm => ?_⟩
    subst hn
    have hnk : n < k := by simpa using hb
    rcases List.mem_cons.mp hm with rfl | hm
    · exact hnk
    · exact hnk.trans (hk k rfl m hm)

/-- An entry of a table in canonical form is what the table reads at its key. -/
theorem tableGet_of_mem {α : Type} [DecidableEq α] {d : α} {t : Table α} {b : Option Nat} (h : tableAbove d b t = true)
    {e : Nat × α} (he : e ∈ t) : tableGet d t e.1 = e.2 := by
  induction t generalizing b with
  | nil => cases he
  | cons f t ih =>
    obtain ⟨k, v⟩ := f
    have rise := (tableAbove_keys h).1
    simp only [List.map_cons, List.pairwise_cons] at rise
    simp only [tableAbove, Bool.and_eq_true] at h
    rcases List.mem_cons.mp he with rfl | he
    · simp [tableGet]
    · have : k < e.1 := rise.1 e.1 (List.mem_map_of_mem he)
      rw [tableGet, if_neg (by omega)]
      exact ih h.2 he

theorem number_lt (d : Detail) : d.number < 16 := by cases d <;> exact Nat.lt_of_sub_eq_succ rfl

/-- R193: an event that is pending is listed, and a listed one has a number below 16. -/
theorem pending_iff_listed {p : Port} (h : eventsOk p = true) (n : Nat) : (eventAt p n).pending = true ↔
    n < 16 ∧ (n, eventAt p n) ∈ p.events := by
  obtain ⟨-, hall, -⟩ := (eventsOk_iff p).mp h
  constructor
  · intro hp
    have listed : (n, eventAt p n) ∈ p.events := by
      refine (tableGet_mem EventRecord.reset p.events n).resolve_left fun e => ?_
      rw [eventAt, e] at hp
      cases hp
    refine ⟨?_, listed⟩
    have := hall _ listed
    simp only [eventOk, Bool.and_eq_true, Option.any_eq_true] at this
    obtain ⟨⟨⟨-, d, -, hd⟩, -⟩, -⟩ := this
    have hd : d.number = n := by simpa using hd
    rw [← hd]
    exact number_lt d
  · rintro ⟨-, listed⟩
    have := hall _ listed
    simp only [eventOk, Bool.and_eq_true] at this
    exact this.1.1.1

/-- R195: the flags that a list of events sets. -/
theorem flags_getLsbD (l : Table EventRecord) (b : BitVec 16) {n : Nat} (hn : n < 16) :
    (l.foldl (fun b (n, e) => if e.pending then b ||| (1#16 <<< n) else b) b).getLsbD n =
      (b.getLsbD n || l.any fun e => e.2.pending && e.1 == n) := by
  induction l generalizing b with
  | nil => simp
  | cons e l ih =>
    obtain ⟨k, v⟩ := e
    rw [List.foldl_cons, ih, List.any_cons, ← Bool.or_assoc]
    congr 1
    have bit : (1#16 <<< k).getLsbD n = (k == n) := by
      rw [BitVec.getLsbD_shiftLeft, BitVec.getLsbD_one]
      rcases lt_trichotomy n k with h | rfl | h
      · simp [h, h.ne']
      · simp [hn]
      · have above : ¬ n - k = 0 := by omega
        have other : (k == n) = false := by simpa using h.ne
        rw [other]
        simp only [decide_eq_false above, Bool.and_false]
    cases hp : v.pending
    · simp [hp]
    · simp [hp, bit]

/-- R195: the pending flags are the pending events. -/
theorem pendingFlags_getLsbD {p : Port} (h : eventsOk p = true) {n : Nat} (hn : n < 16) :
    (pendingFlags p).getLsbD n = (eventAt p n).pending := by
  obtain ⟨hwf, -, -⟩ := (eventsOk_iff p).mp h
  rw [pendingFlags, flags_getLsbD _ _ hn, Bool.eq_iff_iff, pending_iff_listed h]
  simp only [BitVec.getLsbD_zero, Bool.false_or, List.any_eq_true, Bool.and_eq_true, beq_iff_eq]
  constructor
  · rintro ⟨⟨k, e⟩, he, -, rfl⟩
    have get : eventAt p k = e := tableGet_of_mem hwf he
    exact ⟨hn, by rw [get]; exact he⟩
  · intro hl
    exact ⟨_, hl.2, ((pending_iff_listed h n).mpr hl), rfl⟩

/-- R194: Attention is due exactly while a pending event is unmasked. -/
theorem attentionDue_iff {p : Port} (h : eventsOk p = true) (m : BitVec 16) : attentionDue p.events m = true ↔
    ∃ n < 16, (eventAt p n).pending = true ∧ m.getLsbD n = false := by
  obtain ⟨hwf, -, -⟩ := (eventsOk_iff p).mp h
  simp only [attentionDue, List.any_eq_true, Bool.and_eq_true, Bool.not_eq_true']
  constructor
  · rintro ⟨⟨n, e⟩, he, hp, hm⟩
    have get : eventAt p n = e := tableGet_of_mem hwf he
    have pending : (eventAt p n).pending = true := by rw [get]; exact hp
    exact ⟨n, ((pending_iff_listed h n).mp pending).1, pending, hm⟩
  · rintro ⟨n, -, hp, hm⟩
    exact ⟨_, ((pending_iff_listed h n).mp hp).2, hp, hm⟩

/-! ## What leaves the event mask -/

theorem taken_mask (kind tag : Nat) : (taken s kind tag).port.mask = s.port.mask := by
  unfold taken takeInHand restartHostTimer
  split <;> rfl

theorem answerAtOnce_mask (kind tag : Nat) (st : Status) (r : Result) :
    (answerAtOnce s kind tag st r).port.mask = s.port.mask := by
  unfold answerAtOnce
  split <;> rfl

theorem handledBy_mask {kind tag : Nat} {reply : State → Reply}
    (h : (reply (taken s kind tag)).state.port.mask = (taken s kind tag).port.mask) :
    (handledBy kind tag reply s).port.mask = s.port.mask := by
  unfold handledBy
  split
  · rfl
  · split
    · rw [answerAtOnce_mask]
      unfold restartHostTimer
      split <;> rfl
    · simp only [respond, transmit, finish_keeps]
      rw [h, taken_mask]

theorem replyTo_mask {α : Type} {early : Bool} {unfit : Result} {body : Body α} {own : α → State → Reply}
    (h : ∀ a, body = .fields a → (own a s).state.port.mask = s.port.mask) :
    (replyTo early unfit body own s).state.port.mask = s.port.mask := by
  unfold replyTo
  split
  · rfl
  · split
    · rfl
    · exact h _ rfl

theorem enterNode_mask (m : NodeState) : (enterNode s m).port.mask = s.port.mask := by
  have : (enterNode s m).port = (refreshLine (changeNode s m)).port := (enterNode_after_line s m).2.2
  rw [this]
  simp [changeNode]

theorem handleConfigure_mask (c : StartRecord) (u : State) : (handleConfigure c u).state.port.mask = u.port.mask := by
  unfold handleConfigure
  split
  · rfl
  · split
    · rfl
    · simp only [accept, takeUpRecord, startListening, enterNode_mask]
      unfold restartHostTimer
      split <;> simp [latchAtAcceptance]

end Sys2Proof.Machine

namespace Sys2Proof.Proofs

open Machine

/-- Settles O15: by the shape that every request of a known kind has. -/
theorem requestsRefusedAsAWhole : Obligations.RequestsRefusedAsAWhole := by
  intro s c hr hs h hc
  have answer (st : Status) (r : Result) : Host.Outcome.next (φ := Fault) (ρ := Refusal)
      (respond h.1 h.2 ⟨Machine.taken s h.1 h.2, st, r⟩) = .next (answered (Machine.taken s h.1 h.2) h.1 h.2 st r) :=
    congrArg _ (respond_taken hs _ _ st r)
  refine ⟨fun hu => ?_, fun hu hn he => ?_, fun hu he => ?_⟩
  · rw [hu]
    show Host.Outcome.next (request ..) = _
    rw [request_fields hr (.inl rfl)]
    exact answer _ _
  · obtain ⟨α, body, own, e, -⟩ := exec_request_shape (s := s) hc hu
    rw [e, request_ready s hr]
    unfold replyTo
    rw [if_pos (by simp [he, hn])]
    exact answer _ _
  · have hne : c ≠ .unknownRequest h.1 h.2 := by
      rintro rfl
      cases hu
    obtain ⟨α, body, own, e, hb⟩ := exec_request_shape (s := s) hc hne
    obtain rfl := hb hu
    rw [e, request_ready s hr]
    unfold replyTo
    rw [if_neg]
    · exact answer _ _
    · rcases he with he | he
      · simp [Option.isSome_iff_ne_none.mp he]
      · simp [he]

/-- Settles O18: the listed events are the pending ones, and the table's keys rise. -/
theorem readEventsClears : Obligations.ReadEventsClears := by
  intro s tag hr hs he
  obtain ⟨pending, left⟩ := pendingEvents_of_eventsOk he
  refine ⟨?_, (tableAbove_keys ((eventsOk_iff _).mp he).1).1, fun n h => ((pending_iff_listed he n).mp h).2⟩
  show Host.Outcome.next (request ..) = _
  rw [request_fields hr (.inl rfl), handleReadEvents, respond_unscanned (by simpa using not_scanDue hs)]
  have events : (Machine.taken s 3 tag).port.events = s.port.events := taken_events s 3 tag
  simp only [clearReturned, refreshAttention, events, left, pendingEvents] at *
  rw [pending]
  rfl

/-- Settles O19: an entry is listed exactly where its event is pending, so Attention is due where the table says it. -/
theorem setEventMask : Obligations.SetEventMask := by
  refine ⟨fun s tag m hr hs hc he => ⟨_, ?_, attentionDue_iff he m, fun n hn => ?_⟩, by decide, fun s tag c hn => ?_⟩
  · show Host.Outcome.next (request ..) = _
    rw [request_fields hr (.inr hc), handleSetEventMask, respond_unscanned (by simpa using not_scanDue hs)]
    have events : (Machine.taken s 4 tag).port.events = s.port.events := taken_events s 4 tag
    simp only [refreshAttention, pendingFlags, events]
  · exact pendingFlags_getLsbD he hn
  · refine ⟨_, rfl, ?_⟩
    rw [request_handled]
    exact handledBy_mask (replyTo_mask fun c _ => handleConfigure_mask c _)

end Sys2Proof.Proofs

/-! PROOFS. The reading requests, Set Speed, Tare, and the refusals of Move. -/

namespace Sys2Proof.Machine

variable {s : State}

theorem taken_framing (kind tag : Nat) : (taken s kind tag).port.framing = s.port.framing := by
  unfold taken takeInHand restartHostTimer
  split <;> rfl

theorem taken_overrun (kind tag : Nat) : (taken s kind tag).port.overrun = s.port.overrun := by
  unfold taken takeInHand restartHostTimer
  split <;> rfl

theorem taken_axis (kind tag : Nat) (a : Axis) : (taken s kind tag).axis a = s.axis a :=
  axis_of_travel (taken_travel s kind tag) a

theorem taken_position (kind tag : Nat) (a : Axis) : (taken s kind tag).position a = s.position a :=
  position_of_inputs (taken_inputs s kind tag) a

theorem taken_peer (kind tag r : Nat) : (taken s kind tag).peer r = s.peer r := peer_of_peers (taken_peers s kind tag) r

theorem taken_bay (kind tag b : Nat) : (taken s kind tag).bay b = s.bay b := by simp [State.bay]

theorem slotAt_of_store {t : State} (h : t.store = s.store) (n : Nat) : slotAt t n = slotAt s n := by simp [slotAt, h]

theorem rowAt_of_store {t : State} (h : t.store = s.store) (n : Nat) : rowAt t n = rowAt s n := by simp [rowAt, h]

/-- R192: a request whose reply reads the state only. -/
theorem request_reads {α : Type} (h : ready s = true) (hs : settled s = true) {early : Bool}
    (hc : early = true ∨ s.record.isSome = true) {kind tag : Nat} {unfit : Result} {a : α} {own : α → State → Reply}
    {st : Status} {r : Result} (ho : own a (taken s kind tag) = ⟨taken s kind tag, st, r⟩) :
    request kind tag early unfit (.fields a) own s = answered (taken s kind tag) kind tag st r := by
  rw [request_fields h hc, ho, respond_taken hs]

end Sys2Proof.Machine

namespace Sys2Proof.Proofs

open Machine

/-- Settles O17: each report is read off the state that the request finds, which differs from the one before in the request
in hand and the host timer alone. -/
theorem readingRequests : Obligations.ReadingRequests := by
  intro s tag n hr hs
  have unread {kind m b : Nat} (hc : s.record.isSome = true) (h : n < b) (hm : b = m) :
      ¬ ((Machine.taken s kind tag).record.isNone || decide (m ≤ n)) = true := by
    have : s.record ≠ none := Option.isSome_iff_ne_none.mp hc
    simp [this, ← hm, h]
  refine ⟨⟨_, congrArg _ (request_reads hr hs (.inl rfl) rfl), ?_⟩, ⟨_, congrArg _ (request_reads hr hs (.inl rfl) rfl), ?_⟩,
    ⟨(peerRanks s).map (peerReportOf (Machine.taken s 21 tag)), ?_, ?_, ?_⟩, fun hc hn => ?_, fun hn => ?_, fun hc hn => ?_,
    fun hn => ?_⟩
  · simp [statusReport, axisReport, weigherReport, State.axis, freeRoom, reservedSlots, taken_framing, taken_overrun, taken_mask, Config.outboxCapacity]
  · simp [taskReport]
  · have ranks : peerRanks (Machine.taken s 21 tag) = peerRanks s := by simp [peerRanks]
    refine congrArg _ ((request_reads hr hs (.inl rfl) rfl).trans ?_)
    rw [peersReport, ranks, taken_peers]
  · simp [peerReportOf, Function.comp_def]
  · intro p hp
    obtain ⟨r, -, rfl⟩ := List.mem_map.mp hp
    simp only [peerReportOf, taken_peer, timeLeft, taken_now]
    simp
  · refine ⟨_, congrArg _ (request_reads hr hs (.inl rfl) (by rw [handleReadRow, if_neg (unread hc hn (by simp))])), ?_⟩
    simp [rowReport, rowAt, rowCovered, covers, coversInterval, slotAt, heldSlot, Function.comp_def]
  · exact congrArg _ (request_reads hr hs (.inl rfl) (by rw [handleReadRow, if_pos (by simpa using hn)]; rfl))
  · refine ⟨_, congrArg _ (request_reads hr hs (.inl rfl) (by rw [handleReadBay, if_neg (unread hc hn (by simp))])), ?_⟩
    simp [bayReport, taken_bay, bayCovered, coversInterval, bayCoverage]
  · exact congrArg _ (request_reads hr hs (.inl rfl) (by rw [handleReadBay, if_pos (by simpa using hn)]; rfl))

end Sys2Proof.Proofs

/-! SUPPORT. What the end of a move leaves (R63, R73, R79, R104), and the timers and the requests that end or change one. -/

namespace Sys2Proof.Machine

variable {s : State}

/-! ## The records of an axis at rest -/

/-- R87: the record of an axis that has come to HOLDING at a time. -/
def heldRecord (now : Nat) (c : StartRecord) (r : AxisRecord) : AxisRecord :=
  { r with
    state := .holding, setpoint := 0, brake := true, commanded := none, brakeTimer := none, profileTimer := none
    settle := none, waitTimer := none, parkTimer := some (now + 1000 * c.parkDelay) }

/-- R80: the record of an axis that has come to PARKED. -/
def parkedRecord (r : AxisRecord) : AxisRecord :=
  { r with
    state := .parked, setpoint := 0, brake := false, commanded := none, brakeTimer := none, profileTimer := none
    settle := none, waitTimer := none, parkTimer := none }

theorem enterHolding_eq (s : State) (a : Axis) : enterHolding s a = s.withAxis a (heldRecord s.now s.conf (s.axis a)) := rfl

theorem enterParked_eq (s : State) (a : Axis) : enterParked s a = s.withAxis a (parkedRecord (s.axis a)) := rfl

theorem next_eq {t : State} (h : s = t) : (.next s : Handled) = .next t := congrArg _ h

theorem elapse_zero (s : State) : elapse s 0 = s := by simp [elapse]

theorem withAxis_conf (s : State) (a : Axis) (r : AxisRecord) : (s.withAxis a r).conf = s.conf := by simp [State.conf]

theorem withAxis_self (s : State) (a : Axis) : s.withAxis a (s.axis a) = s := by cases a <;> rfl

theorem withAxis_position (s : State) (a b : Axis) (r : AxisRecord) : (s.withAxis a r).position b = s.position b :=
  position_of_inputs (by simp) b

/-! ## The end of a move -/

theorem endMove_some {a : Axis} {m : MoveRecord} (h : (s.axis a).move = some m) (o : MoveOutcome) :
    endMove s a o = recordEnd s a o m.target := by simp [endMove, h]

theorem endMove_none {a : Axis} (h : (s.axis a).move = none) (o : MoveOutcome) : endMove s a o = s := by simp [endMove, h]

/-- R63, R73, R104: the end of a bridge move clears the wanted edge; the shrink timer starts where it may run. -/
theorem reportEnd_claim {o : MoveOutcome} (ho : o ≠ .replaced) :
    (reportEnd s o).claim.wanted = none ∧ (reportEnd s o).claim.retry = none ∧
      (shrinks s = false → (reportEnd s o).claim.confirmed = s.claim.confirmed ∧
        (reportEnd s o).claim.shrink = s.claim.shrink ∧ (reportEnd s o).claim.pending = s.claim.pending) ∧
      (shrinks s = true → s.conf.releaseDelay ≠ 0 → (reportEnd s o).claim.confirmed = s.claim.confirmed ∧
        (reportEnd s o).claim.shrink = some (s.now + 1000 * s.conf.releaseDelay) ∧
        (reportEnd s o).claim.pending = s.claim.pending) := by
  have kept : shrinks (clearWanted s) = shrinks s ∧ (clearWanted s).conf = s.conf := ⟨by simp [shrinks, State.conf], by simp [State.conf]⟩
  have cleared : (clearWanted s).claim.wanted = none ∧ (clearWanted s).claim.retry = none := ⟨rfl, rfl⟩
  unfold reportEnd
  rw [if_neg ho]
  dsimp only
  rw [kept.1, kept.2]
  cases h : shrinks s
  · simp [cleared]
  · by_cases h0 : s.conf.releaseDelay = 0
    · simp [h0, cleared]
    · simp [h0, cleared]

/-- R104: the end of a trolley move is none of the other blocks' but for MOVE_DONE. -/
theorem recordEnd_trolley (o : MoveOutcome) (x : Int) : (recordEnd s .trolley o x).claim = s.claim ∧
    (recordEnd s .trolley o x).link = s.link ∧ (recordEnd s .trolley o x).scanDue = s.scanDue := by
  unfold recordEnd
  dsimp only
  split <;> simp

theorem recordEnd_bridge_claim {o : MoveOutcome} (ho : o ≠ .replaced) (x : Int) :
    (recordEnd s .bridge o x).claim.wanted = none ∧ (recordEnd s .bridge o x).claim.retry = none ∧
      (shrinks s = false → (recordEnd s .bridge o x).claim.confirmed = s.claim.confirmed ∧
        (recordEnd s .bridge o x).claim.shrink = s.claim.shrink ∧
        (recordEnd s .bridge o x).claim.pending = s.claim.pending) ∧
      (shrinks s = true → s.conf.releaseDelay ≠ 0 → (recordEnd s .bridge o x).claim.confirmed = s.claim.confirmed ∧
        (recordEnd s .bridge o x).claim.shrink = some (s.now + 1000 * s.conf.releaseDelay) ∧
        (recordEnd s .bridge o x).claim.pending = s.claim.pending) := by
  unfold recordEnd
  dsimp only
  rw [if_neg ho]
  generalize hu : raiseEvent (s.withAxis .bridge { s.axis .bridge with move := none, last := some ⟨o, x, s.position .bridge⟩ })
    (.moveDone .bridge o x (s.position .bridge)) = u
  have same : u.claim = s.claim ∧ u.now = s.now ∧ u.conf = s.conf ∧ shrinks u = shrinks s := by
    subst hu
    simp [shrinks, State.conf]
  obtain ⟨hc, hn, hf, hs⟩ := same
  rw [← hc, ← hn, ← hf, ← hs]
  exact reportEnd_claim ho

/-- R104: what the end of the move of an axis leaves, from a state that differs from s in the clock and that axis alone. -/
theorem moveEnded_of_recordEnd {a : Axis} {o : MoveOutcome} {d : Nat} {r : AxisRecord} {x : Int} (hs : settled s = true)
    (ho : o ≠ .replaced) : moveEnded s (finish (recordEnd ((elapse s d).withAxis a r) a o x)) a o x := by
  generalize hu : (elapse s d).withAxis a r = u
  have same : u.claim = s.claim ∧ u.link = s.link ∧ u.store = s.store ∧ u.scanDue = s.scanDue ∧ u.port = s.port ∧
      u.conf = s.conf ∧ u.halt = s.halt ∧ shrinks u = shrinks s ∧ u.position a = s.position a ∧
      ∀ b, b ≠ a → u.axis b = s.axis b := by
    subst hu
    refine ⟨by simp, by simp, by simp, by simp, by simp, by simp [State.conf], by simp, by simp [shrinks, State.conf],
      by simp [State.position], fun b h => ?_⟩
    rw [withAxis_other _ h]
    exact axis_of_travel rfl b
  have others : otherBlocksKept s u := by subst hu; simp [otherBlocksKept]
  obtain ⟨hc, hl, hst, hsc, hp, hf, hh, hsh, hpos, hax⟩ := same
  have ended (b : Axis) : (finish (recordEnd u a o x)).axis b = (recordEnd u a o x).axis b := axis_of_travel (by simp) b
  refine ⟨by simp [ended], by simp [ended, hpos], ?_, fun n h0 h7 => ?_, fun e => ?_, fun e => ?_, fun b h => ?_, by simp [hh], ?_⟩
  · simp [recordEnd_event _ _ _ _ ho, hp, hpos]
  · simp [recordEnd_events _ _ _ _ h0 h7, hp]
  · subst e
    obtain ⟨hw, hr, h1, h2⟩ := recordEnd_bridge_claim (s := u) ho x
    simp only [finish_keeps]
    rw [← hc, ← hf, ← hsh]
    refine ⟨hw, hr, fun h => ?_, fun h h0 => ?_⟩
    · have := h1 (by simpa using h)
      exact ⟨this.1, this.2.1⟩
    · have := h2 h h0
      exact ⟨this.1, by rw [this.2.1, recordEnd_keeps u .bridge o x |>.2.2.2.2.2.2.2.2.2.2.1]⟩
  · subst e
    obtain ⟨h1, h2, h3⟩ := recordEnd_trolley (s := u) o x
    rw [finish_settled _ (by rw [h3, hsc]; exact not_scanDue hs)]
    exact ⟨h1.trans hc, h2.trans hl, by simp [hst]⟩
  · rw [ended, recordEnd_other u h, hax b h]
  · simpa [otherBlocksKept] using others

theorem nowHolding_of {a : Axis} {u : State} {r : AxisRecord} {d : Nat} {o : MoveOutcome} {x : Int}
    (hu : (elapse s d).withAxis a (heldRecord (max s.now d) s.conf r) = u) (hl : r.lowHold = (s.axis a).lowHold)
    (hh : r.highHold = (s.axis a).highHold) : nowHolding s (finish (recordEnd u a o x)) a := by
  have ended : (finish (recordEnd u a o x)).axis a = (recordEnd u a o x).axis a := axis_of_travel (by simp) a
  have now : u.now = max s.now d := by subst hu; exact withAxis_now _ _ _
  have record : u.axis a = heldRecord (max s.now d) s.conf r := by subst hu; exact withAxis_axis _ _ _
  simp [nowHolding, ended, record, heldRecord, hl, hh, now]

/-- R87, R104: an axis comes to HOLDING and its move ends. -/
theorem held_and_ended {a : Axis} {u : State} {m : MoveRecord} {d : Nat} {o : MoveOutcome} (hs : settled s = true)
    {r : AxisRecord} (hu : u = (elapse s d).withAxis a r) (hm : r.move = some m) (ho : o ≠ .replaced)
    (hl : r.lowHold = (s.axis a).lowHold) (hh : r.highHold = (s.axis a).highHold) :
    (finish (endMove (enterHolding u a) a o)).now = max s.now d ∧
      nowHolding s (finish (endMove (enterHolding u a) a o)) a ∧
      moveEnded s (finish (endMove (enterHolding u a) a o)) a o m.target := by
  have held : enterHolding u a = (elapse s d).withAxis a (heldRecord (max s.now d) s.conf r) := by
    rw [enterHolding_eq, hu, withAxis_axis, withAxis_withAxis, withAxis_now, withAxis_conf]
    rfl
  have hm' : ((enterHolding u a).axis a).move = some m := by rw [held, withAxis_axis]; exact hm
  rw [endMove_some hm', held]
  exact ⟨by simp [withAxis_now, elapse], nowHolding_of rfl hl hh, moveEnded_of_recordEnd hs ho⟩

end Sys2Proof.Machine

namespace Sys2Proof.Proofs

open Machine

/-- Settles O26: a running timer tells the axis state, which the expiry leaves as its entry to the next one says. -/
theorem axisTimers : Obligations.AxisTimers := by
  intro s a hs hx
  have ha := ((axesOk_iff s).mp hx a).1
  refine ⟨fun d hd => ?_, fun d hd => ?_, fun u hu m hm => ?_, fun hu => ?_, fun d hd m hm => ?_⟩
  · have hst := state_of_brakeTimer ha (by simp [hd])
    obtain ⟨-, -, -, hpark, hprof, hset, hwait, -⟩ := (axisOk_releasing hst).mp ha
    refine next_eq ?_
    rw [hd, expire_some _ _ _ (by simpa [brakeDue, enterMoving, settled] using hs)]
    have hp : (elapse s d).position a = s.position a := rfl
    have hr : (elapse s d).axis a = s.axis a := axis_of_travel rfl a
    rw [brakeDue, enterMoving, withAxis_axis, withAxis_withAxis, hp, hr]
    simp only [withAxis_now, hprof, hpark, hset, hwait]
    cases s.position a <;> rfl
  · have hst := state_of_parkTimer ha (by simp [hd])
    obtain ⟨h0, -, hbrake, -, hprof, hset, hwait, -⟩ := (axisOk_holding hst).mp ha
    refine next_eq ?_
    have hr : (elapse s d).axis a = s.axis a := axis_of_travel rfl a
    rw [hd, expire_some _ _ _ (by simpa [enterParked, settled] using hs), enterParked_eq, hr, parkedRecord]
    simp [h0, hbrake, hprof, hset, hwait]
  · have hst : (s.axis a).state = .settling := by
      by_contra h
      cases hc : (s.axis a).state
      case settling => exact h hc
      all_goals simp [axisOk, hc, hu] at ha
    have due : settleDue a s = endMove (enterHolding s a) a (settleOutcome (axisParams s.conf a) u) := by
      simp only [settleDue, hst, hu]
    have held := held_and_ended (d := 0) (o := settleOutcome (axisParams s.conf a) u) hs (u := s)
      (by rw [elapse_zero, withAxis_self]) hm (by unfold settleOutcome; split <;> simp) rfl rfl
    refine ⟨_, next_eq (congrArg finish due), by simp, held.2.1, ?_⟩
    simpa [settleOutcome, Config.settlingLimit] using held.2.2
  · refine next_eq ?_
    have : settleDue a s = s := by
      unfold settleDue
      split <;> simp_all
    rw [this, finish_settled _ (not_scanDue hs)]
  · have hb := ((axesOk_iff s).mp hx .bridge).1
    have hst : s.travel.bridge.state = .waiting := by
      by_contra h
      change axisOk s.travel.bridge = true at hb
      cases hc : s.travel.bridge.state
      case waiting => exact h hc
      all_goals simp [axisOk, hc, hd] at hb
    have due : waitDue (elapse s d) = endMove (enterHolding (elapse s d) .bridge) .bridge .blocked := if_pos hst
    have held := held_and_ended (d := d) (o := .blocked) hs (u := elapse s d) (a := .bridge)
      (withAxis_self (elapse s d) .bridge).symm hm (by simp) rfl rfl
    refine ⟨_, next_eq ?_, held⟩
    rw [hd]
    exact congrArg finish due

end Sys2Proof.Proofs

/-! PROOFS. The refusals of Move and Go To, Set Speed, Stop Move and Tare. -/

namespace Sys2Proof.Machine

variable {s : State}

/-! ## Move -/

theorem moveRefusal_congr {t : State} (hn : t.node = s.node) (hh : t.halt = s.halt) (ht : t.travel = s.travel)
    (hi : t.inputs = s.inputs) (hw : t.weigher = s.weigher) (hr : t.record = s.record) (q : MoveRequest) :
    moveRefusal t q = moveRefusal s q := by
  have axis (a : Axis) : t.axis a = s.axis a := axis_of_travel ht a
  have pos (a : Axis) : t.position a = s.position a := position_of_inputs hi a
  have held (a : Axis) (x : Int) : heldToward t a x = heldToward s a x := by
    unfold heldToward
    rw [axis, pos, conf_of_record hr]
  have hook : hookForbids t = hookForbids s := by
    unfold hookForbids belowClear
    rw [ht, hw, conf_of_record hr]
  unfold moveRefusal
  dsimp only
  rw [hn, hh, hook, conf_of_record hr]
  simp only [axis, pos, held]

theorem taken_moveRefusal (kind tag : Nat) (q : MoveRequest) : moveRefusal (taken s kind tag) q = moveRefusal s q :=
  moveRefusal_congr (by simp) (by simp) (by simp) (by simp) (by simp) (by simp) q

theorem heldToward_of_moveLimit {q : MoveRequest} (h : moveLimit s q) :
    (namedMoves q).any (fun n => heldToward s n.1 (clampTarget s.conf n.1 n.2.target)) = true := by
  obtain ⟨n, hn, x, hx, far, h⟩ := h
  refine List.any_eq_true.mpr ⟨n, hn, ?_⟩
  simp only [heldToward, hx]
  rw [if_neg (by omega)]
  rcases h with ⟨h, e⟩ | ⟨h, e⟩
  · rw [if_pos h, e]
  · rw [if_neg (by omega), e]

theorem moveRefusal_state {q : MoveRequest} (h : moveState s q) : moveRefusal s q = some .state := by
  rw [moveState_iff] at h
  unfold moveRefusal
  dsimp only
  rcases h with h | h | h | h <;> simp [h]

/-- R81: a Move that passes the STATE tests meets the hook test next. -/
theorem moveRefusal_of_not_state {q : MoveRequest} (h : ¬ moveState s q) : moveRefusal s q =
    if hookForbids s then some .lowHook
    else if (namedMoves q).any fun n => heldToward s n.1 (clampTarget s.conf n.1 n.2.target) then some .limit
    else none := by
  simp only [moveState_iff, not_or, ne_eq, not_not] at h
  obtain ⟨h1, h2, h3, h4⟩ := h
  unfold moveRefusal
  dsimp only
  rw [if_neg (by simp [h1]), if_neg h2, if_neg h3, if_neg h4]

theorem handleMove_refused {q : MoveRequest} {st : Status} (h : moveRefusal s q = some st) :
    handleMove q s = refuse s st := by simp [handleMove, h]

/-- R81: in low hook no Move passes, and a status other than OK and CLAMPED says so. -/
theorem moveRefusal_of_lowHook (h : moveLowHook s) (q : MoveRequest) :
    ∃ st : Status, st ≠ .ok ∧ st ≠ .clamped ∧ moveRefusal s q = some st := by
  by_cases hst : moveState s q
  · exact ⟨.state, by simp, by simp, moveRefusal_state hst⟩
  · refine ⟨.lowHook, by simp, by simp, ?_⟩
    rw [moveRefusal_of_not_state hst, if_pos ((moveLowHook_iff s).mp h)]

/-- R84: the statuses that refuse a place are STATE and RANGE. -/
theorem resolvePlace_error {p : Place} {st : Status} (h : resolvePlace s p = .error st) : st ≠ .ok ∧ st ≠ .clamped := by
  have range (h : (Except.error .range : Except Status Point) = .error st) : st ≠ .ok ∧ st ≠ .clamped := by
    rw [← Except.error.inj h]; simp
  have state (h : (Except.error .state : Except Status Point) = .error st) : st ≠ .ok ∧ st ≠ .clamped := by
    rw [← Except.error.inj h]; simp
  cases p with
  | slot n =>
    simp only [resolvePlace] at h
    split at h
    · cases h
    · exact range h
  | intake i =>
    simp only [resolvePlace] at h
    split at h
    · cases h
    · exact range h
  | cradle b i =>
    simp only [resolvePlace] at h
    split at h
    · exact range h
    · split at h
      · exact state h
      · split at h
        · cases h
        · exact range h
  | hook => exact range h

theorem taken_eventAt (kind tag n : Nat) : eventAt (taken s kind tag).port n = eventAt s.port n := by simp [eventAt]

/-! ## Set Speed -/

/-- R85: the record of an axis that Set Speed names. -/
def speedRecord (c : StartRecord) (a : Axis) (r : AxisRecord) (v : Int) : AxisRecord :=
  let w := clampSpeed c a v
  { r with move := r.move.map fun m => { m with
      requested := w, speed := if magnitude r.setpoint ≤ w then w else m.speed } }

theorem setAxisSpeed_eq (a : Axis) (v : Int) : setAxisSpeed s a v = s.withAxis a (speedRecord s.conf a (s.axis a) v) := by
  unfold setAxisSpeed
  split
  · rename_i h
    have : speedRecord s.conf a (s.axis a) v = s.axis a := by
      rw [speedRecord, h, Option.map_none, ← h]
    rw [this, withAxis_self]
  · rename_i m h
    simp [speedRecord, h]

theorem speedRefused_iff (q : SpeedRequest) : speedRefused s q = false ↔ s.node = .active ∧
    (q.bridge.isSome = true → ∃ m, (s.axis .bridge).move = some m ∧ m.stopOrder = none) ∧
      (q.trolley.isSome = true → ∃ m, (s.axis .trolley).move = some m ∧ m.stopOrder = none) := by
  have fit (a : Axis) : ((s.axis a).move.isNone || (s.axis a).move.any (·.stopOrder.isSome)) = false ↔
      ∃ m, (s.axis a).move = some m ∧ m.stopOrder = none := by cases (s.axis a).move <;> simp
  obtain ⟨b, t⟩ := q
  simp only [← fit]
  cases b <;> cases t <;> simp [speedRefused, namedSpeeds]

theorem foldl_namedSpeeds (q : SpeedRequest) : (namedSpeeds q).foldl (fun t n => setAxisSpeed t n.1 n.2) s =
    q.trolley.elim (q.bridge.elim s (setAxisSpeed s .bridge))
      (setAxisSpeed (q.bridge.elim s (setAxisSpeed s .bridge)) .trolley) := by
  obtain ⟨b, t⟩ := q
  cases b <;> cases t <;> rfl

/-! ## Stop Move -/

/-- R86: the axis states in which Stop Move ends a move at once. -/
def endsAtStop (st : AxisState) : Bool := st == .releasing || st == .settling || st == .waiting

/-- R86: the outcome of a move that Stop Move ends. -/
def stopOutcome (st : AxisState) : MoveOutcome := if st = .waiting then .blocked else .cancelled

/-- R86: the record of an axis that comes to rest at a Stop Move. -/
def restedRecord (s : State) (r : AxisRecord) : AxisRecord :=
  if r.state = .releasing then parkedRecord r else heldRecord s.now s.conf r

theorem stopMoveAxis_ends {a : Axis} {m : MoveRecord} (h : endsAtStop (s.axis a).state = true)
    (hm : (s.axis a).move = some m) : stopMoveAxis s a =
      recordEnd (s.withAxis a (restedRecord s (s.axis a))) a (stopOutcome (s.axis a).state) m.target := by
  have parked (o : MoveOutcome) : endMove (enterParked s a) a o = _ :=
    endMove_some (m := m) (by rw [enterParked_eq, withAxis_axis]; exact hm) o
  have held (o : MoveOutcome) : endMove (enterHolding s a) a o = _ :=
    endMove_some (m := m) (by rw [enterHolding_eq, withAxis_axis]; exact hm) o
  unfold stopMoveAxis restedRecord stopOutcome
  cases hst : (s.axis a).state <;> simp only [endsAtStop, hst] at h ⊢
  case releasing => exact parked _
  case settling => exact held _
  case waiting => exact held _
  all_goals cases h

/-- R95: a stop order leaves one that the move holds already. -/
theorem orderStop_some {a : Axis} {m : MoveRecord} (hm : (s.axis a).move = some m) (o : MoveOutcome) :
    orderStop s a o = s.withAxis a { s.axis a with move := some { m with stopOrder := some (m.stopOrder.getD o) } } := by
  unfold orderStop
  obtain ⟨target, requested, speed, direction, _ | p⟩ := m <;> simp only [hm]
  · rfl
  · rw [Option.getD_some, ← hm, withAxis_self]
    rfl

theorem stopMoveAxis_moving {a : Axis} {m : MoveRecord} (h : (s.axis a).state = .moving) (hm : (s.axis a).move = some m) :
    stopMoveAxis s a = s.withAxis a
      { s.axis a with move := some { m with stopOrder := some (m.stopOrder.getD .cancelled) } } := by
  rw [← orderStop_some hm]
  unfold stopMoveAxis
  simp only [h]

theorem stopMoveAxis_rests {a : Axis} (h : (s.axis a).state = .parked ∨ (s.axis a).state = .holding ∨
    (s.axis a).state = .stopping ∨ (s.axis a).state = .fault) : stopMoveAxis s a = s := by
  unfold stopMoveAxis
  rcases h with h | h | h | h <;> simp only [h]

theorem stopMoveAxis_other {a b : Axis} (h : b ≠ a) : (stopMoveAxis s a).axis b = s.axis b := by
  have held (r : AxisRecord) : (s.withAxis a r).axis b = s.axis b := withAxis_other s h r
  unfold stopMoveAxis orderStop
  simp only [enterParked_eq, enterHolding_eq]
  repeat' split
  all_goals simp only [endMove_other h, held]

/-- R86: where it ends no move, Stop Move leaves all but the axis record. -/
theorem stopMoveAxis_unended {a : Axis} (h : endsAtStop (s.axis a).state = false) :
    ∃ r, stopMoveAxis s a = s.withAxis a r := by
  unfold stopMoveAxis
  cases hst : (s.axis a).state <;> simp only [endsAtStop, hst] at h ⊢
  case moving =>
    unfold orderStop
    repeat' split
    · exact ⟨_, (withAxis_self s a).symm⟩
    · exact ⟨_, rfl⟩
    · exact ⟨_, (withAxis_self s a).symm⟩
  case releasing => cases h
  case settling => cases h
  case waiting => cases h
  all_goals exact ⟨_, (withAxis_self s a).symm⟩

/-- R86: Stop Move, for an axis that it names or not. -/
def stopIf (c : Bool) (s : State) (a : Axis) : State := if c then stopMoveAxis s a else s

theorem handleStopMove_eq (q : AxesRequest) (s : State) :
    handleStopMove q s = accept (stopIf q.trolley (stopIf q.bridge s .bridge) .trolley) := rfl

theorem stopIf_other (c : Bool) {a b : Axis} (h : b ≠ a) : (stopIf c s a).axis b = s.axis b := by
  unfold stopIf
  split
  · exact stopMoveAxis_other h
  · rfl

theorem stopIf_keeps (c : Bool) (s : State) (a : Axis) : (stopIf c s a).inputs = s.inputs ∧
    (stopIf c s a).record = s.record ∧ (stopIf c s a).now = s.now ∧ (stopIf c s a).port.transmit = s.port.transmit ∧
    (stopIf c s a).travel.hoist = s.travel.hoist ∧ (stopIf c s a).halt = s.halt ∧ (stopIf c s a).weigher = s.weigher ∧
    (stopIf c s a).tasks = s.tasks ∧ (stopIf c s a).bays = s.bays ∧ (stopIf c s a).node = s.node ∧
    (stopIf c s a).store = s.store := by
  unfold stopIf
  split <;> simp

/-- R86: where no move ends, Stop Move leaves all but axis records; the end of a trolley move leaves the claim's blocks. -/
theorem stopIf_unended {c : Bool} {a : Axis} (h : ¬ (c = true ∧ endsAtStop (s.axis a).state = true)) :
    ∃ r, stopIf c s a = s.withAxis a r := by
  unfold stopIf
  split
  · exact stopMoveAxis_unended (by simpa [*] using h)
  · exact ⟨_, (withAxis_self s a).symm⟩

theorem stopIf_trolley (ha : axisOk (s.axis .trolley) = true) (c : Bool) : (stopIf c s .trolley).claim = s.claim ∧
    (stopIf c s .trolley).link = s.link ∧ (stopIf c s .trolley).scanDue = s.scanDue := by
  by_cases h : c = true ∧ endsAtStop (s.axis .trolley).state = true
  · obtain ⟨rfl, h⟩ := h
    have hm : (s.axis .trolley).move.isSome = true := by
      cases hst : (s.axis .trolley).state <;> simp [endsAtStop, hst] at h
      case releasing => exact ((axisOk_releasing hst).mp ha).2.2.2.2.2.2.2
      case settling => exact ((axisOk_settling hst).mp ha).2.2.2.2.2.2.2
      case waiting => exact ((axisOk_waiting hst).mp ha).2.2.2.2.2.2.2
    obtain ⟨m, hm⟩ := Option.isSome_iff_exists.mp hm
    rw [stopIf, if_pos rfl, stopMoveAxis_ends h hm]
    simp [recordEnd_trolley]
  · obtain ⟨r, e⟩ := stopIf_unended h
    simp [e]

/-- R86: what Stop Move makes of the record of an axis. -/
theorem stopIf_record (c : Bool) (a : Axis) :
    (c = false ∨ (s.axis a).state = .parked ∨ (s.axis a).state = .holding ∨ (s.axis a).state = .stopping ∨
      (s.axis a).state = .fault → (stopIf c s a).axis a = s.axis a) ∧
    (c = true → (s.axis a).state = .moving → ∀ m, (s.axis a).move = some m → (stopIf c s a).axis a =
      { s.axis a with move := some { m with stopOrder := some (m.stopOrder.getD .cancelled) } }) ∧
    (c = true → endsAtStop (s.axis a).state = true → ∀ m, (s.axis a).move = some m →
      (stopIf c s a).axis a = { restedRecord s (s.axis a) with
        move := none, last := some ⟨stopOutcome (s.axis a).state, m.target, s.position a⟩ } ∧
      eventAt (stopIf c s a).port 0 =
        (eventAt s.port 0).next (.moveDone a (stopOutcome (s.axis a).state) m.target (s.position a))) := by
  refine ⟨fun h => ?_, fun hc h m hm => ?_, fun hc h m hm => ?_⟩
  · unfold stopIf
    split
    · rw [stopMoveAxis_rests (h.resolve_left (by simp [*]))]
    · rfl
  · rw [stopIf, if_pos hc, stopMoveAxis_moving h hm, withAxis_axis]
  · have ho : stopOutcome (s.axis a).state ≠ .replaced := by unfold stopOutcome; split <;> simp
    rw [stopIf, if_pos hc, stopMoveAxis_ends h hm, recordEnd_axis, withAxis_axis, recordEnd_event _ _ _ _ ho,
      withAxis_position]
    exact ⟨rfl, by simp⟩

/-! ## Tare -/

/-- R119, R116: a stable window is full, and its values lie within the band of each other. -/
theorem stable_iff (c : StartRecord) (w : Weigher) : stable c w = true ↔
    w.sensorLost = false ∧ w.window.length = 8 ∧ ∀ a ∈ w.window, ∀ b ∈ w.window, a - b ≤ c.band := by
  simp [stable, spreadWithin, Config.windowCapacity, and_assoc]

end Sys2Proof.Machine

namespace Sys2Proof.Proofs

open Machine

/-- Settles O21: the machine makes the tests in the order of R81, on the state that the request found. -/
theorem moveRefusals : Obligations.MoveRefusals := by
  intro s tag q g hr hs hc
  have refused {q : MoveRequest} {st : Status} (h : moveRefusal s q = some st) (kind : Nat) :
      handleMove q (Machine.taken s kind tag) = ⟨Machine.taken s kind tag, st, .none⟩ :=
    handleMove_refused ((taken_moveRefusal _ _ _).trans h)
  have answer {st : Status} (h : moveRefusal s q = some st) :
      exec (.move tag (.fields q)) s = .next (answered (Machine.taken s 5 tag) 5 tag st .none) :=
    next_eq (request_reads hr hs (.inr hc) (refused h 5))
  refine ⟨fun h => answer (moveRefusal_state h), fun h1 h2 => answer ?_, fun h1 h2 h3 => answer ?_, fun h => ?_⟩
  · rw [moveRefusal_of_not_state h1, if_pos ((moveLowHook_iff s).mp h2)]
  · rw [moveRefusal_of_not_state h1, if_neg (mt (moveLowHook_iff s).mpr h2), if_pos (heldToward_of_moveLimit h3)]
  · cases hp : resolvePlace (Machine.taken s 6 tag) g.place with
    | error st =>
      obtain ⟨h1, h2⟩ := resolvePlace_error hp
      exact ⟨st, h1, h2, next_eq (request_reads hr hs (.inr hc) (by simp [handleGoTo, hp, refuse]))⟩
    | ok p =>
      obtain ⟨st, h1, h2, h⟩ := moveRefusal_of_lowHook h ⟨some ⟨p.x, g.bridgeSpeed⟩, some ⟨p.y, g.trolleySpeed⟩⟩
      exact ⟨st, h1, h2, next_eq (request_reads hr hs (.inr hc) (by simp only [handleGoTo, hp]; exact refused h 6))⟩

/-- Settles O24: each named axis takes its new record, and nothing else of the state is read or written. -/
theorem setSpeedOfAMove : Obligations.SetSpeedOfAMove := by
  intro s tag q hr hs hc _ fit faster accepted
  have hacc : accepted ↔ speedRefused (Machine.taken s 7 tag) q = false := by
    rw [speedRefused_iff]
    simp only [taken_node, taken_axis]
    exact Iff.rfl
  refine ⟨fun h => ?_, fun h => next_eq (request_reads hr hs (.inr hc) ?_)⟩
  · have one (u : State) (a : Axis) (v : Option Int) (hu : u.axis a = s.axis a) (hc : u.conf = s.conf) :
        v.elim u (setAxisSpeed u a) = u.withAxis a (faster a v) := by
      cases v with
      | none => rw [show faster a none = u.axis a from hu.symm, withAxis_self]; rfl
      | some v => rw [Option.elim_some, setAxisSpeed_eq, hu, hc]; rfl
    have handled : handleSetSpeed q (Machine.taken s 7 tag) = accept
        (((Machine.taken s 7 tag).withAxis .bridge (faster .bridge q.bridge)).withAxis .trolley (faster .trolley q.trolley)) := by
      rw [handleSetSpeed, if_neg (by simp [hacc.mp h]), foldl_namedSpeeds,
        one _ .bridge _ (taken_axis _ _ _) (taken_conf _ _ _), one _ .trolley]
      · rw [withAxis_other _ (by simp), taken_axis]
      · rw [withAxis_conf, taken_conf]
    refine next_eq ?_
    rw [request_fields hr (.inr hc), handled]
    exact respond_unscanned (by simp [accept]; exact not_scanDue hs) 7 tag
  · rw [handleSetSpeed, if_pos (by simpa using mt hacc.mpr h)]
    rfl

/-- Settles O25: Stop Move goes axis by axis; what it does to one reads neither the other nor what the other left. -/
theorem stopMoveByAxisState : Obligations.StopMoveByAxisState := by
  intro s tag q hr hs hc hx named ends
  let u := Machine.taken s 8 tag
  let v := stopIf q.bridge u .bridge
  let w := stopIf q.trolley v .trolley
  have ends_iff (a : Axis) : ends a ↔ named a = true ∧ endsAtStop (s.axis a).state = true := by
    simp [ends, endsAtStop, or_assoc]
  obtain ⟨vi, vr, vn, vt, vh, vhalt, vw, vtasks, vb, vnode, vs⟩ := stopIf_keeps q.bridge u .bridge
  obtain ⟨wi, wr, wn, wt, wh, whalt, ww, wtasks, wb, wnode, ws⟩ := stopIf_keeps q.trolley v .trolley
  have htrolley : v.axis .trolley = s.axis .trolley := (stopIf_other _ (by simp)).trans (taken_axis _ _ _)
  have hbridge : w.axis .bridge = v.axis .bridge := stopIf_other _ (by simp)
  obtain ⟨wc, wl, wd⟩ := stopIf_trolley (s := v) (by rw [htrolley]; exact ((axesOk_iff s).mp hx .trolley).1) q.trolley
  have done (a : Axis) : (finish w).axis a = w.axis a := axis_of_travel (by simp) a
  refine ⟨respond 8 tag (accept w), next_eq (request_fields hr (.inr hc) ..), fun a => ?_, fun h => ?_, fun h h' => ?_, ?_⟩
  · -- Each axis is handled in a state that agrees with the request's on what its rules read.
    obtain ⟨x, hx, hn, hf, hp, ht, he⟩ : ∃ x : State, x.axis a = s.axis a ∧ x.now = s.now ∧ x.conf = s.conf ∧
        x.position a = s.position a ∧ w.axis a = (stopIf (named a) x a).axis a ∧
        (q = stopOf a → eventAt x.port 0 = eventAt s.port 0 ∧ w.port = (stopIf (named a) x a).port) := by
      cases a
      · refine ⟨u, taken_axis _ _ _, taken_now _ _ _, taken_conf _ _ _, taken_position _ _ _, hbridge, ?_⟩
        rintro rfl
        exact ⟨taken_eventAt _ _ _, rfl⟩
      · refine ⟨v, htrolley, vn.trans (taken_now _ _ _), (conf_of_record vr).trans (taken_conf _ _ _),
          (position_of_inputs vi _).trans (taken_position _ _ _), rfl, ?_⟩
        rintro rfl
        exact ⟨taken_eventAt _ _ _, rfl⟩
    obtain ⟨h1, h2, h3⟩ := stopIf_record (s := x) (named a) a
    have record : (respond 8 tag (accept w)).axis a = (stopIf (named a) x a).axis a := (done a).trans ht
    rw [record]
    rw [hx] at h1 h2 h3
    refine ⟨h1, h2, fun h m hm => ?_⟩
    obtain ⟨hnamed, hends⟩ := (ends_iff a).mp h
    obtain ⟨h3, h4⟩ := h3 hnamed hends m hm
    rw [h3, hp]
    rw [hp] at h4
    refine ⟨rfl, ?_, ?_, rfl, fun hq => ?_, fun hrel => ?_, fun hrel => ?_⟩
    · unfold restedRecord
      split <;> rfl
    · unfold restedRecord
      split <;> rfl
    · obtain ⟨e1, e2⟩ := he hq
      rw [e1] at h4
      refine .trans ?_ h4
      simp [eventAt, respond, accept, e2]
    · simp [restedRecord, hrel, parkedRecord]
    · simp [restedRecord, hrel, heldRecord, hn, hf]
  · obtain ⟨r, e⟩ := stopIf_unended (s := u) (a := .bridge) (c := q.bridge)
      (by rw [taken_axis]; exact mt (ends_iff .bridge).mpr h)
    have hv : v = u.withAxis .bridge r := e
    have hd : w.scanDue = false := by rw [wd, hv]; simpa [u] using not_scanDue hs
    rw [respond_unscanned (by exact hd)]
    exact ⟨wc.trans (by simp [hv, u]), wl.trans (by simp [hv, u]), ws.trans (vs.trans (taken_store _ _ _))⟩
  · obtain ⟨r, e⟩ := stopIf_unended (s := u) (a := .bridge) (c := q.bridge)
      (by rw [taken_axis]; exact mt (ends_iff .bridge).mpr h)
    obtain ⟨r', e'⟩ := stopIf_unended (s := v) (a := .trolley) (c := q.trolley)
      (by rw [htrolley]; exact mt (ends_iff .trolley).mpr h')
    have hv : v = u.withAxis .bridge r := e
    have hw : w = v.withAxis .trolley r' := e'
    simp [respond, accept, hw, hv, u]
  · have transmit : w.port.transmit = s.port.transmit := wt.trans (vt.trans (taken_transmit _ _ _))
    have hoist : w.travel.hoist = s.travel.hoist := wh.trans (vh.trans (congrArg _ (taken_travel _ _ _)))
    have halt : w.halt = s.halt := whalt.trans (vhalt.trans (taken_halt _ _ _))
    have weigher : w.weigher = s.weigher := ww.trans (vw.trans (taken_weigher _ _ _))
    have tasks : w.tasks = s.tasks := wtasks.trans (vtasks.trans (taken_tasks _ _ _))
    have bays : w.bays = s.bays := wb.trans (vb.trans (taken_bays _ _ _))
    have node : w.node = s.node := wnode.trans (vnode.trans (taken_node _ _ _))
    simp [respond, accept, transmit, hoist, halt, weigher, tasks, bays, node]

/-- Settles O35: the tare is the filtered value of a stable window at rest. -/
theorem tare : Obligations.Tare := by
  intro s tag hr hs hc w fit
  have value : tareValue (Machine.taken s 9 tag) = if stable s.conf w && w.load == .empty && s.tasks.hookCoil.isNone then
      w.filtered else none := by simp [tareValue, w]
  have fit_iff : fit ↔ (stable s.conf w && w.load == .empty && s.tasks.hookCoil.isNone) = true := by
    simp [stable_iff, fit, and_assoc]
  refine ⟨fun h v hv => ?_, fun h => next_eq (request_reads hr hs (.inr hc) ?_)⟩
  · rw [if_pos (fit_iff.mp h), hv] at value
    refine next_eq ?_
    rw [request_fields hr (.inr hc), handleTare, value]
    refine (respond_unscanned (by simp [withWeigher]; exact not_scanDue hs) 9 tag).trans ?_
    simp [answered, withWeigher, w]
  · rw [if_neg (mt fit_iff.mpr h)] at value
    rw [handleTare, value]
    rfl

end Sys2Proof.Proofs

/-! PROOFS. The profile periods (R88 to R96). -/

namespace Sys2Proof.Machine

variable {s : State}

/-! ## The period and its quantities -/

/-- R89: the state in which the work of a profile period is done: the clock at the period, the profile timer started again. -/
def periodState (s : State) (a : Axis) (d : Nat) : State :=
  (elapse s d).withAxis a { s.axis a with profileTimer := some (max s.now d + 10) }

theorem periodDue_eq (a : Axis) (d : Nat) : periodDue a (elapse s d) = profileAxis (periodState s a d) a := rfl

theorem periodState_axis (a : Axis) (d : Nat) :
    (periodState s a d).axis a = { s.axis a with profileTimer := some (max s.now d + 10) } := withAxis_axis _ _ _

theorem periodState_conf (a : Axis) (d : Nat) : (periodState s a d).conf = s.conf := withAxis_conf _ _ _

theorem periodState_now (a : Axis) (d : Nat) : (periodState s a d).now = max s.now d := withAxis_now _ _ _

theorem periodState_position (a b : Axis) (d : Nat) : (periodState s a d).position b = s.position b :=
  position_of_inputs (by simp [periodState]) b

theorem periodState_withAxis (a : Axis) (d : Nat) (r : AxisRecord) :
    (periodState s a d).withAxis a r = (elapse s d).withAxis a r := withAxis_withAxis _ _ _ _

/-- R89, R97: a profile period whose following check passes does the work of the axis state. -/
theorem exec_profilePeriod {a : Axis} {d : Nat} {x k : Int} (hd : (s.axis a).profileTimer = some d)
    (hx : s.position a = some x) (hk : (s.axis a).commanded = some k)
    (hf : magnitude (k - 100 * x) ≤ 100 * (axisParams s.conf a).following) :
    exec (.profilePeriod a) s = .next (finish (profileWork (periodState s a d) a x)) := by
  have follows : followingFailure (periodState s a d) a = none := by
    rw [followingFailure, periodState_position, hx]
    simp only [periodState_axis, hk, periodState_conf]
    exact if_pos hf
  refine next_eq ?_
  rw [hd]
  refine congrArg finish ?_
  rw [periodDue_eq, profileAxis, follows, periodState_position, hx]

theorem signed_eq (d : Side) (v : Int) : signed d v = if d = .high then v else -v := by cases d <;> rfl

theorem travelDirection_eq (p x : Int) (m : MoveRecord) : travelDirection p x m =
    if 0 < p then .high else if p < 0 then .low
    else if x < m.target then .high else if m.target < x then .low else m.direction := by
  unfold travelDirection sideOf
  split_ifs <;> rfl

theorem travelDirection_zero (x : Int) (m : MoveRecord) : travelDirection 0 x m =
    if x < m.target then .high else if m.target < x then .low else m.direction := travelDirection_eq 0 x m

theorem effectiveTarget_congr {t : State} (hc : t.claim = s.claim) (hr : t.record = s.record) (a : Axis) (x : Int) (d : Side) :
    effectiveTarget t a x d = effectiveTarget s a x d := by
  unfold effectiveTarget bridgeLimit
  rw [hc, conf_of_record hr]

theorem effectiveTarget_bridge {i : Interval} (h : s.claim.confirmed = some i) (x : Int) (d : Side) :
    effectiveTarget s .bridge x d = match d with
      | .high => min x (i.high - s.conf.halfLength - s.conf.margin)
      | .low => max x (i.low + s.conf.halfLength + s.conf.margin) := by
  have high : i.high - reach s.conf = i.high - s.conf.halfLength - s.conf.margin := by unfold reach; omega
  have low : i.low + reach s.conf = i.low + s.conf.halfLength + s.conf.margin := by unfold reach; omega
  unfold effectiveTarget bridgeLimit
  rw [h]
  cases d
  · exact congrArg (max x) low
  · exact congrArg (min x) high

/-! ## What a period does, by the axis state -/

theorem profileWork_stopping {a : Axis} {d : Nat} {x : Int} (h : (s.axis a).state = .stopping) :
    profileWork (periodState s a d) a x = profileStopping (periodState s a d) a := by
  unfold profileWork
  simp only [periodState_axis, h]

theorem profileWork_ordered {a : Axis} {d : Nat} {x : Int} {m : MoveRecord} {o : MoveOutcome}
    (h : (s.axis a).state = .moving) (hm : (s.axis a).move = some m) (ho : m.stopOrder = some o) :
    profileWork (periodState s a d) a x = profileStop (periodState s a d) a m x o := by
  unfold profileWork
  simp only [periodState_axis, h, hm, ho]

theorem profileWork_moving {a : Axis} {d : Nat} {x : Int} {m : MoveRecord} (h : (s.axis a).state = .moving)
    (hm : (s.axis a).move = some m) (ho : m.stopOrder = none) :
    profileWork (periodState s a d) a x = profileMove (periodState s a d) a m x := by
  unfold profileWork
  simp only [periodState_axis, h, hm, ho]

theorem profileWork_settling {a : Axis} {d : Nat} {x : Int} {m : MoveRecord} (h : (s.axis a).state = .settling)
    (hm : (s.axis a).move = some m) :
    profileWork (periodState s a d) a x = profileSettling (periodState s a d) a m x := by
  unfold profileWork
  simp only [periodState_axis, h, hm]

theorem profileWork_waiting {a : Axis} {d : Nat} {x : Int} {m : MoveRecord} (h : (s.axis a).state = .waiting)
    (hm : (s.axis a).move = some m) :
    profileWork (periodState s a d) a x = profileWaiting (periodState s a d) a m x := by
  unfold profileWork
  simp only [periodState_axis, h, hm]

/-- R91: the record of an axis that drives a new setpoint with a move in hand. -/
def drivenRecord (s : State) (a : Axis) (d : Nat) (k w : Int) (m : MoveRecord) : AxisRecord :=
  { s.axis a with
    profileTimer := some (max s.now d + 10), setpoint := w, commanded := some (k + w), move := some m }

theorem drive_period {a : Axis} {d : Nat} {k w : Int} {m : MoveRecord} (hk : (s.axis a).commanded = some k) :
    (periodState s a d).withAxis a { driveSetpoint ((periodState s a d).axis a) w with move := some m } =
      (elapse s d).withAxis a (drivenRecord s a d k w m) := by
  rw [periodState_withAxis, periodState_axis, driveSetpoint, hk]
  rfl

theorem slowActive_congr {t : State} (hi : t.inputs = s.inputs) (hr : t.record = s.record) (a : Axis) (d : Side) :
    slowActive t a d = slowActive s a d := by
  unfold slowActive
  rw [hi, conf_of_record hr]

/-- R89, R90: the speed cap of a direction, with the state of the inputs and the weigher named. -/
theorem speedCap_eq (s : State) (a : Axis) (m : MoveRecord) (d : Side) : speedCap s a m d =
    if slowActive s a d = true ∨ (s.weigher.sensorLost = true ∧ s.weigher.load ≠ .empty) then
      min (min (min m.speed m.requested) (axisParams s.conf a).maxSpeed) (axisParams s.conf a).creepSpeed
    else min (min m.speed m.requested) (axisParams s.conf a).maxSpeed := by
  unfold speedCap
  simp only [Bool.or_eq_true, Bool.and_eq_true, bne_iff_ne]

theorem stepInForce_moving {a : Axis} (h : (s.axis a).state = .moving) : stepInForce s a =
    if s.weigher.load = .empty then (axisParams s.conf a).decel else (axisParams s.conf a).decelLoaded := by
  unfold stepInForce
  by_cases hl : s.weigher.load = .empty <;> simp [h, hl]

/-- R89 to R91: a period in MOVING drives the new speed; the move is judged to have arrived at speed 0 alone. -/
theorem profileMove_period {a : Axis} {d : Nat} {m : MoveRecord} {x k : Int} (hst : (s.axis a).state = .moving)
    (hk : (s.axis a).commanded = some k) :
    let r := s.axis a
    let p := axisParams s.conf a
    let side := travelDirection r.setpoint x m
    let v := nextSpeed p (stepInForce s a) (speedCap s a m side) (magnitude r.setpoint)
      (distanceToGo (effectiveTarget s a m.target side) x side)
    let u := (elapse s d).withAxis a (drivenRecord s a d k (signed side v) (followSpeed m side v))
    profileMove (periodState s a d) a m x = if v = 0 then arrive u a (followSpeed m side v) x else u := by
  intro r p side v u
  have conf : (periodState s a d).conf = s.conf := periodState_conf a d
  have target (e : Side) : effectiveTarget (periodState s a d) a m.target e = effectiveTarget s a m.target e :=
    effectiveTarget_congr (by simp [periodState]) (by simp [periodState]) a _ e
  have step : stepInForce (periodState s a d) a = stepInForce s a := by
    rw [stepInForce_moving (by rw [periodState_axis]; exact hst), stepInForce_moving hst, conf]
    simp [periodState]
  have cap (e : Side) : speedCap (periodState s a d) a m e = speedCap s a m e := by
    rw [speedCap_eq, speedCap_eq, conf, slowActive_congr (s := s) (by simp [periodState]) (by simp [periodState])]
    simp [periodState]
  have speed : ((periodState s a d).axis a).setpoint = r.setpoint := by rw [periodState_axis]
  unfold profileMove
  simp only [speed, conf, target, step, cap, drive_period hk]
  rfl

theorem arrive_eq {a : Axis} {m : MoveRecord} {x : Int} {t : State} (hc : t.claim = s.claim) (hr : t.record = s.record) :
    arrive t a m x =
      if distanceToGo (effectiveTarget s a m.target (travelDirection 0 x m)) x (travelDirection 0 x m) ≤
          (axisParams s.conf a).creepStop then
        if effectiveTarget s a m.target (travelDirection 0 x m) = m.target then enterSettling t a else enterWaiting t a
      else t := by
  unfold arrive
  simp only [effectiveTarget_congr hc hr, conf_of_record hr]

/-- R92: the two times of a SETTLING axis after one period more. -/
def measured (p : AxisParams) (target x : Int) (t : SettleTimes) : SettleTimes :=
  ⟨if magnitude (target - x) ≤ p.window then t.inWindow + 10 else 0, t.settling + 10⟩

/-- R92: the state that a period in SETTLING leaves, before it judges the times. -/
def settlingState (s : State) (a : Axis) (d : Nat) (m : MoveRecord) (x : Int) (t : SettleTimes) : State :=
  (elapse s d).withAxis a { s.axis a with
    profileTimer := some (max s.now d + 10), settle := some t, move := some { m with direction := travelDirection 0 x m } }

theorem profileSettling_period {a : Axis} {d : Nat} {m : MoveRecord} {x : Int} {t : SettleTimes}
    (ht : (s.axis a).settle = some t) : profileSettling (periodState s a d) a m x =
      if (axisParams s.conf a).settleTime ≤ (measured (axisParams s.conf a) m.target x t).inWindow then
        endMove (enterHolding (settlingState s a d m x (measured (axisParams s.conf a) m.target x t)) a) a .done
      else if 3000 ≤ t.settling + 10 then
        endMove (enterHolding (settlingState s a d m x (measured (axisParams s.conf a) m.target x t)) a) a .notInPosition
      else settlingState s a d m x (measured (axisParams s.conf a) m.target x t) := by
  unfold profileSettling
  simp only [periodState_axis, periodState_conf, periodState_withAxis, ht, Option.getD_some]
  simp only [inPosition, decide_eq_true_eq]
  rfl

/-- R94: a period in WAITING that goes as one in MOVING finds the axis as it would be in MOVING. -/
theorem enterMoving_period {a : Axis} {d : Nat} (ha : axisOk (s.axis a) = true) (hst : (s.axis a).state = .waiting) : enterMoving (periodState s a d) a =
      periodState (s.withAxis a { s.axis a with state := .moving, waitTimer := none }) a d := by
  obtain ⟨-, -, hb, hp, -, hset, -⟩ := (axisOk_waiting hst).mp ha
  have replaced (r : AxisRecord) : periodState (s.withAxis a r) a d =
      (elapse s d).withAxis a { r with profileTimer := some (max s.now d + 10) } := by cases a <;> rfl
  rw [enterMoving, periodState_axis, periodState_withAxis, replaced]
  simp only [hb, hp, hset, Option.getD_some]

theorem period_unscanned (hs : settled s = true) (a : Axis) (d : Nat) (r : AxisRecord) :
    finish ((elapse s d).withAxis a r) = (elapse s d).withAxis a r :=
  finish_settled _ (by simpa using not_scanDue hs)

end Sys2Proof.Machine

namespace Sys2Proof.Proofs

open Machine

/-- Settles O29: both lower the setpoint by a step, and end at 0 in HOLDING. -/
theorem profilePeriodStopping : Obligations.ProfilePeriodStopping := by
  intro s a hs hx d hd x hpos k hk hf r v
  have ha := ((axesOk_iff s).mp hx a).1
  rw [exec_profilePeriod hd hpos hk hf]
  refine ⟨fun hst => ?_, fun hst m hm o ho => ?_⟩
  · intro v' w
    obtain ⟨hbrake, hsettle, -, -, hset, hwait, -⟩ := (axisOk_stopping hst).mp ha
    have conf : (periodState s a d).conf = s.conf := periodState_conf a d
    rw [profileWork_stopping hst, profileStopping]
    simp only [conf]
    refine ⟨fun h0 => next_eq ?_, fun h0 => next_eq ?_⟩
    · rw [if_neg (by rw [periodState_axis]; exact h0), periodState_withAxis, period_unscanned hs, periodState_axis,
        driveSetpoint, hk]
      rfl
    · rw [if_pos (by rw [periodState_axis]; exact h0), enterHolding_eq, periodState_withAxis, period_unscanned hs,
        periodState_axis, heldRecord, conf, periodState_now]
      simp only [hset, hwait, hsettle, hbrake]
      rfl
  · intro v' dir w
    have conf : (periodState s a d).conf = s.conf := periodState_conf a d
    have direction : travelDirection ((periodState s a d).axis a).setpoint x m = dir := by
      rw [periodState_axis]
      exact travelDirection_eq r.setpoint x m
    have speed : max (magnitude ((periodState s a d).axis a).setpoint - (axisParams (periodState s a d).conf a).decel) 0 = v' := by
      rw [periodState_axis, conf]
    rw [profileWork_ordered hst hm ho, profileStop]
    simp only [direction, speed, drive_period hk, signed_eq]
    refine ⟨fun h0 => next_eq ?_, fun h0 hr => ?_⟩
    · rw [if_neg h0, period_unscanned hs]
      rfl
    · rw [if_pos h0]
      exact ⟨_, rfl, held_and_ended (m := followSpeed m dir v') hs rfl rfl hr rfl rfl⟩

/-- Settles O28: in SETTLING a period measures the two times, and in WAITING it looks at the target again. -/
theorem profilePeriodAtRest : Obligations.ProfilePeriodAtRest := by
  intro s a hs hx m hm d hd x hpos k hk hf r p side held
  have ha := ((axesOk_iff s).mp hx a).1
  have conf : (periodState s a d).conf = s.conf := periodState_conf a d
  have direction : travelDirection 0 x m = side := travelDirection_zero x m
  have hexec := exec_profilePeriod hd hpos hk hf
  refine ⟨fun hst u hu => ?_, fun e hst ho i hi => ?_⟩
  · intro inWindow
    have ended (o : MoveOutcome) (ho : o ≠ .replaced) := held_and_ended (m := { m with direction := travelDirection 0 x m })
      (u := settlingState s a d m x (measured p m.target x u)) (a := a) (d := d) (o := o) hs rfl rfl ho rfl rfl
    rw [hexec, profileWork_settling hst hm, profileSettling_period hu]
    refine ⟨fun h1 h2 => next_eq ?_, fun h => ?_⟩
    · refine (congrArg finish ((if_neg (not_le.mpr h1)).trans (if_neg (not_le.mpr h2)))).trans ?_
      rw [settlingState, direction]
      exact period_unscanned hs _ _ _
    · by_cases h1 : p.settleTime ≤ inWindow
      · rw [if_pos h1]
        exact ⟨_, next_eq (congrArg finish (if_pos h1)), ended _ (by simp)⟩
      · rw [if_neg h1]
        exact ⟨_, next_eq (congrArg finish ((if_neg h1).trans (if_pos (h.resolve_left h1)))), ended .notInPosition (by simp)⟩
  · subst e
    intro e g
    have target : effectiveTarget (periodState s .bridge d) .bridge m.target (travelDirection 0 x m) = e := by
      rw [direction, effectiveTarget_congr (s := s) (by simp [periodState]) (by simp [periodState])]
      exact effectiveTarget_bridge hi _ _
    have left : distanceToGo e x (travelDirection 0 x m) = g := by
      rw [direction]
      simp only [g]
      cases side <;> rfl
    rw [hexec, profileWork_waiting hst hm, profileWaiting]
    simp only [target, left, conf]
    refine ⟨fun h => ?_, fun h1 h2 => next_eq ?_⟩
    · have moving := exec_profilePeriod (s := s.withAxis .bridge { r with state := .moving, waitTimer := none }) (a := .bridge)
        (d := d) (x := x) (k := k) hd hpos hk hf
      have work : profileWork _ _ _ = _ := profileWork_moving (d := d) (x := x)
        (s := s.withAxis .bridge { r with state := .moving, waitTimer := none }) (a := .bridge) rfl hm ho
      rw [moving, work, if_pos (by simpa [p] using h), enterMoving_period ha hst]
    · rw [if_neg (by simp [h1, not_lt.mpr h2, p] ), periodState_withAxis, periodState_axis, direction]
      exact period_unscanned hs _ _ _

/-- Settles O27: the quantities of R88 and R89 are those of the machine, found in the state before the period. -/
theorem profilePeriodMoving : Obligations.ProfilePeriodMoving := by
  intro s a hs hx hst m hm ho d hd x hpos k hk hf r p v toward left atRest dir step c0 c v1 v' moved arrival
  have side : travelDirection (s.axis a).setpoint x m = dir := travelDirection_eq r.setpoint x m
  have goal (e : Side) : effectiveTarget s a m.target e = toward e := by
    cases a with
    | trolley => rfl
    | bridge =>
      cases hc : s.claim.confirmed with
      | none => simp [effectiveTarget, bridgeLimit, toward, hc]
      | some i =>
        rw [effectiveTarget_bridge hc]
        simp only [toward, hc]
        cases e <;> rfl
  have gap (e : Side) : distanceToGo (toward e) x e = left e := by cases e <;> rfl
  have inForce : stepInForce s a = step := stepInForce_moving hst
  have cap : speedCap s a m dir = c := speedCap_eq s a m dir
  have speed : nextSpeed (axisParams s.conf a) step c (magnitude (s.axis a).setpoint) (left dir) = v' := rfl
  have record : drivenRecord s a d k (signed dir v') (followSpeed m dir v') = moved := by
    simp only [drivenRecord, signed_eq]
    rfl
  have rest : travelDirection 0 x (followSpeed m dir v') = arrival := travelDirection_zero x _
  have work := profileMove_period (x := x) (d := d) (m := m) hst hk
  dsimp only at work
  rw [side, goal, gap, inForce, cap, speed, record, arrive_eq (s := s) (by simp) (by simp), rest,
    show (followSpeed m dir v').target = m.target from rfl, goal, gap] at work
  rw [exec_profilePeriod hd hpos hk hf, profileWork_moving hst hm ho, work]
  have unscanned := period_unscanned hs a d
  refine ⟨fun h => next_eq ?_, fun h0 h1 h2 => next_eq ?_, fun h0 h1 h2 => next_eq ?_⟩
  · rcases h with h | h
    · rw [if_neg h]
      exact unscanned _
    · rw [if_neg (not_le.mpr h), ite_self]
      exact unscanned _
  · rw [if_pos h0, if_pos h1, if_pos h2, enterSettling, withAxis_axis, withAxis_withAxis]
    exact unscanned _
  · rw [if_pos h0, if_pos h1, if_neg h2, enterWaiting, withAxis_axis, withAxis_withAxis, withAxis_now, withAxis_conf]
    exact finish_settled _ (by simpa using not_scanDue hs)

end Sys2Proof.Proofs

/-! SUPPORT. What a stop, an edge of the Halt Line and a halt reason leave (R96, R97, R105 to R111), and the statements on
them. -/

namespace Sys2Proof.Machine

variable {s : State}

/-! ## Events -/

theorem haltEvent_event (c : HaltCause) : eventAt (haltEvent s c).port 5 =
    (eventAt s.port 5).next (.haltChanged c s.halt.asserted s.halt.drives s.halt.reasons) := eventAt_raise_same _ _

theorem haltEvent_events (c : HaltCause) {n : Nat} (h : n ≠ 5) : eventAt (haltEvent s c).port n = eventAt s.port n :=
  eventAt_raise_other _ _ (by simpa [Detail.number] using h)

/-! ## The stop of an axis (R96) -/

/-- The stop of an axis is judged by its record and its position alone. -/
theorem axisStopped_congr {u t t' : State} {a : Axis} {o : MoveOutcome} (hr : u.axis a = s.axis a)
    (hp : u.position a = s.position a) (ht : t'.axis a = t.axis a) (h : axisStopped u t a o) : axisStopped s t' a o := by
  unfold axisStopped at *
  rw [← hr, ← hp, ht]
  exact h

/-- R96: the record of an axis that is stopped with a move in hand. -/
def stopRecord (now : Nat) (c : StartRecord) (r : AxisRecord) : AxisRecord :=
  if r.state = .releasing then parkedRecord r
  else if r.setpoint = 0 then heldRecord now c r
  else { r with state := .stopping, settle := none, waitTimer := none }

theorem stopAxis_ends {a : Axis} {m : MoveRecord} (ha : axisOk (s.axis a) = true) (hm : (s.axis a).move = some m)
    (o : MoveOutcome) :
    stopAxis s a o = recordEnd (s.withAxis a (stopRecord s.now s.conf (s.axis a))) a o m.target := by
  have ended (r : AxisRecord) (hr : r.move = some m) :
      endMove (s.withAxis a r) a o = recordEnd (s.withAxis a r) a o m.target :=
    endMove_some (by rw [withAxis_axis, hr]) o
  have stopping : endMove (enterStopping s a) a o = recordEnd (s.withAxis a (if (s.axis a).setpoint = 0 then
      heldRecord s.now s.conf (s.axis a) else { s.axis a with state := .stopping, settle := none, waitTimer := none })) a o
        m.target := by
    unfold enterStopping
    split
    · exact ended (heldRecord s.now s.conf (s.axis a)) hm
    · exact ended { s.axis a with state := .stopping, settle := none, waitTimer := none } hm
  have moving (h : (s.axis a).state = .moving ∨ (s.axis a).state = .settling ∨ (s.axis a).state = .waiting) :
      stopAxis s a o = endMove (enterStopping s a) a o := by
    unfold stopAxis
    rcases h with h | h | h <;> simp only [h]
  unfold stopRecord
  cases hst : (s.axis a).state
  case parked => simp [axisOk, hst, hm] at ha
  case holding => simp [axisOk, hst, hm] at ha
  case stopping => simp [axisOk, hst, hm] at ha
  case fault => simp [axisOk, hst, hm] at ha
  case moving => rw [moving (by simp [hst]), stopping]; rfl
  case settling => rw [moving (by simp [hst]), stopping]; rfl
  case waiting => rw [moving (by simp [hst]), stopping]; rfl
  case releasing =>
    have : stopAxis s a o = endMove (enterParked s a) a o := by unfold stopAxis; simp only [hst]
    exact this.trans (ended (parkedRecord (s.axis a)) hm)

/-- R96: an axis without a move in hand is no axis to stop. -/
theorem stopAxis_idle {a : Axis} (ha : axisOk (s.axis a) = true) (hm : (s.axis a).move = none) (o : MoveOutcome) :
    stopAxis s a o = s := by
  unfold stopAxis
  cases hst : (s.axis a).state
  case moving => simp [axisOk, hst, hm] at ha
  case settling => simp [axisOk, hst, hm] at ha
  case waiting => simp [axisOk, hst, hm] at ha
  case releasing => simp [axisOk, hst, hm] at ha
  all_goals rfl

theorem stopAxis_stopped {a : Axis} (ha : axisOk (s.axis a) = true) (o : MoveOutcome) :
    axisStopped s (stopAxis s a o) a o := by
  refine ⟨fun hm => by rw [stopAxis_idle ha hm], fun m hm => ?_⟩
  rw [stopAxis_ends ha hm, recordEnd_axis, withAxis_axis, withAxis_position, stopRecord]
  by_cases hrel : (s.axis a).state = .releasing
  · obtain ⟨h0, -⟩ := (axisOk_releasing hrel).mp ha
    simp [hrel, parkedRecord, h0]
  · by_cases h0 : (s.axis a).setpoint = 0
    · simp [hrel, h0, heldRecord]
    · have hb : (s.axis a).brake = true := by
        rcases state_of_setpoint ha h0 with h | h
        · exact ((axisOk_moving h).mp ha).1
        · exact ((axisOk_stopping h).mp ha).1
      simp [hrel, h0, hb]

/-! ## Edges of the Halt Line (R107 to R109) -/

theorem lineEdge_asserted {b : State} (hb : b.halt.asserted = false) (hs : s.halt.asserted = true) :
    lineEdge b s = stopAxis (stopAxis (haltEvent s .lineAsserted) .bridge .halted) .trolley .halted :=
  if_pos (by simp [hb, hs])

theorem lineEdge_same {b : State} (h : s.halt.asserted = b.halt.asserted) : lineEdge b s = s := by
  unfold lineEdge
  rw [if_neg (by simp [h]), if_neg (by simp [h])]

theorem lineEdge_released {b : State} (hb : b.halt.asserted = true) (hs : s.halt.asserted = false) :
    lineEdge b s = haltEvent s .lineReleased := by
  unfold lineEdge
  rw [if_neg (by simp [hb]), if_pos (by simp [hb, hs])]

/-- R108: an asserted edge stops both axes, the bridge first; each finds its record as it was. -/
theorem lineEdge_stops {b : State} (hb : b.halt.asserted = false) (hs : s.halt.asserted = true)
    {a : Axis} (ha : axisOk (s.axis a) = true) : axisStopped s (lineEdge b s) a .halted := by
  rw [lineEdge_asserted hb hs]
  cases a with
  | bridge =>
    refine axisStopped_congr (u := haltEvent s .lineAsserted) (haltEvent_axis _ _) (position_of_inputs (by simp) _)
      (stopAxis_other (by simp) _) ?_
    exact stopAxis_stopped (by rw [haltEvent_axis]; exact ha) _
  | trolley =>
    have found : (stopAxis (haltEvent s .lineAsserted) .bridge .halted).axis .trolley = s.axis .trolley :=
      (stopAxis_other (by simp) _).trans (haltEvent_axis _ _)
    refine axisStopped_congr found (position_of_inputs (by simp) _) rfl ?_
    exact stopAxis_stopped (by rw [found]; exact ha) _

theorem lineEdge_event {b : State} (hb : b.halt.asserted = false) (hs : s.halt.asserted = true) :
    eventAt (lineEdge b s).port 5 =
      (eventAt s.port 5).next (.haltChanged .lineAsserted s.halt.asserted s.halt.drives s.halt.reasons) := by
  rw [lineEdge_asserted hb hs, stopAxis_events _ _ _ (by simp) (by simp), stopAxis_events _ _ _ (by simp) (by simp),
    haltEvent_event]

/-! ## A halt reason (R105 to R108) -/

theorem any_put (r : HaltReasons) (h : HaltReason) : (r.put true h).any = true := by
  cases h <;> simp [HaltReasons.put, HaltReasons.any]

/-- R107: where the line is judged as the drive and the level make it, setting a reason releases nothing. -/
theorem lineOk_asserted (hl : lineOk s = true) (hr : s.record.isSome = true) (h : s.halt.asserted = true) :
    (s.inputs.haltLine || drivingState s.node) = true := by
  simp only [lineOk, Bool.and_eq_true, beq_iff_eq, lineDue, driveDue] at hl
  obtain ⟨⟨-, h2⟩, -⟩ := hl
  rw [h, hr, Bool.true_and, eq_comm, Bool.or_eq_true, Bool.and_eq_true] at h2
  rw [Bool.or_eq_true]
  exact h2.imp_right (·.2)

theorem reasonSet_congr {u t t' : State} {r : HaltReason} (hn : u.node = s.node) (hi : u.inputs = s.inputs)
    (hh : u.halt = s.halt) (he : u.port.events = s.port.events) (ht : u.travel = s.travel) (hc : u.claim = s.claim)
    (hl : u.link = s.link) (ho : otherBlocksKept s u) (h : reasonSet u t r) (th : t'.halt = t.halt)
    (te : t'.port.events = t.port.events) (tt : t'.travel = t.travel) (tc : t'.claim = t.claim) (tl : t'.link = t.link)
    (hrest : otherBlocksKept t t') : reasonSet s t' r := by
  obtain ⟨h1, h2, h3, h4⟩ := h
  have event (n : Nat) : eventAt u.port n = eventAt s.port n := by simp [eventAt, he]
  have event' (n : Nat) : eventAt t'.port n = eventAt t.port n := by simp [eventAt, te]
  refine ⟨by rw [th, h1, hn, hi, hh], by rw [event', h2, event, hn, hi, hh], ?_, ?_⟩
  · simp only [hi, hn, hh, ht, hc, hl] at h3
    split
    · rename_i edge
      rw [if_pos edge] at h3
      exact fun a => axisStopped_congr (axis_of_travel ht a) (position_of_inputs hi a) (axis_of_travel tt a) (h3 a)
    · rename_i edge
      rw [if_neg edge] at h3
      exact ⟨tt.trans h3.1, tc.trans h3.2.1, tl.trans h3.2.2⟩
  · simp only [otherBlocksKept] at *
    simp_all

/-- R105 to R108: what setting a reason that was clear leaves, the scan that may follow made. -/
theorem setReason_set {r : HaltReason} (hs : settled s = true) (hr : s.record.isSome = true) (hl : lineOk s = true)
    (hx : axesOk s = true) (h : s.halt.reasons.get r = false) : reasonSet s (finish (setReason s r)) r := by
  have ha (a : Axis) := ((axesOk_iff s).mp hx a).1
  let judged := judgeLine { s with halt := { s.halt with reasons := s.halt.reasons.put true r } }
  have due : driveDue { s with halt := { s.halt with reasons := s.halt.reasons.put true r } } = drivingState s.node := by
    simp [driveDue, any_put]
  have halt : judged.halt = ⟨s.halt.reasons.put true r, s.inputs.haltLine || drivingState s.node, drivingState s.node,
      drivingState s.node && !s.inputs.haltLine⟩ := by
    simp [judged, judgeLine, lineDue, due, hr]
  have set : setReason s r = lineEdge s (haltEvent judged (.reason r)) := if_neg (by simp [h])
  have raised : eventAt (haltEvent judged (.reason r)).port 5 = (eventAt s.port 5).next (.haltChanged (.reason r)
      (s.inputs.haltLine || drivingState s.node) (drivingState s.node) (s.halt.reasons.put true r)) := by
    rw [haltEvent_event, halt]
    rfl
  have kept : otherBlocksKept s (finish (setReason s r)) := by simp [otherBlocksKept]
  have port : (finish (setReason s r)).port = (setReason s r).port := by simp
  have travel : (finish (setReason s r)).travel = (setReason s r).travel := by simp
  have halt' : (haltEvent judged (.reason r)).halt = judged.halt := by simp
  have posit (a : Axis) : (haltEvent judged (.reason r)).position a = s.position a := rfl
  have found (a : Axis) : (haltEvent judged (.reason r)).axis a = s.axis a := haltEvent_axis _ _
  refine ⟨?_, ?_, ?_, kept⟩
  · rw [set]
    simp [halt]
  · rw [port, set]
    split
    · rename_i edge
      simp only [Bool.and_eq_true, Bool.not_eq_true'] at edge
      rw [lineEdge_event edge.2 (by rw [halt', halt]; exact edge.1), raised, halt', halt]
    · rename_i edge
      rw [lineEdge_same, raised]
      rw [halt', halt]
      cases hs : s.halt.asserted
      · simpa [hs] using edge
      · exact lineOk_asserted hl hr hs
  · split
    · rename_i edge
      simp only [Bool.and_eq_true, Bool.not_eq_true'] at edge
      intro a
      refine axisStopped_congr (found a) (posit a) (axis_of_travel travel a) ?_
      rw [set]
      exact lineEdge_stops edge.2 (by rw [halt', halt]; exact edge.1) (by rw [found]; exact ha a)
    · rename_i edge
      have same : setReason s r = haltEvent judged (.reason r) := by
        rw [set, lineEdge_same]
        rw [halt', halt]
        cases hs : s.halt.asserted
        · simpa [hs] using edge
        · exact lineOk_asserted hl hr hs
      have unscanned : (haltEvent judged (.reason r)).scanDue = false := not_scanDue hs
      rw [same, finish_settled _ unscanned]
      exact ⟨rfl, rfl, rfl⟩

theorem setReason_again {r : HaltReason} (h : s.halt.reasons.get r = true) : setReason s r = s := if_pos h

end Sys2Proof.Machine

namespace Sys2Proof.Proofs

open Machine

/-- Settles O33: the request and the expiry each set their reason in a state that differs from the one before in the port
and the clock alone. -/
theorem haltAndHostSilence : Obligations.HaltAndHostSilence := by
  intro s tag hs hc hl hx
  refine ⟨fun hr h => next_eq (request_reads hr hs (.inr hc) ?_), fun hr h => ?_, fun d hd => ⟨fun h => ?_, fun h => ?_⟩⟩
  · rw [handleHalt, setReason_again (by rw [taken_halt]; exact h)]
    rfl
  · let u := Machine.taken s 25 tag
    have set := setReason_set (s := u) (r := .host) (by simpa [settled, u] using hs) (by simpa [u] using hc)
      (by rw [lineOk_congr (taken_halt _ _ _) (taken_node _ _ _) (taken_record _ _ _) (taken_inputs _ _ _)]; exact hl)
      ((axesOk_iff _).mpr fun a => by rw [axisGood, taken_axis]; exact (axesOk_iff s).mp hx a) (by rw [taken_halt]; exact h)
    have timer : u.port.hostTimer = some (s.now + s.conf.hostTimeout) := by
      simp [u, Machine.taken, restartHostTimer, hc, takeInHand]
    refine ⟨_, next_eq (request_fields hr (.inr hc) ..), ?_, ?_, ?_, ?_⟩
    · exact reasonSet_congr (taken_node _ _ _) (taken_inputs _ _ _) (taken_halt _ _ _) (taken_events _ _ _)
        (taken_travel _ _ _) (taken_claim _ _ _) (taken_link _ _ _) (by simp [otherBlocksKept, Machine.taken]) set
        rfl rfl rfl rfl rfl (by simp [otherBlocksKept, respond, handleHalt, accept, u])
    · simp [respond, handleHalt, accept]
    · simp [respond, handleHalt, accept]
    · refine .trans ?_ timer
      simp [respond, handleHalt, accept, transmit, u]
  · refine next_eq ?_
    rw [hd, expire_some _ _ _ (by rw [hostSilent, setReason_again (by exact h)]; exact hs)]
    exact setReason_again (by exact h)
  · let u : State := { elapse s d with port := { s.port with hostTimer := none } }
    have set := setReason_set (s := u) (r := .hostLost) hs hc hl hx h
    refine ⟨finish (setReason u .hostLost), next_eq (by rw [hd]; rfl), ?_, ?_, ?_, ?_⟩
    · exact reasonSet_congr (u := u) rfl rfl rfl rfl rfl rfl rfl (by simp [otherBlocksKept, u]) set
        rfl rfl rfl rfl rfl (by simp [otherBlocksKept])
    · simp [u, elapse]
    · simp [u]
    · simp [u]

end Sys2Proof.Proofs

/-! PROOFS. Clear Halt, the level of the Halt Line, and the following check (R97, R98, R107 to R109, R111). -/

namespace Sys2Proof.Machine

variable {s : State}

/-! ## The level of the Halt Line -/

theorem lineOk_iff : lineOk s = true ↔ s.halt.drives = driveDue s ∧ s.halt.asserted = lineDue s ∧
    s.halt.notSeen = (driveDue s && !s.inputs.haltLine) := by
  simp [lineOk, and_assoc]

/-- R107: the state with the level of the line replaced. -/
def leveled (s : State) (level : Bool) : State := { s with inputs := { s.inputs with haltLine := level } }

/-- R107: the state with the line state and the drive-not-seen flag replaced. -/
def withLine (s : State) (asserted notSeen : Bool) : State :=
  { s with halt := { s.halt with asserted := asserted, notSeen := notSeen } }

theorem withLine_self (s : State) : withLine s s.halt.asserted s.halt.notSeen = s := rfl

/-- R106, R107: with the level replaced the drive stays, and the line state follows level and drive. -/
theorem judgeLine_leveled (hl : lineOk s = true) (level : Bool) : judgeLine (leveled s level) =
    withLine (leveled s level) (s.record.isSome && (level || s.halt.drives)) (s.halt.drives && !level) := by
  have : driveDue (leveled s level) = s.halt.drives := (lineOk_iff.mp hl).1.symm
  rw [judgeLine, lineDue, this]
  rfl

theorem exec_haltLine (hl : lineOk s = true) (level : Bool) : exec (.haltLineLevelChange level) s =
    .next (finish (lineEdge (leveled s level)
      (withLine (leveled s level) (s.record.isSome && (level || s.halt.drives)) (s.halt.drives && !level)))) :=
  next_eq (congrArg finish (congrArg (lineEdge _) (judgeLine_leveled hl level)))

/-! ## Clear Halt -/

theorem taken_listen (kind tag : Nat) : (taken s kind tag).listen = s.listen := by
  unfold taken takeInHand restartHostTimer
  split <;> rfl

/-- R98, R111: the record of an axis after Clear Halt. -/
def recoveredRecord (s : State) (a : Axis) : AxisRecord :=
  if (s.axis a).state = .fault ∧ (s.position a).isSome then
    { s.axis a with state := .holding, commanded := none, parkTimer := some (s.now + 1000 * s.conf.parkDelay) }
  else s.axis a

theorem recoverAxis_eq {a : Axis} (ha : axisOk (s.axis a) = true) : recoverAxis s a = s.withAxis a (recoveredRecord s a) := by
  unfold recoverAxis recoveredRecord
  by_cases h : (s.axis a).state = .fault ∧ (s.position a).isSome = true
  · obtain ⟨h0, hb, h1, h2, h3, h4, h5, h6⟩ := (axisOk_fault h.1).mp ha
    rw [if_pos h, if_pos (by simp [h.1, h.2]), enterHolding_eq, heldRecord]
    simp only [h0, hb, h1, h3, h4, h5]
  · rw [if_neg h, if_neg (by simpa using h), withAxis_self]

theorem recoveredRecord_congr {u : State} {a : Axis} (ha : u.axis a = s.axis a) (hp : u.position a = s.position a)
    (hn : u.now = s.now) (hc : u.conf = s.conf) : recoveredRecord u a = recoveredRecord s a := by
  unfold recoveredRecord
  rw [ha, hp, hn, hc]

/-- R111: an axis stays in FAULT where its position input is invalid. -/
theorem recoveredRecord_fault (s : State) (a : Axis) :
    ((recoveredRecord s a).state == .fault) = ((s.axis a).state == .fault && (s.position a).isNone) := by
  unfold recoveredRecord
  cases hp : s.position a
  · simp
  · by_cases h : (s.axis a).state = .fault <;> simp [h]

/-- R98, R111: the state with both axes recovered. -/
def recovered (s : State) : State :=
  (s.withAxis .bridge (recoveredRecord s .bridge)).withAxis .trolley (recoveredRecord s .trolley)

theorem recovered_axis (s : State) (a : Axis) : (recovered s).axis a = recoveredRecord s a := by
  cases a
  · exact (withAxis_other _ (by simp) _).trans (withAxis_axis _ _ _)
  · exact withAxis_axis _ _ _

theorem recoverAxes_eq (ha : ∀ a, axisOk (s.axis a) = true) : recoverAxis (recoverAxis s .bridge) .trolley = recovered s := by
  have trolley : (s.withAxis .bridge (recoveredRecord s .bridge)).axis .trolley = s.axis .trolley := withAxis_other _ (by simp) _
  rw [recoverAxis_eq (ha .bridge), recoverAxis_eq (by rw [trolley]; exact ha _),
    recoveredRecord_congr (s := s) trolley (withAxis_position _ _ _ _) (withAxis_now _ _ _) (withAxis_conf _ _ _)]
  rfl

/-- R111: the reasons that Clear Halt leaves. -/
def reasonsLeft (s : State) : HaltReasons :=
  ⟨false, s.halt.reasons.following && ((recoveredRecord s .bridge).state == .fault || (recoveredRecord s .trolley).state == .fault),
    false, false, s.halt.reasons.void, false, false⟩

/-- R111: what Clear Halt makes of the line: a release, or no edge. -/
theorem clearHalts_eq (ha : ∀ a, axisOk (s.axis a) = true) (hr : s.record.isSome = true) (hl : lineOk s = true) :
    let drives := (reasonsLeft s).any && drivingState s.node
    let asserted := s.inputs.haltLine || drives
    let t : State := { recovered s with halt := ⟨reasonsLeft s, asserted, drives, drives && !s.inputs.haltLine⟩ }
    clearHalts s = if s.halt.asserted && !asserted then haltEvent t .lineReleased else t := by
  intro drives asserted t
  have left : (⟨false, (recovered s).halt.reasons.following && anyFault (recovered s), false, false,
      (recovered s).halt.reasons.void, false, false⟩ : HaltReasons) = reasonsLeft s := rfl
  have judged : judgeLine { recovered s with halt := { (recovered s).halt with reasons := reasonsLeft s } } = t := by
    have hr' : (recovered s).record.isSome = true := hr
    simp only [judgeLine, lineDue, driveDue, hr', Bool.true_and]
    rfl
  have clear : clearHalts s =
      lineEdge { recovered s with halt := { (recovered s).halt with reasons := reasonsLeft s } } t := by
    unfold clearHalts refreshLine
    rw [recoverAxes_eq ha]
    simp only [HaltReasons.clear, left, judged]
  have falls (h : s.halt.asserted = false) : asserted = false := by
    obtain ⟨hd, h1, -⟩ := lineOk_iff.mp hl
    rw [h, lineDue, hr, Bool.true_and, eq_comm, Bool.or_eq_false_iff] at h1
    simp only [asserted, drives, Bool.or_eq_false_iff]
    refine ⟨h1.1, ?_⟩
    have := h1.2
    unfold driveDue at this
    cases hdriv : drivingState s.node
    · simp
    · rw [hdriv, Bool.and_true] at this
      simp only [HaltReasons.any, Bool.or_eq_false_iff] at this
      simp [reasonsLeft, HaltReasons.any, this]
  rw [clear]
  cases hs : s.halt.asserted
  · exact lineEdge_same ((falls hs).trans hs.symm)
  · cases hn : asserted
    · exact lineEdge_released hs hn
    · exact lineEdge_same (hn.trans hs.symm)

end Sys2Proof.Machine

namespace Sys2Proof.Proofs

open Machine

/-- Settles O34: clearing reasons can only release the line, and a level moves it as the drive allows. -/
theorem clearHaltAndLineLevel : Obligations.ClearHaltAndLineLevel := by
  refine ⟨fun s tag hr hs hc hl hx => ?_, fun s level hs hl hx => ?_⟩
  · intro stuck following void drives asserted reasons
    let v := Machine.taken s 26 tag
    have axis (a : Axis) : v.axis a = s.axis a := taken_axis _ _ _
    have record (a : Axis) : recoveredRecord v a = recoveredRecord s a :=
      recoveredRecord_congr (axis a) (taken_position _ _ _) (taken_now _ _ _) (taken_conf _ _ _)
    have left : reasonsLeft v = reasons := by
      simp only [reasonsLeft, record, recoveredRecord_fault, reasons, following, void, stuck, v, taken_halt]
    have any : reasons.any = (following || void) := by simp [reasons, HaltReasons.any]
    have cleared := clearHalts_eq (s := v) (fun a => by rw [axis]; exact ((axesOk_iff s).mp hx a).1) (by simpa [v] using hc)
      ((lineOk_congr (taken_halt _ _ _) (taken_node _ _ _) (taken_record _ _ _) (taken_inputs _ _ _)).trans hl)
    simp only [left, any, v, taken_node, taken_inputs, taken_halt] at cleared
    generalize ht : ({ recovered v with halt := ⟨reasons, asserted, drives, drives && !s.inputs.haltLine⟩ } : State) = t at cleared
    have thalt : t.halt = ⟨reasons, asserted, drives, drives && !s.inputs.haltLine⟩ := by rw [← ht]
    have taxis (a : Axis) : t.axis a = recoveredRecord s a :=
      (axis_of_travel (by rw [← ht]) a).trans ((recovered_axis v a).trans (record a))
    have tport : t.port = v.port := by rw [← ht]; rfl
    -- The release raises HALT_CHANGED; with it or without, the rest is as `t` has it.
    obtain ⟨w, hw, hport⟩ : ∃ w, clearHalts v = w ∧ ∃ p : Port, w = { t with port := p } ∧ p.transmit = v.port.transmit ∧
        eventAt p 5 = (if s.halt.asserted && !asserted then
          (eventAt s.port 5).next (.haltChanged .lineReleased asserted drives reasons) else eventAt s.port 5) ∧
        ∀ n, n ≠ 5 → eventAt p n = eventAt s.port n := by
      refine ⟨_, cleared, ?_⟩
      split
      · refine ⟨(haltEvent t .lineReleased).port, rfl, by simp [tport], ?_, fun n hn => ?_⟩
        · rw [haltEvent_event, tport, thalt, taken_eventAt]
        · rw [haltEvent_events _ hn, tport, taken_eventAt]
      · exact ⟨t.port, rfl, by rw [tport], by rw [tport, taken_eventAt], fun n _ => by rw [tport, taken_eventAt]⟩
    obtain ⟨p, rfl, ptransmit, p5, pn⟩ := hport
    have unscanned : t.scanDue = false := by rw [← ht]; exact (taken_scanDue s 26 tag).trans (not_scanDue hs)
    have handled : handleClearHalt () v = ⟨{ t with port := p }, .ok, .halts reasons asserted⟩ := by
      simp only [handleClearHalt, hw, thalt]
    refine ⟨_, next_eq (request_fields hr (.inr hc) ..), ?_⟩
    rw [handled, respond_unscanned (by exact unscanned)]
    refine ⟨taxis, thalt, p5, pn, ?_, ?_⟩
    · simp [answered, transmit, ptransmit, v]
    · rw [← ht]
      simp [answered, transmit, otherBlocksKept, recovered, v, taken_listen]
  · intro u
    obtain ⟨hd, hasserted, hseen⟩ := lineOk_iff.mp hl
    have unscanned : s.scanDue = false := not_scanDue hs
    have noDrive (h : s.halt.drives = false) : s.halt.notSeen = false := by rw [hseen, ← hd, h]; rfl
    rw [exec_haltLine hl level]
    refine ⟨fun hrec hdr => next_eq ?_, fun hrec h => next_eq ?_, fun hrec h hlevel hdr => next_eq ?_, fun hrec h hlevel => ?_⟩
    · have off : s.halt.asserted = false := by rw [hasserted, lineDue, hrec]; rfl
      have same := withLine_self (leveled s level)
      rw [show (leveled s level).halt.asserted = false from off, show (leveled s level).halt.notSeen = false from noDrive hdr] at same
      rw [hrec, hdr, Option.isSome_none, Bool.false_and, Bool.false_and, same]
      exact (congrArg finish (lineEdge_same rfl)).trans (finish_settled _ unscanned)
    · rw [hrec, Bool.true_and, h]
      exact (congrArg finish (lineEdge_same rfl)).trans (finish_settled _ unscanned)
    · rw [hrec, hlevel, hdr, Bool.false_and, Bool.or_false, Bool.and_false]
      refine (congrArg finish (lineEdge_released h rfl)).trans ((finish_settled _ ?_).trans ?_)
      · exact unscanned
      · simp only [haltEvent, withLine, leveled, hdr, noDrive hdr, u, hlevel]
    · have hdr : s.halt.drives = false := by
        cases hdr : s.halt.drives
        · rfl
        · rw [hd] at hdr
          rw [hasserted, lineDue, hrec, hdr] at h
          simp at h
      rw [hrec, hlevel, Bool.true_or, Bool.and_true, hdr, Bool.false_and]
      generalize hv : leveled s true = v
      have hv' : v.halt.asserted = false := by rw [← hv]; exact h
      have axis (a : Axis) : (withLine v true false).axis a = s.axis a := by rw [← hv]; exact axis_of_travel rfl a
      have stops (a : Axis) := lineEdge_stops (s := withLine v true false) hv' rfl (a := a) (by
        rw [axis]; exact ((axesOk_iff s).mp hx a).1)
      have event := lineEdge_event (s := withLine v true false) hv' rfl
      refine ⟨_, rfl, ?_, ?_, fun a => ?_, ?_, ?_⟩
      · rw [finish_keeps _ |>.2.2.2.2.2.2.2.1, lineEdge_keeps _ _ |>.2.2.2.2.2.1, ← noDrive hdr, ← hv]
        rfl
      · simp only [finish_keeps]
        rw [event, ← hv]
        simp only [withLine, leveled, hdr]
      · refine axisStopped_congr (axis a) (by rw [← hv]; rfl) (axis_of_travel (by simp) a) (stops a)
      · simp [← hv, leveled, withLine]
      · simp [otherBlocksKept, ← hv, leveled, withLine, u, hlevel]

end Sys2Proof.Proofs

/-! PROOFS. The following check (R97). -/

namespace Sys2Proof.Machine

variable {s : State}

theorem endMove_record (a : Axis) (o : MoveOutcome) : (endMove s a o).axis a = { s.axis a with
    move := none
    last := match (s.axis a).move with
      | some m => some ⟨o, m.target, s.position a⟩
      | none => (s.axis a).last } := by
  cases h : (s.axis a).move with
  | none =>
    rw [endMove_none h]
    dsimp only
    rw [← h]
  | some m => rw [endMove_some h, recordEnd_axis]

theorem setReason_reasons (r : HaltReason) : (setReason s r).halt.reasons = s.halt.reasons.put true r := by
  unfold setReason
  split
  · rename_i h
    cases r <;> simp only [HaltReasons.get] at h <;> simp only [HaltReasons.put, ← h]
  · simp [judgeLine]

theorem setReason_lineOk {r : HaltReason} (h : s.halt.reasons.get r = false) : lineOk (setReason s r) = true := by
  rw [setReason, if_neg (by simp [h]), lineEdge_lineOk]
  exact judgeLine_lineOk

theorem setReason_events (r : HaltReason) {n : Nat} (h0 : n ≠ 0) (h5 : n ≠ 5) (h7 : n ≠ 7) :
    eventAt (setReason s r).port n = eventAt s.port n := by
  unfold setReason
  split
  · rfl
  · dsimp only
    rw [lineEdge_events _ _ h0 h5 h7, haltEvent_events _ h5]
    rfl

/-- R108: a reason newly set in a driving state, with the line released before, stops an axis. -/
theorem setReason_stops {r : HaltReason} {a : Axis} (h : s.halt.reasons.get r = false) (hr : s.record.isSome = true)
    (hd : drivingState s.node = true) (hl : s.halt.asserted = false) (ha : axisOk (s.axis a) = true) :
    axisStopped s (setReason s r) a .halted := by
  let judged := judgeLine { s with halt := { s.halt with reasons := s.halt.reasons.put true r } }
  have set : setReason s r = lineEdge s (haltEvent judged (.reason r)) := if_neg (by simp [h])
  have found (b : Axis) : (haltEvent judged (.reason r)).axis b = s.axis b := haltEvent_axis _ _
  rw [set]
  refine axisStopped_congr (found a) rfl rfl (lineEdge_stops hl ?_ (by rw [found]; exact ha))
  simp [judged, judgeLine, lineDue, driveDue, any_put, hr, hd]

/-- R97: the record of an axis in FAULT, its move still in hand. -/
def faultRecord (r : AxisRecord) : AxisRecord :=
  { r with state := .fault, setpoint := 0, brake := true, profileTimer := none, settle := none, waitTimer := none }

/-- R97: the two orders in which an axis in FAULT ends its move and sets FOLLOWING. -/
def faulted (s : State) (a : Axis) : State :=
  match a with
  | .bridge => setReason (endMove (s.withAxis .bridge (faultRecord (s.axis .bridge))) .bridge .fault) .following
  | .trolley => endMove (setReason (s.withAxis .trolley (faultRecord (s.axis .trolley))) .following) .trolley .fault

theorem faultAxis_eq (a : Axis) (c : FaultCause) :
    faultAxis s a c = raiseEvent (faulted s a) (.axisFault a c (s.axis a).commanded (s.position a)) := by
  cases a <;> rfl

theorem faulted_keeps (s : State) (a : Axis) : (faulted s a).now = s.now ∧
    (faulted s a).travel.hoist = s.travel.hoist ∧ (faulted s a).weigher = s.weigher ∧ (faulted s a).tasks = s.tasks ∧
    (faulted s a).bays = s.bays ∧ (faulted s a).peers = s.peers ∧ (faulted s a).node = s.node ∧
    (faulted s a).record = s.record ∧ (faulted s a).inputs = s.inputs ∧ (faulted s a).store = s.store := by
  cases a <;> simp [faulted]

theorem faulted_axis (s : State) (a : Axis) : (faulted s a).axis a = { faultRecord (s.axis a) with
    move := none
    last := match (s.axis a).move with
      | some m => some ⟨.fault, m.target, s.position a⟩
      | none => (s.axis a).last } := by
  cases a with
  | bridge =>
    unfold faulted
    dsimp only
    rw [setReason_fault (by rw [endMove_record]; simp [faultRecord]), endMove_record, withAxis_axis, withAxis_position]
    rfl
  | trolley =>
    unfold faulted
    dsimp only
    rw [endMove_record, setReason_fault (by simp [faultRecord]), withAxis_axis, position_of_inputs (setReason_keeps _ _).1,
      withAxis_position]
    rfl

theorem faulted_reasons (s : State) (a : Axis) : (faulted s a).halt.reasons = { s.halt.reasons with following := true } := by
  cases a <;> simp [faulted, setReason_reasons, HaltReasons.put]

theorem faulted_lineOk {a : Axis} (h : s.halt.reasons.following = false) : lineOk (faulted s a) = true := by
  cases a with
  | bridge => exact setReason_lineOk (by simpa [HaltReasons.get] using h)
  | trolley =>
    refine (lineOk_congr ?_ ?_ ?_ ?_).trans (setReason_lineOk (s := s.withAxis .trolley (faultRecord (s.axis .trolley)))
      (r := .following) (by simpa [HaltReasons.get] using h)) <;> simp [faulted]

theorem faulted_event (s : State) (a : Axis) : eventAt (faulted s a).port 12 = eventAt s.port 12 := by
  cases a <;> simp [faulted, setReason_events, endMove_events]

/-- R97, R108: the asserted edge that FOLLOWING makes stops the other axis. -/
theorem faulted_stops {a b : Axis} (hb : b ≠ a) (h : s.halt.reasons.following = false) (hr : s.record.isSome = true)
    (hd : drivingState s.node = true) (hl : s.halt.asserted = false) (ha : axisOk (s.axis b) = true) :
    axisStopped s (faulted s a) b .halted := by
  cases a with
  | bridge =>
    have found : (endMove (s.withAxis .bridge (faultRecord (s.axis .bridge))) .bridge .fault).axis b = s.axis b :=
      (endMove_other hb _).trans (withAxis_other _ hb _)
    refine axisStopped_congr found (position_of_inputs (by simp) _) rfl (setReason_stops ?_ ?_ ?_ ?_ (by rw [found]; exact ha))
    · simpa [HaltReasons.get] using h
    · simpa using hr
    · simpa using hd
    · simpa using hl
  | trolley =>
    have found : (s.withAxis .trolley (faultRecord (s.axis .trolley))).axis b = s.axis b := withAxis_other _ hb _
    refine axisStopped_congr found (withAxis_position _ _ _ _) (endMove_other hb _)
      (setReason_stops (r := .following) ?_ ?_ ?_ ?_ (by rw [found]; exact ha))
    · simpa [HaltReasons.get] using h
    · simpa using hr
    · simpa using hd
    · simpa using hl

end Sys2Proof.Machine

namespace Sys2Proof.Proofs

open Machine

/-- Settles O30: the axis enters FAULT whatever its state, and FOLLOWING works on the line as any reason does. -/
theorem followingFault : Obligations.FollowingFault := by
  intro s a cause hs hx d hd hcause r
  have ha := ((axesOk_iff s).mp hx a).1
  let v := periodState s a d
  have axis : v.axis a = { s.axis a with profileTimer := some (max s.now d + 10) } := periodState_axis a d
  have pos : v.position a = s.position a := periodState_position a a d
  have fails : followingFailure v a = some cause := by
    rcases hcause with ⟨hp, rfl⟩ | ⟨rfl, x, hx, k, hk, hfar⟩
    · rw [followingFailure, pos, hp]
    · rw [followingFailure, pos, hx]
      simp only [axis, hk, v, periodState_conf]
      exact if_neg (not_le.mpr hfar)
  have due : exec (.profilePeriod a) s = .next (finish (raiseEvent (faulted v a) (.axisFault a cause r.commanded (s.position a)))) := by
    refine next_eq ?_
    rw [hd]
    refine congrArg finish ?_
    have faults : profileAxis v a = faultAxis v a cause := by rw [profileAxis, fails]
    rw [periodDue_eq, faults, faultAxis_eq, axis, pos]
  obtain ⟨know, khoist, kweigher, ktasks, kbays, kpeers, knode, krecord, kinputs, kstore⟩ := faulted_keeps v a
  refine ⟨_, due, ?_⟩
  generalize ht : finish (raiseEvent (faulted v a) (.axisFault a cause r.commanded (s.position a))) = t
  have taxis (b : Axis) : t.axis b = (faulted v a).axis b := by rw [← ht]; exact axis_of_travel (by simp) b
  have rested := axisOk_of_faulted ha (by simp [hd])
  have frame : v.node = s.node ∧ v.record = s.record ∧ v.inputs = s.inputs ∧ v.halt = s.halt ∧ v.port = s.port ∧
      v.travel.hoist = s.travel.hoist ∧ v.weigher = s.weigher ∧ v.tasks = s.tasks ∧ v.bays = s.bays ∧ v.peers = s.peers ∧
      v.store = s.store := by simp [v, periodState]
  obtain ⟨vnode, vrecord, vinputs, vhalt, vport, vhoist, vweigher, vtasks, vbays, vpeers, vstore⟩ := frame
  obtain ⟨-, -, hbt, hpark, -⟩ := (axisOk_fault rfl).mp rested
  have followed : s.halt.reasons.following = false → v.halt.reasons.following = false := by rw [vhalt]; exact id
  have record := (taxis a).trans (faulted_axis v a)
  rw [axis, pos] at record
  have reasons : t.halt.reasons = { s.halt.reasons with following := true } := by
    rw [← ht, ← vhalt, ← faulted_reasons v a]
    simp
  have line (h : s.halt.reasons.following = false) : lineOk t = true := by
    rw [← ht]
    exact (lineOk_congr (s := faulted v a) (by simp) (by simp) (by simp) (by simp)).trans (faulted_lineOk (followed h))
  have event : eventAt t.port 12 = (eventAt s.port 12).next (.axisFault a cause r.commanded (s.position a)) := by
    rw [← ht, ← vport, ← faulted_event v a]
    simp only [finish_keeps]
    exact eventAt_raise_same _ _
  rw [record]
  refine ⟨?_, rfl, rfl, rfl, rfl, rfl, rfl, rfl, rfl, hpark, rfl, rfl, rfl, reasons, line, event, ?_, ?_⟩
  · rw [← ht]
    simp [know, v, periodState_now]
  · intro h hdriv hrec hline b hb m hm
    have same : v.axis b = s.axis b := (withAxis_other _ hb _).trans (axis_of_travel rfl b)
    have hab : axisOk (s.axis b) = true := ((axesOk_iff s).mp hx b).1
    have stops := faulted_stops (s := v) hb (followed h) (by rw [vrecord]; exact hrec) (by rw [vnode]; exact hdriv)
      (by rw [vhalt]; exact hline) (by rw [same]; exact hab)
    obtain ⟨h1, h2, h3, -, -, -, h4⟩ := (axisStopped_congr same (position_of_inputs vinputs b) (taxis b) stops).2 m hm
    refine ⟨h1, h2, h3, fun h0 => ?_⟩
    rw [h4, if_neg h0, if_neg]
    intro hrel
    exact h0 ((axisOk_releasing hrel).mp hab).1
  · rw [← ht]
    simp [khoist, kweigher, ktasks, kbays, kpeers, knode, krecord, kinputs, kstore, vnode, vrecord, vinputs, vhoist, vweigher,
      vtasks, vbays, vpeers, vstore]

end Sys2Proof.Proofs

/-! PROOFS. The limit inputs, the hoist and the position inputs (R3, R90, R98, R100 to R102). -/

namespace Sys2Proof.Machine

variable {s : State}

/-! ## The slowdown and end-limit inputs -/

theorem withInputs_axis (s : State) (i : Inputs) (a : Axis) : (withInputs s i).axis a = s.axis a := axis_of_travel rfl a

@[simp] theorem withInputs_conf (s : State) (i : Inputs) : (withInputs s i).conf = s.conf := rfl

/-- R90: before acceptance, and at a level that is not active, a slowdown input only keeps its level. -/
theorem changeSlow_idle {a : Axis} {d : Side} {level : Bool}
    (h : s.record = none ∨ slowActive (withInputs s (s.inputs.withAxis a ((s.inputs.axis a).withSlow d level))) a d = false) :
    changeSlow a d level s = withInputs s (s.inputs.withAxis a ((s.inputs.axis a).withSlow d level)) := by
  unfold changeSlow
  refine if_neg ?_
  rcases h with h | h
  · simp [withInputs, h]
  · simp [h]

theorem changeSlow_active {a : Axis} {d : Side} {level : Bool} (hr : s.record.isSome = true)
    (h : slowActive (withInputs s (s.inputs.withAxis a ((s.inputs.axis a).withSlow d level))) a d = true) :
    changeSlow a d level s = cutSpeed a d (withInputs s (s.inputs.withAxis a ((s.inputs.axis a).withSlow d level))) :=
  if_pos (by rw [h]; simpa [withInputs] using hr)

theorem slowCut_none {c : Int} {r : AxisRecord} {d : Side} (h : signed d r.setpoint ≤ c) : slowCut c r d = r :=
  if_neg (not_lt.mpr h)

theorem changeLimit_idle {a : Axis} {d : Side} {level : Bool}
    (h : s.record = none ∨ limitActive s.conf (s.inputs.withAxis a ((s.inputs.axis a).withLimit d level)) a d = false) :
    changeLimit a d level s = withInputs s (s.inputs.withAxis a ((s.inputs.axis a).withLimit d level)) := by
  unfold changeLimit
  refine if_neg ?_
  rcases h with h | h
  · simp [h]
  · simp [h]

theorem changeLimit_active {a : Axis} {d : Side} {level : Bool} (hr : s.record.isSome = true)
    (h : limitActive s.conf (s.inputs.withAxis a ((s.inputs.axis a).withLimit d level)) a d = true) :
    changeLimit a d level s =
      finish (endLimitEdge (withInputs s (s.inputs.withAxis a ((s.inputs.axis a).withLimit d level))) a d) := by
  exact if_pos (by simp [h, hr])

/-- R100: an edge toward the side of travel stops the axis; any other that is not ignored only latches. -/
theorem endLimitEdge_toward {a : Axis} {d : Side} (h : limitDirection (s.axis a) = some d) : endLimitEdge s a d =
    raiseEvent (stopAxis (s.withAxis a (latchHold (s.axis a) d)) a .limit) (.limit a d (s.axis a).move.isSome) := by
  unfold endLimitEdge
  simp only [h, ↓reduceIte]

theorem endLimitEdge_away {a : Axis} {d e : Side} (h : limitDirection (s.axis a) = some e) (he : e ≠ d) :
    endLimitEdge s a d = s := by
  unfold endLimitEdge
  simp only [h, he, ↓reduceIte]

theorem endLimitEdge_standing {a : Axis} {d : Side} (h : limitDirection (s.axis a) = none) : endLimitEdge s a d =
    raiseEvent (s.withAxis a (latchHold (s.axis a) d)) (.limit a d false) := by
  unfold endLimitEdge
  simp only [h]

theorem limitDirection_stopping {r : AxisRecord} (hm : r.move = none) (hst : r.state = .stopping) :
    limitDirection r = sideOf r.setpoint 0 := by simp [limitDirection, hm, hst]

theorem limitDirection_move {r : AxisRecord} {m : MoveRecord} (hm : r.move = some m) : limitDirection r = some m.direction := by
  simp [limitDirection, hm]

theorem limitDirection_rests {r : AxisRecord} (hm : r.move = none) (hst : r.state ≠ .stopping) : limitDirection r = none := by
  simp [limitDirection, hm, hst]

/-- A speed has the side toward which it counts as positive. -/
theorem sideOf_toward {x : Int} {d : Side} (h : 0 < signed d x) : sideOf x 0 = some d := by
  unfold sideOf
  cases d <;> simp only [signed] at h
  · rw [if_neg (by omega), if_pos (by omega)]
  · rw [if_pos (by omega)]

theorem signed_flip (d : Side) (x : Int) : ∃ e, e ≠ d ∧ signed e x = -signed d x := by
  cases d
  · exact ⟨.high, by simp, by simp [signed]⟩
  · exact ⟨.low, by simp, by simp [signed]⟩

theorem endLimitEdge_keeps (a : Axis) (d : Side) : (endLimitEdge s a d).inputs = s.inputs ∧
    (endLimitEdge s a d).halt = s.halt ∧ (endLimitEdge s a d).weigher = s.weigher ∧ (endLimitEdge s a d).tasks = s.tasks ∧
    (endLimitEdge s a d).bays = s.bays ∧ (endLimitEdge s a d).peers = s.peers ∧ (endLimitEdge s a d).node = s.node := by
  unfold endLimitEdge
  dsimp only
  split
  · split <;> simp
  · simp

/-- R100: an end limit met by a move toward its side. -/
theorem endLimitEdge_ends {a : Axis} {d : Side} {m : MoveRecord} (ha : axisOk (s.axis a) = true)
    (hm : (s.axis a).move = some m) (hd : m.direction = d) :
    let t := finish (endLimitEdge s a d)
    axisStopped (s.withAxis a (latchHold (s.axis a) d)) t a .limit ∧
      eventAt t.port 0 = (eventAt s.port 0).next (.moveDone a .limit m.target (s.position a)) ∧
      eventAt t.port 11 = (eventAt s.port 11).next (.limit a d true) ∧ ∀ b, b ≠ a → t.axis b = s.axis b := by
  intro t
  obtain ⟨f1, f2, f3, f4⟩ := latchHold_fields (s.axis a) d
  generalize hu : s.withAxis a (latchHold (s.axis a) d) = u
  have axis : u.axis a = latchHold (s.axis a) d := by rw [← hu]; exact withAxis_axis _ _ _
  have port : u.port = s.port := by rw [← hu]; exact withAxis_port _ _ _
  have pos : u.position a = s.position a := by rw [← hu]; exact withAxis_position _ _ _ _
  have ok : axisOk (u.axis a) = true := by rw [axis, f1]; exact ha
  have move : (u.axis a).move = some m := by rw [axis, f4]; exact hm
  have ht : t = finish (raiseEvent (stopAxis u a .limit) (.limit a d true)) := by
    rw [← hu]
    simp only [t, endLimitEdge_toward ((limitDirection_move hm).trans (congrArg some hd)), hm, Option.isSome_some]
  have taxis (b : Axis) : t.axis b = (stopAxis u a .limit).axis b := by rw [ht]; exact axis_of_travel (by simp) b
  refine ⟨axisStopped_congr rfl rfl (taxis a) (stopAxis_stopped ok _), ?_, ?_, fun b hb => ?_⟩
  · rw [ht, finish_keeps _ |>.2.2.2.2.2.2.2.2.2.2.2.1, eventAt_raise_other _ _ (by simp [Detail.number]), stopAxis_ends ok move,
      recordEnd_event _ _ _ _ (by simp), withAxis_port, port, withAxis_position, pos]
  · rw [ht, finish_keeps _ |>.2.2.2.2.2.2.2.2.2.2.2.1]
    refine (eventAt_raise_same _ _).trans ?_
    rw [show (Detail.limit a d true).number = 11 from rfl, stopAxis_events _ _ _ (by simp) (by simp), port]
  · rw [taxis, stopAxis_other hb, ← hu, withAxis_other _ hb]

/-! ## Low-hook travel -/

theorem lowHookAxis_moving {a : Axis} {m : MoveRecord} (h : (s.axis a).state = .moving) (hm : (s.axis a).move = some m) :
    lowHookAxis s a = s.withAxis a
      { s.axis a with move := some { m with stopOrder := some (m.stopOrder.getD .lowHook) } } := by
  rw [← orderStop_some hm]
  unfold lowHookAxis
  simp only [h]

theorem lowHookAxis_ends {a : Axis} {m : MoveRecord} (h : (s.axis a).state = .waiting ∨ (s.axis a).state = .releasing)
    (hm : (s.axis a).move = some m) : lowHookAxis s a =
      recordEnd (s.withAxis a (restedRecord s (s.axis a))) a .lowHook m.target := by
  have ended (r : AxisRecord) (hr : r.move = some m) :
      endMove (s.withAxis a r) a .lowHook = recordEnd (s.withAxis a r) a .lowHook m.target :=
    endMove_some (by rw [withAxis_axis, hr]) _
  unfold lowHookAxis restedRecord
  rcases h with h | h <;> simp only [h]
  · exact ended (heldRecord s.now s.conf (s.axis a)) hm
  · exact ended (parkedRecord (s.axis a)) hm

theorem lowHookAxis_rests {a : Axis} (h1 : (s.axis a).state ≠ .moving) (h2 : (s.axis a).state ≠ .waiting)
    (h3 : (s.axis a).state ≠ .releasing) : lowHookAxis s a = s := by
  unfold lowHookAxis
  cases h : (s.axis a).state <;> simp_all

/-- R102: where no move ends, low-hook travel leaves all but the axis record. -/
theorem lowHookAxis_unended {a : Axis} (h2 : (s.axis a).state ≠ .waiting) (h3 : (s.axis a).state ≠ .releasing) :
    ∃ r, lowHookAxis s a = s.withAxis a r := by
  by_cases h1 : (s.axis a).state = .moving
  · cases hm : (s.axis a).move with
    | none =>
      refine ⟨_, Eq.trans ?_ (withAxis_self s a).symm⟩
      simp [lowHookAxis, h1, orderStop, hm]
    | some m => exact ⟨_, lowHookAxis_moving h1 hm⟩
  · exact ⟨_, (lowHookAxis_rests h1 h2 h3).trans (withAxis_self s a).symm⟩

theorem lowHookAxis_other {a b : Axis} (h : b ≠ a) : (lowHookAxis s a).axis b = s.axis b := by
  have held (r : AxisRecord) : (s.withAxis a r).axis b = s.axis b := withAxis_other s h r
  unfold lowHookAxis orderStop
  simp only [enterParked_eq, enterHolding_eq]
  repeat' split
  all_goals simp only [endMove_other h, held]

/-- R102: what low-hook travel makes of an axis, as the record of the axis before and after and the events say. -/
theorem lowHookAxis_arises {a : Axis} :
    let r := s.axis a
    let u := (lowHookAxis s a).axis a
    (r.state = .moving → ∀ m, r.move = some m →
      u = { r with move := some { m with stopOrder := some (m.stopOrder.getD .lowHook) } }) ∧
    (r.state = .waiting ∨ r.state = .releasing → ∀ m, r.move = some m →
      u = { restedRecord s r with move := none, last := some ⟨.lowHook, m.target, s.position a⟩ } ∧
      eventAt (lowHookAxis s a).port 0 = (eventAt s.port 0).next (.moveDone a .lowHook m.target (s.position a))) ∧
    (r.state ≠ .moving → r.state ≠ .waiting → r.state ≠ .releasing → u = r) := by
  intro r u
  refine ⟨fun h m hm => ?_, fun h m hm => ?_, fun h1 h2 h3 => ?_⟩
  · simp only [u, lowHookAxis_moving h hm, withAxis_axis, r]
  · simp only [u, lowHookAxis_ends h hm, recordEnd_axis, withAxis_axis, withAxis_position, r]
    refine ⟨trivial, ?_⟩
    rw [recordEnd_event _ _ _ _ (by simp), withAxis_port, withAxis_position]
  · simp only [u, lowHookAxis_rests h1 h2 h3, r]

/-- R101, R102: the hoist tracker replaced where low-hook travel does not arise. -/
theorem withHoist_quiet {h : Hoist} (hq : ¬ (lowHookTravel { s with travel := { s.travel with hoist := h } } = true ∧
    lowHookTravel s = false)) : withHoist s h = { s with travel := { s.travel with hoist := h } } := by
  unfold withHoist lowHookEdge
  rw [if_neg (by simpa using hq)]

theorem withHoist_arises {h : Hoist} (h1 : lowHookTravel { s with travel := { s.travel with hoist := h } } = true)
    (h2 : lowHookTravel s = false) : withHoist s h =
      lowHookAxis (lowHookAxis { s with travel := { s.travel with hoist := h } } .bridge) .trolley := by
  unfold withHoist lowHookEdge
  rw [if_pos (by simp [h1, h2])]

theorem lowHookTravel_iff : lowHookTravel s = true ↔
    moveLowHook s ∧ ¬ (s.travel.bridge.move = none ∧ s.travel.trolley.move = none) := by
  rw [moveLowHook_iff, lowHookTravel, Bool.and_eq_true, Bool.or_eq_true, Option.isSome_iff_ne_none, Option.isSome_iff_ne_none,
    not_and_or]

theorem lowHookTravel_of {v : State} {g : Hoist} (hw : v.weigher = s.weigher) (hr : v.record = s.record)
    (hb : v.travel.bridge = s.travel.bridge) (ht : v.travel.trolley = s.travel.trolley) (hg : v.travel.hoist = g) :
    lowHookTravel v = true ↔
      (s.weigher.load ≠ .empty ∧ (g.referenced = false ∨ g.height < s.conf.clearHeight)) ∧
        ¬ (s.travel.bridge.move = none ∧ s.travel.trolley.move = none) := by
  rw [lowHookTravel_iff, moveLowHook, hw, hg, hb, ht, conf_of_record hr]

/-- R102: what low-hook travel that arises makes of the two axes: the bridge goes first, and the trolley finds its record as
it was. -/
theorem lowHookAxes_arise (b : Axis) :
    let t := lowHookAxis (lowHookAxis s .bridge) .trolley
    let r := s.axis b
    (r.state = .moving → ∀ m, r.move = some m →
      t.axis b = { r with move := some { m with stopOrder := some (m.stopOrder.getD .lowHook) } }) ∧
    (r.state = .waiting ∨ r.state = .releasing → ∀ m, r.move = some m →
      t.axis b = { restedRecord s r with move := none, last := some ⟨.lowHook, m.target, s.position b⟩ } ∧
      ((∀ c, c ≠ b → (s.axis c).state ≠ .waiting ∧ (s.axis c).state ≠ .releasing) →
        eventAt t.port 0 = (eventAt s.port 0).next (.moveDone b .lowHook m.target (s.position b)))) ∧
    (r.state ≠ .moving → r.state ≠ .waiting → r.state ≠ .releasing → t.axis b = r) := by
  intro t r
  cases b with
  | bridge =>
    have same : t.axis .bridge = (lowHookAxis s .bridge).axis .bridge := lowHookAxis_other (by simp)
    obtain ⟨h1, h2, h3⟩ := lowHookAxis_arises (s := s) (a := .bridge)
    rw [same]
    refine ⟨h1, fun h m hm => ⟨(h2 h m hm).1, fun hc => ?_⟩, h3⟩
    have trolley : (lowHookAxis s .bridge).axis .trolley = s.axis .trolley := lowHookAxis_other (by simp)
    obtain ⟨hw, hr⟩ := hc .trolley (by simp)
    obtain ⟨u, e⟩ := lowHookAxis_unended (s := lowHookAxis s .bridge) (a := .trolley) (by rwa [trolley]) (by rwa [trolley])
    rw [show t = _ from e, withAxis_port]
    exact (h2 h m hm).2
  | trolley =>
    have same : (lowHookAxis s .bridge).axis .trolley = s.axis .trolley := lowHookAxis_other (by simp)
    obtain ⟨h1, h2, h3⟩ := lowHookAxis_arises (s := lowHookAxis s .bridge) (a := .trolley)
    rw [same] at h1 h2 h3
    have conf : (lowHookAxis s .bridge).conf = s.conf := conf_of_record (by simp)
    have pos : (lowHookAxis s .bridge).position .trolley = s.position .trolley := position_of_inputs (by simp) _
    have rested : restedRecord (lowHookAxis s .bridge) r = restedRecord s r := by
      unfold restedRecord
      rw [conf]
      simp
    refine ⟨h1, fun h m hm => ⟨?_, fun hc => ?_⟩, h3⟩
    · rw [(h2 h m hm).1, rested, pos]
    · obtain ⟨hw, hr⟩ := hc .bridge (by simp)
      obtain ⟨u, e⟩ := lowHookAxis_unended (s := s) (a := .bridge) hw hr
      refine (h2 h m hm).2.trans ?_
      rw [pos, e, withAxis_port]

end Sys2Proof.Machine

namespace Sys2Proof.Proofs

open Machine

/-- Settles O31: an edge is judged by the direction in which the axis travels. -/
theorem limitInputEdges : Obligations.LimitInputEdges := by
  intro s a d level hs hx r p slow limit toward latched
  have ha : axisOk r = true := ((axesOk_iff s).mp hx a).1
  have side : toward = signed d r.setpoint := (signed_eq d r.setpoint).symm
  have unscanned : s.scanDue = false := not_scanDue hs
  have axis : limit.axis a = r := withInputs_axis s _ a
  have latch : latchHold r d = latched := by cases d <;> rfl
  refine ⟨fun h => next_eq ?_, fun hr hact hcut hst => next_eq ?_, fun h => next_eq (changeLimit_idle h), fun hr hact => ?_⟩
  · by_cases hact : s.record = none ∨ slowActive slow a d = false
    · exact changeSlow_idle hact
    · simp only [not_or, Bool.not_eq_false] at hact
      rw [changeSlow_active (Option.isSome_iff_ne_none.mpr hact.1) hact.2, cutSpeed]
      rw [withInputs_axis]
      split
      · rename_i hst
        have low : toward ≤ p.creepSpeed := by
          rcases h with h | h | h | h
          · exact absurd h hact.1
          · exact absurd h (by simp [hact.2])
          · exact h
          · exact absurd hst (by simpa using h)
        rw [slowCut_none (side ▸ low), ← withInputs_axis s _ a, withAxis_self]
        rfl
      · rfl
  · rw [changeSlow_active hr hact, cutSpeed]
    rw [withInputs_axis, if_pos (by simpa using hst), slowCut, if_pos (side ▸ hcut), signed_eq]
    rfl
  · have hexec : exec (.endLimitEdge a d level) s = .next (finish (endLimitEdge limit a d)) := next_eq (changeLimit_active hr hact)
    rw [hexec]
    have idle (u : State) (hu : u.scanDue = s.scanDue) : finish u = u := finish_settled _ (hu.trans unscanned)
    have standing (h : limitDirection r = none) : finish (endLimitEdge limit a d) =
        raiseEvent (limit.withAxis a latched) (.limit a d false) := by
      rw [endLimitEdge_standing (by rw [axis]; exact h), axis, latch]
      exact idle _ (by simp [limit])
    refine ⟨fun h => next_eq ?_, fun h => next_eq ?_, fun m hm hdir => ?_⟩
    · obtain ⟨e, hdir, he⟩ : ∃ e, limitDirection r = some e ∧ e ≠ d := by
        rcases h with ⟨m, hm, hne⟩ | ⟨hst, hneg⟩
        · exact ⟨_, limitDirection_move hm, hne⟩
        · obtain ⟨e, he, hflip⟩ := signed_flip d r.setpoint
          have hm : r.move = none := ((axisOk_stopping hst).mp ha).2.2.2.2.2.2
          exact ⟨e, (limitDirection_stopping hm hst).trans (sideOf_toward (by omega)), he⟩
      rw [endLimitEdge_away (by rw [axis]; exact hdir) he]
      exact idle _ rfl
    · rcases h with h | h | h | ⟨hst, hpos⟩
      · exact standing (limitDirection_rests ((axisOk_parked h).mp ha).2.2.2.2.2.2.2 (by simp [h]))
      · exact standing (limitDirection_rests ((axisOk_holding h).mp ha).2.2.2.2.2.2.2 (by simp [h]))
      · exact standing (limitDirection_rests ((axisOk_fault h).mp ha).2.2.2.2.2.2.2 (by simp [h]))
      · have hm : r.move = none := ((axisOk_stopping hst).mp ha).2.2.2.2.2.2
        by_cases h0 : 0 < toward
        · have hdir := (limitDirection_stopping hm hst).trans (sideOf_toward (side ▸ h0))
          rw [endLimitEdge_toward (by rw [axis]; exact hdir), axis, hm, latch]
          have ok : axisOk ((limit.withAxis a latched).axis a) = true := by
            rw [withAxis_axis, ← latch, (latchHold_fields r d).1]; exact ha
          rw [stopAxis_idle ok (by rw [withAxis_axis, ← latch, (latchHold_fields r d).2.2.2]; exact hm)]
          exact idle _ (by simp [limit])
        · refine standing ((limitDirection_stopping hm hst).trans ?_)
          have h0 : r.setpoint = 0 := by
            have : signed d r.setpoint = 0 := by omega
            cases d <;> simpa [signed] using this
          rw [h0]
          rfl
    · obtain ⟨hstop, h0, h11, hother⟩ := endLimitEdge_ends (s := limit) (a := a) (d := d) (m := m) (by rw [axis]; exact ha)
        (by rw [axis]; exact hm) hdir
      obtain ⟨h1, h2, h3, h4, h5, h6, h7⟩ := hstop.2 m (by rw [withAxis_axis, axis, latch]; cases d <;> exact hm)
      obtain ⟨k1, k2, k3, k4, k5, k6, k7⟩ := endLimitEdge_keeps (s := limit) a d
      have found : (limit.withAxis a (latchHold (limit.axis a) d)).axis a = latched := by rw [withAxis_axis, axis, latch]
      have same : latched.setpoint = r.setpoint ∧ latched.state = r.state := by simp only [latched]; cases d <;> exact ⟨rfl, rfl⟩
      have pos : limit.position a = s.position a := by
        simp only [limit, State.position]
        cases a <;> cases d <;> rfl
      rw [found] at h3 h4 h5 h6 h7
      rw [same.1, same.2] at h7
      rw [same.1] at h3
      rw [same.2] at h6
      rw [withAxis_position, pos] at h2
      rw [pos] at h0
      refine ⟨_, rfl, h1, h2, h4, h5, h3, h7, h6, h0, h11, fun b hb => ?_, ?_⟩
      · exact (hother b hb).trans (withInputs_axis s _ b)
      · simp [k1, k2, k3, k4, k5, k6, k7, limit]

/-- Settles O32: the counter and the edge differ in the hoist that they leave, and meet low-hook travel alike. -/
theorem hoistAndPositionInputs : Obligations.HoistAndPositionInputs := by
  intro s a x up level hs h counted topped lifted placed low still arises
  have unscanned : s.scanDue = false := not_scanDue hs
  -- The counter finds the state as it was, the edge with the level of its input kept; both read the same of it.
  have quiet (v : State) (hv : v.travel = s.travel ∧ v.weigher = s.weigher ∧ v.record = s.record ∧ v.scanDue = false)
      (g : Hoist) (hq : low h ∨ ¬ low g ∨ still) :
      finish (withHoist v g) = { v with travel := { v.travel with hoist := g } } := by
    obtain ⟨ht, hw, hr, hd⟩ := hv
    rw [withHoist_quiet]
    · exact finish_settled _ hd
    · rintro ⟨h1, h2⟩
      have before := mt (lowHookTravel_of hw hr (by rw [ht]) (by rw [ht]) (by rw [ht])).mpr (by rw [h2]; simp)
      obtain ⟨h3, h4⟩ := (lowHookTravel_of (s := s) (by exact hw) (by exact hr) (by rw [ht]) (by rw [ht]) rfl).mp h1
      rcases hq with hq | hq | hq
      · exact before ⟨hq, h4⟩
      · exact hq h3
      · exact h4 hq
  have meets (v : State) (hv : v.travel = s.travel ∧ v.weigher = s.weigher ∧ v.record = s.record ∧ v.port = s.port ∧
      v.now = s.now ∧ ∀ b, v.position b = s.position b) (g : Hoist) (h1 : ¬ low h) (h2 : low g) (h3 : ¬ still) :
      arises (.next (finish (withHoist v g))) g := by
    obtain ⟨ht, hw, hr, hp, hn, hpos⟩ := hv
    have conf : v.conf = s.conf := conf_of_record hr
    rw [withHoist_arises]
    · generalize hv' : ({ v with travel := { v.travel with hoist := g } } : State) = v'
      have axis (b : Axis) : v'.axis b = s.axis b := by
        rw [← hv']
        cases b <;> simp [State.axis, ht]
      have rested (r : AxisRecord) : restedRecord v' r = restedRecord s r := by
        unfold restedRecord
        rw [← hv', show State.conf { v with travel := { v.travel with hoist := g } } = s.conf from conf, hn]
      have pos (b : Axis) : v'.position b = s.position b := by rw [← hv', ← hpos b]; rfl
      refine ⟨_, rfl, by simp [← hv'], fun b => ?_⟩
      obtain ⟨m1, m2, m3⟩ := lowHookAxes_arise (s := v') b
      simp only [axis, rested, pos] at m1 m2 m3
      have done : (finish (lowHookAxis (lowHookAxis v' .bridge) .trolley)).axis b =
          (lowHookAxis (lowHookAxis v' .bridge) .trolley).axis b := axis_of_travel (by simp) b
      have port : v'.port = s.port := by rw [← hv']; exact hp
      simp only [done]
      refine ⟨m1, fun hst m hm => ?_, m3⟩
      obtain ⟨e1, e2⟩ := m2 hst m hm
      rw [e1]
      refine ⟨rfl, rfl, ?_, ?_, ?_, fun hst => ?_, fun hst => ?_, fun hc => ?_⟩
      · unfold restedRecord; split <;> rfl
      · unfold restedRecord; split <;> rfl
      · unfold restedRecord; split <;> rfl
      · simp [restedRecord, hst, heldRecord]
      · simp [restedRecord, hst, parkedRecord]
      · simp only [finish_keeps]
        rw [e2 hc, port]
    · exact (lowHookTravel_of (s := s) (by exact hw) (by exact hr) (by rw [ht]) (by rw [ht]) rfl).mpr ⟨h2, h3⟩
    · rw [← Bool.not_eq_true]
      exact mt (lowHookTravel_of (s := s) hw hr (by rw [ht]) (by rw [ht]) (by rw [ht])).mp fun hc => h1 hc.1
  have lifts (hr : s.record.isSome = true) (hl : level = s.conf.polarities.getLsbD 9) :
      exec (.topReferenceEdge level) s = .next (finish (withHoist lifted topped)) :=
    next_eq (if_pos (by simp [hr, activeLevel, hl]))
  have counts (hr : s.record.isSome = true) : exec (.hoistCount up) s = .next (finish (withHoist s counted)) :=
    next_eq (if_pos hr)
  refine ⟨fun hr => ⟨next_eq (if_neg (by simp [hr])), next_eq (if_neg (by simp [hr]))⟩, fun hr hl => next_eq (if_neg ?_),
    fun hr hq => ?_, fun hr hl hq => ?_, fun hr h1 h2 h3 => ?_, fun hr hl h1 h2 h3 => ?_, fun hx => next_eq ?_, fun y hy hf => next_eq ?_⟩
  · intro hc
    simp only [Bool.and_eq_true, activeLevel, beq_iff_eq] at hc
    exact hl hc.2
  · exact (counts hr).trans (next_eq (quiet s ⟨rfl, rfl, rfl, unscanned⟩ _ hq))
  · exact (lifts hr hl).trans (next_eq (quiet lifted ⟨rfl, rfl, rfl, unscanned⟩ _ hq))
  · rw [counts hr]
    exact meets s ⟨rfl, rfl, rfl, rfl, rfl, fun _ => rfl⟩ _ h1 h2 h3
  · rw [lifts hr hl]
    exact meets lifted ⟨rfl, rfl, rfl, rfl, rfl, fun b => by cases b <;> rfl⟩ _ h1 h2 h3
  · cases hx' : x with
    | none => simp only [changePosition, placed, hx', withInputs]
    | some y =>
      simp only [changePosition, placed, hx', withInputs]
      exact if_neg (hx.resolve_left (by simp [hx']))
  · subst hy
    simp only [changePosition, followInFault, withInputs_axis, hf, ↓reduceIte]
    rfl

end Sys2Proof.Proofs

/-! PROOFS. The stopping distances (R56), the converter (R115, R116), and the frames that are discarded (R19, R20, R36). -/

namespace Sys2Proof.Machine

variable {s : State}

/-! ## The manual's arithmetic -/

theorem ceilDiv_bounds (n : Int) {d : Int} (hd : 0 < d) : n ≤ d * ceilDiv n d ∧ d * ceilDiv n d < n + d := by
  have h1 := Int.mul_ediv_add_emod (-n) d
  have h2 := Int.emod_nonneg (-n) (by omega : d ≠ 0)
  have h3 := Int.emod_lt_of_pos (-n) hd
  unfold ceilDiv
  rw [Int.mul_neg]
  omega

theorem two_mul_triangle (q : Int) : 2 * (q * (q + 1) / 2) = q * (q + 1) :=
  Int.mul_ediv_cancel' (Int.even_mul_succ_self q).two_dvd

/-- R56: the sum of a stop is that of the distances its steps leave, and no more than that of steps of 1. -/
theorem stop_sum_bounds {v step q : Int} (hstep : 1 ≤ step) (hq : 0 ≤ q) (hqv : step * q ≤ v) :
    0 ≤ q * v - step * (q * (q + 1) / 2) ∧ 2 * (q * v - step * (q * (q + 1) / 2)) ≤ v * (v - 1) ∧
      2 * (step * (q * (q + 1) / 2)) ≤ v * (q + 1) := by
  have two := two_mul_triangle q
  generalize q * (q + 1) / 2 = t at *
  have hle : q ≤ v := by nlinarith
  have h1 : step * q * (q + 1) ≤ v * (q + 1) := by nlinarith
  have h2 : step * (2 * t) = step * q * (q + 1) := by rw [two]; ring
  refine ⟨?_, ?_, by linarith⟩
  · rcases hq.lt_or_eq with h | h
    · nlinarith
    · subst h
      have : t = 0 := by omega
      simp [this]
  · have h3 : 0 ≤ (v - q) * (v - q - 1) := by
      rcases hle.lt_or_eq with h | h
      · exact mul_nonneg (by omega) (by omega)
      · subst h; simp
    have h4 : t ≤ step * t := by nlinarith [mul_nonneg hq (by omega : (0 : Int) ≤ q + 1)]
    nlinarith

/-! ## The converter -/

theorem dataReady_armed {w : Weigher} (h : w.converter = .armed) : dataReady w = { w with converter := .byte1 } := by
  unfold dataReady
  rw [h]

theorem dataReady_busy {w : Weigher} (h1 : w.converter ≠ .idle) (h2 : w.converter ≠ .armed) :
    dataReady w = { w with lost := countUp w.lost } := by
  unfold dataReady
  split
  · exact absurd ‹_› h1
  · exact absurd ‹_› h2
  all_goals rfl

theorem keepByte_first {w : Weigher} (h : w.converter = .byte1) (b : Byte) :
    keepByte w b = { w with converter := .byte2 b } := by
  unfold keepByte
  rw [h]

theorem keepByte_second {w : Weigher} {b1 : Byte} (h : w.converter = .byte2 b1) (b : Byte) :
    keepByte w b = { w with converter := .byte3 b1 b } := by
  unfold keepByte
  rw [h]

theorem keepByte_other {w : Weigher} (h1 : w.converter ≠ .byte1) (h2 : ∀ b1, w.converter ≠ .byte2 b1) (b : Byte) :
    keepByte w b = w := by
  unfold keepByte
  split
  · exact absurd ‹_› h1
  · exact absurd ‹_› (h2 _)
  all_goals rfl

/-- R115: a data-ready change that is no passage into the active level, or that finds the converter IDLE. -/
theorem changeDataReady_idle {level : Bool} (h : s.record = none ∨ level ≠ s.conf.polarities.getLsbD 8 ∨
    s.weigher.converter = .idle) : changeDataReady level s = withInputs s { s.inputs with dataReady := level } := by
  unfold changeDataReady
  dsimp only
  split
  · rename_i hc
    simp only [Bool.and_eq_true, withInputs_record, withInputs_conf, dataReadyActive, activeLevel, beq_iff_eq] at hc
    have idle : s.weigher.converter = .idle := by
      rcases h with h | h | h
      · simp [h] at hc
      · exact absurd hc.2 h
      · exact h
    have : dataReady s.weigher = s.weigher := by unfold dataReady; rw [idle]
    rw [withInputs_weigher, this]
    rfl
  · rfl

theorem changeDataReady_active {level : Bool} (hr : s.record.isSome = true) (hl : level = s.conf.polarities.getLsbD 8) :
    changeDataReady level s =
      withWeigher (withInputs s { s.inputs with dataReady := level }) (dataReady s.weigher) :=
  if_pos (by simp [hr, dataReadyActive, activeLevel, hl])

/-- R115: with its sample the converter is ARMED again. -/
theorem takeSample_converter (raw : Int) : (takeSample s raw).weigher.converter = .armed := by
  have overload (u : State) (net : Int) : (judgeOverload u net).weigher.converter = u.weigher.converter := by
    unfold judgeOverload
    repeat' split
    all_goals rfl
  have hook (u : State) (net filtered : Int) : (evaluateHook u net filtered).weigher.converter = u.weigher.converter := by
    unfold evaluateHook
    dsimp only
    repeat' split
    all_goals simp
  unfold takeSample
  dsimp only
  split
  · unfold overrangeSample
    dsimp only
    split <;> rfl
  · rw [inRangeSample, overload, hook]
    rfl

/-! ## Frames -/

/-- R19, R20: a frame of a rank is received, and one that is well formed is well coded. -/
theorem exec_frame {c : Instr} {r : Nat} (hc : frameSender c = some r) (s : State) :
    ∃ ok deliver, exec c s = .next (receive s r ok deliver) ∧ (c.wf = true → ok = true) := by
  cases c <;> simp only [frameSender, reduceCtorEq, Option.some.injEq] at hc <;> subst hc
  case positionReport sender seq f =>
    refine ⟨reportable f.nodeState, _, rfl, fun h => ?_⟩
    simp only [Instr.wf, ReportFrame.wf, Bool.and_eq_true] at h
    obtain ⟨-, ⟨⟨⟨hs, -⟩, -⟩, -⟩, -⟩ := h
    cases hn : f.nodeState <;> simp_all [NodeState.sendable, reportable]
  case storeNotice sender seq f =>
    refine ⟨noticeCounted f, _, rfl, fun h => ?_⟩
    simp only [Instr.wf, StoreNoticeFrame.wf, Bool.and_eq_true] at h
    obtain ⟨-, ⟨⟨-, h1⟩, h2⟩, -⟩ := h
    rw [noticeCounted, h1, h2]
    rfl
  all_goals exact ⟨true, _, rfl, fun _ => rfl⟩

end Sys2Proof.Machine

namespace Sys2Proof.Proofs

open Machine

/-- Settles O55: the sum of a stop with steps of s is bounded by that with steps of 1. -/
theorem stoppingDistances : Obligations.StoppingDistances := by
  intro v step creep hv hstep sum q r
  have hq : 0 ≤ q := Int.ediv_nonneg hv (by omega)
  have hqv : step * q ≤ v := Int.mul_ediv_self_le (by omega)
  have rounded (n : Int) := ceilDiv_bounds n (by norm_num : (0 : Int) < 100)
  have stop (h : q ≠ 0) : stopDistance v step = ceilDiv (sum q) 100 := if_neg h
  have slow (h : creep < v) : creepDistance creep v step = ceilDiv (sum r) 100 := if_neg (not_le.mpr h)
  refine ⟨two_mul_triangle q, two_mul_triangle r, fun h => if_pos h, fun h => ?_, fun h => if_pos h, fun h => ?_, fun h => ?_⟩
  · rw [stop h]
    exact rounded _
  · rw [slow h]
    exact rounded _
  · obtain ⟨h1, h2, h3⟩ := stop_sum_bounds hstep hq hqv
    have top : stopDistance 3000 1 = 44985 := by decide
    have hle : q ≤ v := by nlinarith
    have product : q * v ≤ 9000000 := by nlinarith
    have half : 0 ≤ step * (q * (q + 1) / 2) := mul_nonneg (by omega) (Int.ediv_nonneg (by nlinarith) (by norm_num))
    refine ⟨by omega, product, by nlinarith, h1, by simp only [sum]; omega, ?_, top⟩
    rw [top]
    by_cases h0 : q = 0
    · rw [show stopDistance v step = 0 from if_pos h0]
      norm_num
    · rw [stop h0]
      have := (rounded (sum q)).2
      have bound : 2 * sum q ≤ 8997000 := by simp only [sum]; nlinarith
      omega

/-- Settles O36: each read is a step of the converter, and the sample timer's expiry the loss of the sensor. -/
theorem converterAndSampleTimer : Obligations.ConverterAndSampleTimer := by
  intro s level b hs w u
  have unscanned := not_scanDue hs
  refine ⟨fun h => next_eq ?_, fun hr hl => ⟨fun hc => next_eq ?_, fun h1 h2 => next_eq ?_⟩, fun hc => next_eq ?_,
    fun b1 hc => next_eq ?_, fun h1 h2 => next_eq ?_, fun hc => next_eq ?_, ?_, ?_, fun b1 b2 hc => ?_, fun d hd => ⟨fun hl => ?_, fun hl => ?_⟩⟩
  · exact changeDataReady_idle h
  · rw [changeDataReady_active hr hl, dataReady_armed hc]
    rfl
  · rw [changeDataReady_active hr hl, dataReady_busy h1 h2]
    rfl
  · rw [keepByte_first hc]
    rfl
  · rw [keepByte_second hc]
    rfl
  · rw [keepByte_other h1 h2]
    rfl
  · unfold completeSample
    split
    · exact absurd ‹_› (hc _ _)
    all_goals rfl
  · cases hc : w.converter <;> simp [selectOutput, transferring, hc]
  · simp only [selectOutput, clockAtRest]
    cases transferring w.converter <;> rfl
  · refine ⟨_, exec_sample b hc, ?_⟩
    rw [finish_keeps _ |>.2.2.2.2.2.2.2.2.1, selectOutput, takeSample_converter]
    rfl
  · refine next_eq ?_
    have lost : loseSensor (elapse s d) = _ := if_neg (by simp [show s.weigher.sensorLost = true from hl])
    rw [hd, expire_some _ _ _ (by rw [lost]; exact hs), lost]
    rfl
  · refine next_eq ?_
    have lost : loseSensor (elapse s d) = _ := if_pos (by simp [show s.weigher.sensorLost = false from hl])
    rw [hd, expire_some _ _ _ (by rw [lost]; exact hs), lost]
    rfl

/-- Settles O60: a frame is discarded before it is looked at, and in UNCONFIGURED counted and no more. -/
theorem framesDiscarded : Obligations.FramesDiscarded := by
  intro s c r cause k up discarded counted malformed
  have bad : malformed → senderMalformed s r = true := by
    rintro (h | ⟨hr, h⟩)
    · simp [senderMalformed, h]
    · simp [senderMalformed, hr, h]
  refine ⟨rfl, fun hc h => ?_, fun seq f h => ?_, fun seq f h => ?_, fun hr h0 hc hwf => ?_⟩
  · obtain ⟨ok, deliver, e, -⟩ := exec_frame hc s
    rw [e]
    exact next_eq (receive_malformed s _ (.inl (bad h)))
  · refine next_eq (receive_malformed s _ (.inr ?_))
    rcases h with h | h | h <;> rw [h] <;> rfl
  · refine next_eq (receive_malformed s _ (.inr ?_))
    rcases h with h | h
    · simp [noticeCounted, h]
    · simp only [noticeCounted, Config.noticeEntries, Bool.and_eq_false_iff]
      exact .inr (decide_eq_false (not_le.mpr h))
  · obtain ⟨ok, deliver, e, hok⟩ := exec_frame hc s
    rw [e, hok hwf]
    exact next_eq (receive_unconfigured s _ hr h0)

end Sys2Proof.Proofs

/-! PROOFS. The bay requests, the loads of a trailer, and the releases of a peer. -/

namespace Sys2Proof.Machine

variable {s : State}

/-! ## Requests with a refusal -/

section Refusable

variable {α : Type} {kind tag : Nat} {a : α} {own : α → State → Reply} {refusal : Option Status} {t : State} {unfit : Result}

/-- R192: a request that its tests refuse. -/
theorem request_refused (h : ready s = true) (hs : settled s = true) (hc : s.record.isSome = true) {st : Status}
    (ho : own a (taken s kind tag) = unlessRefused (taken s kind tag) refusal t) (hr : refusal = some st) :
    request kind tag false unfit (.fields a) own s = answered (taken s kind tag) kind tag st .none :=
  request_reads h hs (.inr hc) (by rw [ho, hr]; rfl)

/-- R192: a request that its tests let pass. -/
theorem request_accepted (h : ready s = true) (hc : s.record.isSome = true)
    (ho : own a (taken s kind tag) = unlessRefused (taken s kind tag) refusal t) (hr : refusal = none) (ht : t.scanDue = false) :
    request kind tag false unfit (.fields a) own s = answered t kind tag .ok .none := by
  rw [request_fields h (.inr hc), ho, hr]
  exact respond_unscanned ht kind tag

end Refusable

/-! ## The bays -/

theorem bayCovered_congr {t : State} (hr : t.record = s.record) (hk : t.claim = s.claim) (hb : t.bays = s.bays) (b : Nat) :
    bayCovered t b = bayCovered s b := by
  simp only [bayCovered, coversInterval, bayCoverage, State.bay, conf_of_record hr, hk, hb]

theorem taken_bayCovered (kind tag b : Nat) : bayCovered (taken s kind tag) b = bayCovered s b :=
  bayCovered_congr (by simp) (by simp) (by simp) b

theorem reservedCount_eq_zero (b : BayRecord) : reservedCount b = 0 ↔ ∀ k ∈ b.cradles, k.isReserved = false := by
  simp [reservedCount, List.countP_eq_zero]

theorem within_iff {x a b : Int} : within x a b = true ↔ a ≤ x ∧ x ≤ b := by
  unfold within
  rw [Bool.and_eq_true, decide_eq_true_eq, decide_eq_true_eq]

theorem taken_dockRefusal (kind tag : Nat) (q : DockRequest) : dockRefusal (taken s kind tag) q = dockRefusal s q := by
  simp only [dockRefusal, taken_node, taken_conf, taken_bay, taken_bayCovered]

theorem taken_closeRefusal (kind tag bay : Nat) : closeRefusal (taken s kind tag) bay = closeRefusal s bay := by
  simp only [closeRefusal, taken_node, taken_conf, taken_bay, taken_bayCovered]

theorem taken_undockRefusal (kind tag bay : Nat) : undockRefusal (taken s kind tag) bay = undockRefusal s bay := by
  simp only [undockRefusal, taken_node, taken_conf, taken_bay, taken_bayCovered]

/-! ## Trailer loads -/

/-- R179: the moment of weights that stand between kingpin and axle group. -/
theorem moment_bounds {t : Trailer} : ∀ {ws : List (Int × Int)},
    (∀ p ∈ ws, t.kingpin ≤ p.1 ∧ p.1 ≤ t.kingpin + t.axle ∧ 0 ≤ p.2) →
    0 ≤ (ws.map fun p => p.2 * (p.1 - t.kingpin)).sum ∧
      (ws.map fun p => p.2 * (p.1 - t.kingpin)).sum ≤ (ws.map (·.2)).sum * t.axle
  | [], _ => by simp
  | p :: ws, h => by
    obtain ⟨h1, h2, h3⟩ := h p (by simp)
    obtain ⟨ih, ih'⟩ := moment_bounds (ws := ws) fun q hq => h q (by simp [hq])
    have low : 0 ≤ p.2 * (p.1 - t.kingpin) := mul_nonneg h3 (by omega)
    have high : p.2 * (p.1 - t.kingpin) ≤ p.2 * t.axle := mul_le_mul_of_nonneg_left (by omega) h3
    simp only [List.map_cons, List.sum_cons]
    exact ⟨by omega, by linarith⟩

/-- A quotient rounded up grows with what is divided, and by no more than whole quotients are added. -/
theorem ceilDiv_mono {d m n k : Int} (hd : 0 < d) (h : m ≤ n) (hk : n ≤ m + k * d) :
    ceilDiv m d ≤ ceilDiv n d ∧ ceilDiv n d ≤ ceilDiv m d + k := by
  obtain ⟨h1, h2⟩ := ceilDiv_bounds m hd
  obtain ⟨h3, h4⟩ := ceilDiv_bounds n hd
  constructor
  · refine Int.lt_add_one_iff.mp (lt_of_mul_lt_mul_left (a := d) ?_ hd.le)
    linarith
  · refine Int.lt_add_one_iff.mp (lt_of_mul_lt_mul_left (a := d) ?_ hd.le)
    linarith

/-! ## Releases -/

theorem noPeer_iff (c : StartRecord) (r : Nat) : noPeer c r = false ↔ r ≠ 0 ∧ r ≤ c.craneCount ∧ r ≠ c.ownRank := by
  simp [noPeer, and_assoc]

/-- R47, R48: a release of the peer can be prepared, whatever the record's arming and sequence. -/
def silentPeer (s : State) (r : Nat) : Prop :=
  s.node = .active ∧ (s.peer r).presence = .stale ∧ (s.peer r).releasePending = none

theorem prepareRefusal_of_peer {q : PrepareRequest} (h : noPeer s.conf q.rank = false) :
    (silentPeer s q.rank ∧ (s.peer q.rank).lastSeq = some q.lastSeq → prepareRefusal s q = none) ∧
      (¬ (silentPeer s q.rank ∧ (s.peer q.rank).lastSeq = some q.lastSeq) → prepareRefusal s q = some .state) := by
  unfold prepareRefusal silentPeer
  rw [if_neg (by simp [h])]
  grind [Option.isSome_iff_ne_none, Option.isNone_iff_eq_none]

theorem confirmRefusal_of_peer {r : Nat} (h : noPeer s.conf r = false) :
    (silentPeer s r ∧ (s.peer r).arming.isSome ∧ s.peers.inFlight = none → confirmRefusal s r = none) ∧
      (¬ (silentPeer s r ∧ (s.peer r).arming.isSome ∧ s.peers.inFlight = none) → confirmRefusal s r = some .state) := by
  unfold confirmRefusal silentPeer
  rw [if_neg (by simp [h])]
  grind [Option.isSome_iff_ne_none, Option.isNone_iff_eq_none]

end Sys2Proof.Machine

namespace Sys2Proof.Proofs

open Machine

/-- Settles O46: the tests read what the request leaves as it was, and an accepted request is an own change of the bay. -/
theorem bayRequests : Obligations.BayRequests := by
  intro s tag bay trailer hr hs hc c b active fits free changed dock close undock no
  have hfree : free ↔ reservedCount b = 0 := (reservedCount_eq_zero b).symm
  have hfits : fits ↔ (trailerOk trailer && trailer.offsets.all fun o => inBridgeRange c (cradleX c bay o)) = true := by
    rw [Bool.and_eq_true, List.all_eq_true]
    exact and_congr Iff.rfl (forall₂_congr fun _ _ => within_iff.symm)
  have dockNo {st : Status} (h : dockRefusal s ⟨bay, trailer⟩ = some st) : dock = no 17 st :=
    next_eq (request_refused hr hs hc rfl ((taken_dockRefusal ..).trans h))
  have closeNo {st : Status} (h : closeRefusal s bay = some st) : close = no 18 st :=
    next_eq (request_refused hr hs hc rfl ((taken_closeRefusal ..).trans h))
  have undockNo {st : Status} (h : undockRefusal s bay = some st) : undock = no 19 st :=
    next_eq (request_refused hr hs hc rfl ((taken_undockRefusal ..).trans h))
  have unscanned (kind : Nat) (r : BayRecord) : (ownBayChange (Machine.taken s kind tag) bay r).scanDue = false := by
    simpa [ownBayChange, bayChanged] using not_scanDue hs
  have unfilled (h1 : b.state = .docked ∨ b.state = .loading) (h2 : b.unsure = false) :
      ¬ (!(b.state = .docked || b.state = .loading) || b.unsure) = true := by
    rcases h1 with h1 | h1 <;> simp [h1, h2]
  have bays (kind : Nat) : (Machine.taken s kind tag).bay bay = b := taken_bay kind tag bay
  refine ⟨fun h => ⟨dockNo ?_, closeNo ?_, undockNo ?_⟩, fun h hb => ⟨dockNo ?_, closeNo ?_, undockNo ?_⟩, fun h hb =>
    ⟨fun h1 => dockNo ?_, fun h1 h2 h3 => dockNo ?_, fun h1 h2 h3 h4 => dockNo ?_, fun h1 h2 h3 h4 => next_eq ?_,
    fun h1 => closeNo ?_, fun h1 h2 => ⟨fun h3 => closeNo ?_, fun h3 h4 => closeNo ?_, fun h3 h4 => next_eq ?_⟩,
    fun h1 => undockNo ?_, fun h1 h2 => undockNo ?_, fun h1 h2 => ⟨fun h3 h4 => next_eq ?_, fun h3 => next_eq ?_⟩⟩⟩
  · simp [dockRefusal, show s.node ≠ .active from h]
  · simp [closeRefusal, show s.node ≠ .active from h]
  · simp [undockRefusal, show s.node ≠ .active from h]
  · simp [dockRefusal, show s.node = .active from h, show s.conf.bayCount ≤ bay from hb]
  · simp [closeRefusal, show s.node = .active from h, show s.conf.bayCount ≤ bay from hb]
  · simp [undockRefusal, show s.node = .active from h, show s.conf.bayCount ≤ bay from hb]
  all_goals
    have hn : s.node = .active := h
    have hb : ¬ s.conf.bayCount ≤ bay := Nat.not_le.mpr hb
  · rw [dockRefusal, if_neg (by simp [hn]), if_neg hb, if_pos (by simpa using h1)]
  · rw [dockRefusal, if_neg (by simp [hn]), if_neg hb, if_neg (by simpa using ⟨h1, h2⟩), if_pos (by simp [h3])]
  · rw [dockRefusal, if_neg (by simp [hn]), if_neg hb, if_neg (by simpa using ⟨h1, h2⟩), if_neg (by simp [h3]),
      if_pos (by rw [Bool.not_eq_true']; exact Bool.eq_false_iff.mpr (mt hfits.mpr h4))]
  · refine (request_accepted (own := handleDockTruck) hr hc rfl ((taken_dockRefusal ..).trans ?_) ?_).trans ?_
    · rw [dockRefusal, if_neg (by simp [hn]), if_neg hb, if_neg (by simpa using ⟨h1, h2⟩), if_neg (by simp [h3]),
        if_neg (by simpa using hfits.mp h4)]
    · exact unscanned 17 _
    · rw [Machine.dock, bays]
      rfl
  · rw [closeRefusal, if_neg (by simp [hn]), if_neg hb, if_pos (by simpa using h1)]
  · rw [closeRefusal, if_neg (by simp [hn]), if_neg hb, if_neg (unfilled h1 h2), if_pos (by simp [h3])]
  · rw [closeRefusal, if_neg (by simp [hn]), if_neg hb, if_neg (unfilled h1 h2), if_neg (by simp [h3]),
      if_pos (by simpa using mt hfree.mpr h4)]
  · refine (request_accepted (own := handleCloseBay) hr hc rfl ((taken_closeRefusal ..).trans ?_) ?_).trans ?_
    · rw [closeRefusal, if_neg (by simp [hn]), if_neg hb, if_neg (unfilled h1 h2), if_neg (by simp [h3]),
        if_neg (by simpa using hfree.mp h4)]
    · exact unscanned 18 _
    · rw [closeTheBay, bays]
      rfl
  · rw [undockRefusal, if_neg (by simp [hn]), if_neg hb, if_pos (by simp [h1])]
  · rw [undockRefusal, if_neg (by simp [hn]), if_neg hb, if_neg (by simp [h1]), if_pos (by simpa using mt hfree.mpr h2)]
  all_goals
    have passed : undockRefusal s bay = none := by
      rw [undockRefusal, if_neg (by simp [hn]), if_neg hb, if_neg (by simp [h1]), if_neg (by simpa using hfree.mp h2)]
    have done (t : State) (ht : undockTheBay (Machine.taken s 19 tag) bay = t) (hs : t.scanDue = false) :=
      request_accepted (tag := tag) (unfit := .none) hr hc (refusal := none) (own := handleUndock) (a := bay) (t := t)
        (by rw [handleUndock, taken_undockRefusal, passed, ht]) rfl hs
  · refine done _ ?_ (by simpa using not_scanDue hs)
    rw [undockTheBay, bays, if_pos (by simpa using ⟨h3, h4⟩)]
  · refine done _ ?_ (unscanned ..)
    rw [undockTheBay, bays, if_neg (by simpa [← imp_iff_not_or] using h3)]
    rfl

/-- Settles O48: the axle load is the least whole number over the quotient, so a moment within a weight's bounds moves it
within that weight's. -/
theorem trailerLoads : Obligations.TrailerLoads := by
  intro t ws o w ha l moment
  have bounds := ceilDiv_bounds moment ha
  have haxle : l.axle = ceilDiv moment t.axle := rfl
  have hpay : l.payload = (ws.map (·.2)).sum := rfl
  have hking : l.kingpin = l.payload - l.axle := rfl
  refine ⟨by rw [haxle]; linarith, by rw [haxle]; linarith, hpay, by omega, fun within => ?_⟩
  intro m
  have hm : m.axle = ceilDiv (w * (o - t.kingpin) + moment) t.axle := by simp [m, Machine.trailerLoads, moment]
  have hmpay : m.payload = w + (ws.map (·.2)).sum := by simp [m, Machine.trailerLoads]
  have hmking : m.kingpin = m.payload - m.axle := rfl
  obtain ⟨ho, ho', hw⟩ := within (o, w) (by simp)
  simp only at ho ho' hw
  have all : 0 ≤ moment ∧ moment ≤ (ws.map (·.2)).sum * t.axle := moment_bounds fun p hp => within p (by simp [hp])
  have added : 0 ≤ w * (o - t.kingpin) := mul_nonneg hw (by omega)
  have added' : w * (o - t.kingpin) ≤ w * t.axle := mul_le_mul_of_nonneg_left (by omega) hw
  have zero : ceilDiv 0 t.axle = 0 := by simp [ceilDiv]
  have fromZero := ceilDiv_mono (k := (ws.map (·.2)).sum) ha all.1 (by linarith)
  have step := ceilDiv_mono (m := moment) (n := w * (o - t.kingpin) + moment) (k := w) ha (by omega) (by linarith)
  omega

/-- Settles O49: the tests of each request in their order, and the one record that an accepted request or the expiry
changes. -/
theorem releaseRequests : Obligations.ReleaseRequests := by
  intro s tag rank seq hs p prepare confirm no isPeer stale
  have peer (kind : Nat) : (Machine.taken s kind tag).peer rank = p := taken_peer ..
  have hpeer : isPeer ↔ noPeer s.conf rank = false := (noPeer_iff ..).symm
  have unscanned := not_scanDue hs
  refine ⟨fun hr hc => ?_, fun a ha => ?_⟩
  · have prepareNo {st : Status} (h : prepareRefusal (Machine.taken s 22 tag) ⟨rank, seq⟩ = some st) : prepare = no 22 st :=
      next_eq (request_refused hr hs hc rfl h)
    have confirmNo {st : Status} (h : confirmRefusal (Machine.taken s 23 tag) rank = some st) : confirm = no 23 st :=
      next_eq (request_refused hr hs hc rfl h)
    refine ⟨fun h => ⟨prepareNo ?_, confirmNo ?_⟩, fun h h1 => prepareNo ?_, fun h h1 h2 => next_eq ?_, fun h h1 => confirmNo ?_,
      fun h h1 h2 a ha => next_eq ?_⟩
    · simp [prepareRefusal, mt hpeer.mpr h]
    · simp [confirmRefusal, mt hpeer.mpr h]
    · refine (prepareRefusal_of_peer ?_).2 (mt ?_ h1)
      · simpa using hpeer.mp h
      · simp [silentPeer, peer, stale, p]
    · refine (request_accepted (own := handlePrepareRelease) hr hc rfl ((prepareRefusal_of_peer ?_).1 ?_) ?_).trans ?_
      · simpa using hpeer.mp h
      · simpa [silentPeer, peer, stale, p] using ⟨h1, h2⟩
      · simpa using unscanned
      · rw [State.mapPeer, peer, taken_now]
        rfl
    · refine (confirmRefusal_of_peer ?_).2 (mt ?_ h1)
      · simpa using hpeer.mp h
      · simp [silentPeer, peer, stale, p]
    · refine (request_accepted (own := handleConfirmRelease) hr hc rfl ((confirmRefusal_of_peer ?_).1 ?_) ?_).trans ?_
      · simpa using hpeer.mp h
      · simpa [silentPeer, peer, stale, p, h2, ha] using h1
      · simpa [confirmTheRelease] using unscanned
      · rw [confirmTheRelease, State.mapPeer, peer, ha]
        rfl
  · refine next_eq ?_
    show expire (p.arming.map (·.expiry)) (armingDue rank) s = _
    rw [ha]
    exact expire_some (s := s) a.expiry (armingDue rank) (by simpa [armingDue, settled] using unscanned)

end Sys2Proof.Proofs

/-! SUPPORT. What the operations on the Store Map, the Bay Table and the nest write, and what they leave alone. -/

namespace Sys2Proof.Machine

variable {s t u : State}

/-! ## Work on the yard's records -/

/-- From s to t only the Store Map, the Bay Table, the Task Engine, the link, and the port's events can have changed. -/
structure YardWork (s t : State) : Prop where
  inputs : t.inputs = s.inputs
  record : t.record = s.record
  node : t.node = s.node
  listen : t.listen = s.listen
  peers : t.peers = s.peers
  claim : t.claim = s.claim
  travel : t.travel = s.travel
  halt : t.halt = s.halt
  weigher : t.weigher = s.weigher
  now : t.now = s.now
  transmit : t.port.transmit = s.port.transmit

/-- Of these, only the Store Map, the link and the port's events can have changed. -/
structure StoreWork (s t : State) : Prop extends YardWork s t where
  tasks : t.tasks = s.tasks
  bays : t.bays = s.bays

namespace YardWork

theorem refl (s : State) : YardWork s s := ⟨rfl, rfl, rfl, rfl, rfl, rfl, rfl, rfl, rfl, rfl, rfl⟩

theorem trans (h : YardWork s t) (k : YardWork t u) : YardWork s u where
  inputs := k.inputs.trans h.inputs
  record := k.record.trans h.record
  node := k.node.trans h.node
  listen := k.listen.trans h.listen
  peers := k.peers.trans h.peers
  claim := k.claim.trans h.claim
  travel := k.travel.trans h.travel
  halt := k.halt.trans h.halt
  weigher := k.weigher.trans h.weigher
  now := k.now.trans h.now
  transmit := k.transmit.trans h.transmit

theorem foldl {α : Type} {f : State → α → State} (hf : ∀ t a, YardWork t (f t a)) (l : List α) (s : State) :
    YardWork s (l.foldl f s) := by
  induction l generalizing s with
  | nil => exact refl s
  | cons a l ih => exact (hf s a).trans (ih _)

theorem conf (h : YardWork s t) : t.conf = s.conf := conf_of_record h.record

end YardWork

namespace StoreWork

theorem refl (s : State) : StoreWork s s := ⟨.refl s, rfl, rfl⟩

theorem trans (h : StoreWork s t) (k : StoreWork t u) : StoreWork s u :=
  ⟨h.toYardWork.trans k.toYardWork, k.tasks.trans h.tasks, k.bays.trans h.bays⟩

theorem foldl {α : Type} {f : State → α → State} (hf : ∀ t a, StoreWork t (f t a)) (l : List α) (s : State) :
    StoreWork s (l.foldl f s) := by
  induction l generalizing s with
  | nil => exact refl s
  | cons a l ih => exact (hf s a).trans (ih _)

theorem conf (h : StoreWork s t) : t.conf = s.conf := h.toYardWork.conf

theorem storeOnly (h : StoreWork s t) : storeOnly s t :=
  ⟨h.travel, h.halt, h.weigher, h.tasks, h.bays, h.claim, by rw [h.peers], by rw [h.peers], h.node, h.record, h.inputs, h.listen,
    h.now⟩

end StoreWork

theorem raiseEvent_work (s : State) (d : Detail) : StoreWork s (raiseEvent s d) :=
  ⟨⟨rfl, rfl, rfl, rfl, rfl, rfl, rfl, rfl, rfl, rfl, rfl⟩, rfl, rfl⟩

theorem offer_work (s : State) (c : Content) : StoreWork s (offer s c) := by
  constructor
  · constructor <;> simp
  · simp
  · simp

theorem withdraw_work (s : State) (p : Content → Bool) : StoreWork s (withdraw s p) :=
  ⟨⟨rfl, rfl, rfl, rfl, rfl, rfl, rfl, rfl, rfl, rfl, rfl⟩, rfl, rfl⟩

theorem finish_work (s : State) : StoreWork s (finish s) := by
  constructor
  · constructor <;> simp
  · simp
  · simp

/-- The scope that tracks nothing: what `Kept` says of any work. -/
def untracked : Scope := ⟨False, False, False, fun _ => False, fun _ => False⟩

/-! ## Rows judged -/

theorem settleRow_eq (s : State) (row : Nat) : ∃ q b, settleRow s row = { s with scanDue := b, store := { s.store with
    query := q
    rows := if (rowSlots s.conf row).all (fun n => slotAt s n != .unknown) then tablePut .reset s.store.rows row ⟨true, false⟩
      else s.store.rows } } := by
  unfold settleRow
  split
  · rename_i h
    dsimp only
    split
    · exact ⟨none, true, by simp [scanLater, putRow]⟩
    · exact ⟨s.store.query, s.scanDue, by simp [putRow]⟩
  · rename_i h
    exact ⟨s.store.query, s.scanDue, by simp⟩

theorem settleRow_work (s : State) (row : Nat) : StoreWork s (settleRow s row) := by
  obtain ⟨q, b, h⟩ := settleRow_eq s row
  rw [h]
  exact ⟨⟨rfl, rfl, rfl, rfl, rfl, rfl, rfl, rfl, rfl, rfl, rfl⟩, rfl, rfl⟩

@[simp] theorem settleRow_keeps (s : State) (row : Nat) : (settleRow s row).store.slots = s.store.slots ∧
    (settleRow s row).store.outbox = s.store.outbox ∧ (settleRow s row).store.plan = s.store.plan ∧
    (settleRow s row).port = s.port ∧ (settleRow s row).link = s.link ∧ (settleRow s row).record = s.record := by
  obtain ⟨q, b, h⟩ := settleRow_eq s row
  rw [h]
  exact ⟨rfl, rfl, rfl, rfl, rfl, rfl⟩

theorem slotAt_of_slots (h : t.store.slots = s.store.slots) (n : Nat) : slotAt t n = slotAt s n := by rw [slotAt, h, slotAt]

theorem rowAt_of_rows (h : t.store.rows = s.store.rows) (n : Nat) : rowAt t n = rowAt s n := by rw [rowAt, h, rowAt]

@[simp] theorem settleRow_slotAt (s : State) (row n : Nat) : slotAt (settleRow s row) n = slotAt s n :=
  slotAt_of_slots (settleRow_keeps s row).1 n

/-- R131: a row with no UNKNOWN slot becomes KNOWN; any other keeps its record. -/
theorem settleRow_rowAt (h : tablesOk s = true) (row : Nat) :
    ((∀ n ∈ rowSlots s.conf row, slotAt s n ≠ .unknown) → rowAt (settleRow s row) row = ⟨true, false⟩) ∧
    ((∃ n ∈ rowSlots s.conf row, slotAt s n = .unknown) → rowAt (settleRow s row) row = rowAt s row) ∧
    ∀ r, r ≠ row → rowAt (settleRow s row) r = rowAt s r := by
  obtain ⟨q, b, e⟩ := settleRow_eq s row
  have wf := ((tablesOk_iff s).mp h).2
  rw [e]
  unfold rowAt
  dsimp only
  refine ⟨fun hk => ?_, fun hk => ?_, fun r hr => ?_⟩
  · rw [if_pos (by simpa using hk)]
    exact tableGet_put_same row _ wf
  · rw [if_neg (by simpa using hk)]
  · split
    · exact tableGet_put_other _ hr
    · rfl

/-! ## Slots changed -/

theorem changeSlot_work (s : State) (n : Nat) (r : SlotRecord) : StoreWork s (changeSlot s n r) := by
  refine .trans ?_ (settleRow_work _ _)
  exact ⟨⟨rfl, rfl, rfl, rfl, rfl, rfl, rfl, rfl, rfl, rfl, rfl⟩, rfl, rfl⟩

@[simp] theorem changeSlot_keeps (s : State) (n : Nat) (r : SlotRecord) :
    (changeSlot s n r).store.outbox = s.store.outbox ∧ (changeSlot s n r).store.plan = s.store.plan ∧
    (changeSlot s n r).port = s.port ∧ (changeSlot s n r).link = s.link ∧ (changeSlot s n r).record = s.record := by
  simp only [changeSlot, settleRow_keeps]
  exact ⟨rfl, rfl, rfl, rfl, rfl⟩

theorem changeSlot_same (h : tablesOk s = true) (n : Nat) (r : SlotRecord) : slotAt (changeSlot s n r) n = r := by
  rw [changeSlot, settleRow_slotAt]
  exact slotAt_put_same s n r ((tablesOk_iff s).mp h).1

theorem changeSlot_other {n k : Nat} (h : k ≠ n) (r : SlotRecord) : slotAt (changeSlot s n r) k = slotAt s k := by
  rw [changeSlot, settleRow_slotAt]
  exact slotAt_put_other s r h

theorem changeSlot_tablesOk (h : tablesOk s = true) (n : Nat) (r : SlotRecord) : tablesOk (changeSlot s n r) = true :=
  (changeSlot_kept (k := untracked) n r).tables h

/-- A record other than UNKNOWN is read back from any table. -/
theorem changeSlot_listed (s : State) (n : Nat) {r : SlotRecord} (hr : r ≠ .unknown) : slotAt (changeSlot s n r) n = r := by
  rw [changeSlot, settleRow_slotAt]
  exact tableGet_put_listed n hr

/-! ## Rows marked (R131) -/

theorem markRow_work (s : State) (row : Nat) : StoreWork s (markRow s row) :=
  ⟨⟨rfl, rfl, rfl, rfl, rfl, rfl, rfl, rfl, rfl, rfl, rfl⟩, rfl, rfl⟩

theorem markRow_tablesOk (h : tablesOk s = true) (row : Nat) : tablesOk (markRow s row) = true :=
  (markRow_kept (k := untracked) row).tables h

/-- R131: slots of a list made UNKNOWN but for those kept. -/
theorem markSlots_get (p : Nat → Bool) (l : List Nat) {t : Table SlotRecord} (h : tableWf .unknown t = true) (n : Nat) :
    tableGet .unknown (l.foldl (fun t n => if p n then t else tablePut SlotRecord.unknown t n .unknown) t) n =
      if n ∈ l ∧ p n = false then .unknown else tableGet .unknown t n := by
  induction l generalizing t with
  | nil => simp
  | cons k l ih =>
    rw [List.foldl_cons]
    by_cases hk : p k = true
    · rw [if_pos hk, ih h]
      by_cases hn : n = k
      · subst hn
        simp [hk]
      · simp [hn]
    · rw [if_neg hk, ih (tablePut_wf _ _ h)]
      by_cases hn : n = k
      · subst hn
        rw [tableGet_put_same _ _ h]
        simp [hk]
      · rw [tableGet_put_other _ hn]
        simp [hn]

theorem markRow_slotAt (h : tablesOk s = true) (row n : Nat) : slotAt (markRow s row) n =
    if n ∈ rowSlots s.conf row ∧ heldSlot s n = false then .unknown else slotAt s n :=
  markSlots_get (heldSlot s) _ ((tablesOk_iff s).mp h).1 n

theorem markRow_rowAt (h : tablesOk s = true) (row r : Nat) : rowAt (markRow s row) r =
    if r = row then ⟨false, false⟩ else rowAt s r := by
  show rowAt (putRow s row .reset) r = _
  split
  · subst r
    exact rowAt_put_same s row _ ((tablesOk_iff s).mp h).2
  · exact rowAt_put_other s _ ‹_›

theorem markRow_plan (s : State) (row : Nat) : (markRow s row).store.plan =
    if s.store.plan.any (·.row == row) then none else s.store.plan := rfl

theorem markSuspect_work (s : State) (row : Nat) (c : SuspectCause) (rank : Option Nat) :
    StoreWork s (markSuspect s row c rank) := (markRow_work s row).trans (raiseEvent_work _ _)

theorem markSuspect_slotAt (row n : Nat) (c : SuspectCause) (rank : Option Nat) :
    slotAt (markSuspect s row c rank) n = slotAt (markRow s row) n := rfl

theorem markSuspect_tablesOk (h : tablesOk s = true) (row : Nat) (c : SuspectCause) (rank : Option Nat) :
    tablesOk (markSuspect s row c rank) = true := markRow_tablesOk h row

/-- R150: a row marked with a cause raises STORE_SUSPECT alone. -/
theorem markSuspect_events (s : State) (row : Nat) (c : SuspectCause) (rank : Option Nat) (n : Nat) :
    eventAt (markSuspect s row c rank).port n =
      if n = 13 then (eventAt s.port 13).next (.storeSuspect c (some row) 1 rank) else eventAt s.port n := by
  rw [markSuspect, suspect, eventAt_raise]
  show (if n = 13 then _ else _) = _
  split
  · subst n; rfl
  · rfl

/-- R131, R145, R150: a row marked with a cause. -/
theorem markSuspect_marked (h : tablesOk s = true) (row : Nat) (c : SuspectCause) (rank : Option Nat) :
    rowMarked s (markSuspect s row c rank) row c rank := by
  refine ⟨fun n hn => ?_, fun n hn => ?_, ?_, rfl, by rw [markSuspect_events, if_pos rfl]⟩
  · rw [markSuspect_slotAt, markRow_slotAt h]
    cases heldSlot s n <;> simp [hn]
  · rw [markSuspect_slotAt, markRow_slotAt h, if_neg (fun hm => hn hm.1)]
  · exact (markRow_rowAt h row row).trans (if_pos rfl)

/-! ## The outbox -/

theorem joinOutbox_eq (s : State) (e : OutboxEntry) : ∃ l, joinOutbox s e =
    { s with store := { s.store with outbox := s.store.outbox ++ [e] }, link := l } := by
  unfold joinOutbox offer
  dsimp only
  repeat' split
  all_goals exact ⟨_, rfl⟩

theorem joinOutbox_work (s : State) (e : OutboxEntry) : StoreWork s (joinOutbox s e) := by
  obtain ⟨l, h⟩ := joinOutbox_eq s e
  rw [h]
  exact ⟨⟨rfl, rfl, rfl, rfl, rfl, rfl, rfl, rfl, rfl, rfl, rfl⟩, rfl, rfl⟩

@[simp] theorem joinOutbox_keeps (s : State) (e : OutboxEntry) : (joinOutbox s e).store.slots = s.store.slots ∧
    (joinOutbox s e).store.rows = s.store.rows ∧ (joinOutbox s e).store.plan = s.store.plan ∧
    (joinOutbox s e).store.outbox = s.store.outbox ++ [e] ∧ (joinOutbox s e).port = s.port ∧
    (joinOutbox s e).scanDue = s.scanDue := by
  obtain ⟨l, h⟩ := joinOutbox_eq s e
  rw [h]
  exact ⟨rfl, rfl, rfl, rfl, rfl, rfl⟩

@[simp] theorem joinOutbox_slotAt (s : State) (e : OutboxEntry) (n : Nat) : slotAt (joinOutbox s e) n = slotAt s n :=
  slotAt_of_slots (joinOutbox_keeps s e).1 n

/-! ## Entries that wait in the queue (R24, R25) -/

theorem queued_iff (s : State) (p : Content → Bool) :
    queued s p = true ↔ ∃ e ∈ s.link.queue, p e.content = true ∧ e.withdrawn = false := by
  simp [queued]

/-- R25: an arrival leaves an entry of a kind that merges with its own kind alone in the queue. -/
theorem queued_offer {p : Content → Bool} (hp : ∀ c d, c.merges d = true → p c = p d) (c : Content)
    (h : queued s p = true) : queued (offer s c) p = true := by
  unfold offer
  split
  · rw [queued_iff] at *
    obtain ⟨e, he, hpe, hw⟩ := h
    show ∃ f ∈ (enqueue s.link c).queue, _
    unfold enqueue
    split
    · rename_i q hq
      obtain ⟨as, f, bs, hl, rfl, -, hm⟩ := mergeInto_mem hq
      rw [hl] at he
      by_cases hf : e = f
      · subst hf
        refine ⟨mergeEntry c s.link.stamp e, by simp, ?_, ?_⟩
        · unfold mergeEntry
          repeat' split
          case _ => exact hpe
          case _ => exact hpe
          case _ => exact hpe
          case _ => exact (hp c _ hm).trans hpe
        · unfold mergeEntry
          repeat' split
          all_goals exact hw
      · exact ⟨e, by simp at he ⊢; tauto, hpe, hw⟩
    · exact ⟨e, (insertEntry_perm _ _).mem_iff.mpr (List.mem_cons_of_mem _ he), hpe, hw⟩
  · exact h

/-- R25, R30: an entry that may join waits in the queue. -/
theorem queued_offered {p : Content → Bool} (hp : ∀ c d, c.merges d = true → p c = p d) {c : Content} (hc : p c = true)
    (hj : mayJoin s.node c = true) : queued (offer s c) p = true := by
  rw [offer, if_pos hj, queued_iff]
  show ∃ f ∈ (enqueue s.link c).queue, _
  unfold enqueue
  split
  · rename_i q hq
    obtain ⟨as, f, bs, -, rfl, hw, hm⟩ := mergeInto_mem hq
    refine ⟨mergeEntry c s.link.stamp f, by simp, ?_, ?_⟩
    · have := (hp c _ hm).symm.trans hc
      unfold mergeEntry
      repeat' split
      all_goals first | exact this | exact hc
    · unfold mergeEntry
      repeat' split
      all_goals exact hw
  · exact ⟨_, (insertEntry_perm _ _).mem_iff.mpr List.mem_cons_self, hc, rfl⟩

theorem isStoreNotice_merges (c d : Content) (h : c.merges d = true) : isStoreNotice c = isStoreNotice d := by
  cases c <;> cases d <;> first | rfl | cases h

theorem finish_queued {p : Content → Bool} (hp : ∀ c d, c.merges d = true → p c = p d) (h : queued s p = true) :
    queued (finish s) p = true := by
  have cleared : queued (clearSpent { s with scanDue := false }) p = true := by simpa [queued] using h
  unfold finish queryScan
  dsimp only
  repeat' split
  · exact cleared
  · exact cleared
  · exact queued_offer hp _ (by exact cleared)
  · exact h

theorem joinOutbox_queued (hn : s.node = .active) (e : OutboxEntry) : queued (joinOutbox s e) isStoreNotice = true := by
  unfold joinOutbox
  dsimp only
  split
  · assumption
  · exact queued_offered isStoreNotice_merges rfl (by simp [hn, mayJoin])

/-! ## Bays changed -/

theorem ownBayChange_work (s : State) (b : Nat) (r : BayRecord) : YardWork s (ownBayChange s b r) :=
  .trans (t := s.withBay b { r with announcer := some .own }) ⟨rfl, rfl, rfl, rfl, rfl, rfl, rfl, rfl, rfl, rfl, rfl⟩
    (offer_work _ _).toYardWork

@[simp] theorem ownBayChange_keeps (s : State) (b : Nat) (r : BayRecord) : (ownBayChange s b r).store = s.store ∧
    (ownBayChange s b r).tasks = s.tasks ∧ (ownBayChange s b r).port = s.port ∧
    (ownBayChange s b r).bays = (s.withBay b { r with announcer := some .own }).bays := by
  simp [ownBayChange, bayChanged]

theorem ownBayChange_other {b c : Nat} (h : c ≠ b) (r : BayRecord) : (ownBayChange s b r).bay c = s.bay c := by
  rw [State.bay, (ownBayChange_keeps s b r).2.2.2]
  exact withBay_other s _ h

/-- A bay above 3 has no record. -/
theorem bay_beyond {b : Nat} (h : 3 < b) (s : State) : s.bay b = .reset := by
  obtain ⟨k, rfl⟩ : ∃ k, b = k + 4 := ⟨b - 4, by omega⟩
  rfl

/-- A record written for a bay is the one read, but for a bay that there is not. -/
theorem ownBayChange_same (s : State) (b : Nat) (r : BayRecord) :
    (ownBayChange s b r).bay b = if b ≤ 3 then { r with announcer := some .own } else .reset := by
  split
  · rw [State.bay, (ownBayChange_keeps s b r).2.2.2]
    exact withBay_bay s _ ‹_›
  · exact bay_beyond (by omega) _

/-- A cradle replaced. -/
theorem cradleAt_put (b : BayRecord) (i j : Nat) (k : CradleRecord) :
    cradleAt (putCradle b i k) j = if j - 1 = i - 1 ∧ i - 1 < b.cradles.length then k else cradleAt b j := by
  unfold cradleAt BayRecord.cradles putCradle
  cases b.load with
  | none => simp
  | some l =>
    simp only [Option.map_some, Option.getD_some, List.getD_eq_getElem?_getD, List.getElem?_set]
    grind

/-- R181: a cradle is EMPTY once it is restored, and stays so. -/
theorem restoreCradle_empty (s : State) (b i c j : Nat) (h : cradleAt (s.bay c) j = .empty ∨ (c = b ∧ j = i)) :
    cradleAt ((restoreCradle s b i).bay c) j = .empty := by
  by_cases hc : c = b
  · subst hc
    rw [restoreCradle, ownBayChange_same]
    split
    · show cradleAt (putCradle (s.bay c) i .empty) j = _
      rw [cradleAt_put]
      split
      · rfl
      · rcases h with h | ⟨-, rfl⟩
        · exact h
        · simp only [true_and, not_lt] at *
          simp [cradleAt, List.getD_eq_getElem?_getD, List.getElem?_eq_none ‹_›]
    · rfl
  · rw [restoreCradle, ownBayChange_other hc]
    exact h.resolve_right fun h => hc h.1

/-! ## Unwinding (R168) -/

theorem restoreEntry_work (s : State) (e : JournalEntry) : YardWork s (restoreEntry s e) := by
  unfold restoreEntry
  split
  · exact (changeSlot_work s _ _).toYardWork
  · exact ownBayChange_work s _ _
  · exact .refl s

@[simp] theorem restoreEntry_keeps (s : State) (e : JournalEntry) : (restoreEntry s e).tasks = s.tasks ∧
    (restoreEntry s e).port = s.port ∧ (restoreEntry s e).store.outbox = s.store.outbox := by
  unfold restoreEntry
  split
  · exact ⟨(changeSlot_work s _ _).tasks, by simp [restoreSlot], by simp [restoreSlot]⟩
  · simp [restoreCradle]
  · exact ⟨rfl, rfl, rfl⟩

theorem restoreEntry_tablesOk (h : tablesOk s = true) (e : JournalEntry) : tablesOk (restoreEntry s e) = true :=
  (restoreEntry_kept (k := untracked) e).tables h

theorem restoreEntry_slotAt (h : tablesOk s = true) (e : JournalEntry) (n : Nat) :
    (∀ p, e = .slot n p false → slotAt (restoreEntry s e) n = p) ∧
      ((∀ p, e ≠ .slot n p false) → slotAt (restoreEntry s e) n = slotAt s n) := by
  refine ⟨?_, fun hne => ?_⟩
  · rintro p rfl
    exact changeSlot_same h n p
  · unfold restoreEntry
    split
    · exact changeSlot_other (by rintro rfl; exact hne _ rfl) _
    · exact slotAt_of_store (ownBayChange_keeps s _ _).1 n
    · rfl

theorem restoreEntry_bay (s : State) (e : JournalEntry) (b : Nat) (h : ∀ i p, e ≠ .cradle b i p false) :
    (restoreEntry s e).bay b = s.bay b := by
  unfold restoreEntry
  split
  · exact congrArg (bayAt · b) (changeSlot_work s _ _).bays
  · exact ownBayChange_other (by rintro rfl; exact h _ _ rfl) _
  · rfl

theorem restoreEntry_cradle (s : State) (e : JournalEntry) (b i : Nat)
    (h : cradleAt (s.bay b) i = .empty ∨ ∃ p, e = .cradle b i p false) :
    cradleAt ((restoreEntry s e).bay b) i = .empty := by
  by_cases hb : ∀ i p, e ≠ .cradle b i p false
  · rw [restoreEntry_bay s e b hb]
    exact h.resolve_right fun ⟨p, hp⟩ => hb i p hp
  · push Not at hb
    obtain ⟨j, p, rfl⟩ := hb
    refine restoreCradle_empty s b j b i (h.imp_right ?_)
    rintro ⟨q, hq⟩
    cases hq
    exact ⟨rfl, rfl⟩

/-- R168: the entries of one task or of several, restored in turn: a slot that they agree on takes its prior record. -/
theorem restoreEntries_slotAt {n : Nat} {p : SlotRecord} : ∀ (l : List JournalEntry) (s : State), tablesOk s = true →
    (∀ r, .slot n r false ∈ l → r = p) → (slotAt s n = p ∨ .slot n p false ∈ l) → slotAt (l.foldl restoreEntry s) n = p
  | [], _, _, _, hp => hp.resolve_right (by simp)
  | e :: l, s, h, agree, hp => by
    refine restoreEntries_slotAt l _ (restoreEntry_tablesOk h e) (fun r hr => agree r (by simp [hr])) ?_
    obtain ⟨written, kept⟩ := restoreEntry_slotAt h e n
    by_cases he : ∃ r, e = .slot n r false
    · obtain ⟨r, rfl⟩ := he
      exact .inl ((written r rfl).trans (agree r (by simp)))
    · push Not at he
      rw [kept he]
      exact hp.imp_right fun hm => (List.mem_cons.mp hm).resolve_left fun h => he p h.symm

theorem restoreEntries_bay {b : Nat} : ∀ (l : List JournalEntry) (s : State),
    (∀ i p, .cradle b i p false ∉ l) → (l.foldl restoreEntry s).bay b = s.bay b
  | [], _, _ => rfl
  | e :: l, s, h => by
    rw [List.foldl_cons, restoreEntries_bay l _ fun i p hm => h i p (by simp [hm])]
    exact restoreEntry_bay s e b fun i p he => h i p (by simp [he])

theorem restoreEntries_cradle {b i : Nat} : ∀ (l : List JournalEntry) (s : State),
    (cradleAt (s.bay b) i = .empty ∨ ∃ p, .cradle b i p false ∈ l) → cradleAt ((l.foldl restoreEntry s).bay b) i = .empty
  | [], _, h => h.resolve_right (by simp)
  | e :: l, s, h => by
    refine restoreEntries_cradle l _ ?_
    rcases h with h | ⟨p, hp⟩
    · exact .inl (restoreEntry_cradle s e b i (.inl h))
    · rcases List.mem_cons.mp hp with rfl | hp
      · exact .inl (restoreEntry_cradle s _ b i (.inr ⟨p, rfl⟩))
      · exact .inr ⟨p, hp⟩

theorem restoreEntries_keeps : ∀ (l : List JournalEntry) (s : State), (l.foldl restoreEntry s).tasks = s.tasks ∧
    (l.foldl restoreEntry s).port = s.port ∧ (l.foldl restoreEntry s).store.outbox = s.store.outbox
  | [], _ => ⟨rfl, rfl, rfl⟩
  | e :: l, s => by
    obtain ⟨h1, h2, h3⟩ := restoreEntries_keeps l (restoreEntry s e)
    obtain ⟨k1, k2, k3⟩ := restoreEntry_keeps s e
    exact ⟨h1.trans k1, h2.trans k2, h3.trans k3⟩

/-- R168: one task unwound. -/
theorem unwindTask_keeps (c : AbortCause) (d : Nat) (s : State) (t : Task) :
    (unwindTask c d s t).tasks = { s.tasks with
      nest := s.tasks.nest.dropLast, outcomes := (⟨t.number, t.kind, some (c, d)⟩ :: s.tasks.outcomes).take 3 } ∧
    (unwindTask c d s t).port = s.port ∧ (unwindTask c d s t).store.outbox = s.store.outbox := by
  obtain ⟨h1, h2, h3⟩ := restoreEntries_keeps t.journal.reverse s
  refine ⟨?_, h2, h3⟩
  simp only [unwindTask, addOutcome, h1, Config.outcomeCapacity]

theorem unwindTask_work (c : AbortCause) (d : Nat) (s : State) (t : Task) : YardWork s (unwindTask c d s t) :=
  .trans (.foldl restoreEntry_work t.journal.reverse s) ⟨rfl, rfl, rfl, rfl, rfl, rfl, rfl, rfl, rfl, rfl, rfl⟩

theorem unwindTask_tablesOk (h : tablesOk s = true) (c : AbortCause) (d : Nat) (t : Task) :
    tablesOk (unwindTask c d s t) = true := (unwindTask_kept (k := untracked) c d t).tables h

/-- The tasks of a list unwound in turn. -/
theorem unwindTasks_slotAt {c : AbortCause} {d n : Nat} {p : SlotRecord} : ∀ (l : List Task) (s : State), tablesOk s = true →
    (∀ r, .slot n r false ∈ l.flatMap (·.journal) → r = p) →
    (slotAt s n = p ∨ .slot n p false ∈ l.flatMap (·.journal)) → slotAt (l.foldl (unwindTask c d) s) n = p
  | [], _, _, _, hp => hp.resolve_right (by simp)
  | t :: l, s, h, agree, hp => by
    refine unwindTasks_slotAt l _ (unwindTask_tablesOk h c d t) (fun r hr => agree r (by simp [hr])) ?_
    rw [List.flatMap_cons, List.mem_append] at hp
    by_cases hl : .slot n p false ∈ l.flatMap (·.journal)
    · exact .inr hl
    · refine .inl (restoreEntries_slotAt t.journal.reverse s h (fun r hr => agree r ?_) ?_)
      · rw [List.flatMap_cons, List.mem_append]
        exact .inl (by simpa using hr)
      · simpa [hl] using hp

theorem unwindTasks_bay {c : AbortCause} {d b : Nat} : ∀ (l : List Task) (s : State),
    (∀ i p, .cradle b i p false ∉ l.flatMap (·.journal)) → (l.foldl (unwindTask c d) s).bay b = s.bay b
  | [], _, _ => rfl
  | t :: l, s, h => by
    have apart : ∀ i p, .cradle b i p false ∉ t.journal ∧ .cradle b i p false ∉ l.flatMap (·.journal) := fun i p => by
      simpa [not_or] using h i p
    rw [List.foldl_cons, unwindTasks_bay l _ fun i p => (apart i p).2]
    exact restoreEntries_bay t.journal.reverse s fun i p hm => (apart i p).1 (by simpa using hm)

theorem unwindTasks_cradle {c : AbortCause} {d b i : Nat} : ∀ (l : List Task) (s : State),
    (cradleAt (s.bay b) i = .empty ∨ ∃ p, .cradle b i p false ∈ l.flatMap (·.journal)) →
    cradleAt ((l.foldl (unwindTask c d) s).bay b) i = .empty
  | [], _, h => h.resolve_right (by simp)
  | t :: l, s, h => by
    refine unwindTasks_cradle l _ ?_
    have first : cradleAt (s.bay b) i = .empty ∨ (∃ p, .cradle b i p false ∈ t.journal.reverse) →
        cradleAt ((unwindTask c d s t).bay b) i = .empty := restoreEntries_cradle t.journal.reverse s
    rcases h with h | ⟨p, hp⟩
    · exact .inl (first (.inl h))
    · rw [List.flatMap_cons, List.mem_append] at hp
      rcases hp with hp | hp
      · exact .inl (first (.inr ⟨p, by simpa using hp⟩))
      · exact .inr ⟨p, hp⟩

/-- The outcome list holds the newest. -/
theorem take_append_take {α : Type} (n : Nat) (a b : List α) : (a ++ b.take n).take n = (a ++ b).take n := by
  rw [List.take_append, List.take_append, List.take_take, Nat.min_eq_left (Nat.sub_le _ _)]

/-- R168, R170: what unwinding tasks leaves of the task records, and of the port and the outbox. -/
theorem unwindTasks_keeps (c : AbortCause) (d : Nat) : ∀ (l : List Task) (s : State),
    (l.foldl (unwindTask c d) s).tasks = { s.tasks with
      nest := s.tasks.nest.take (s.tasks.nest.length - l.length), outcomes := if l = [] then s.tasks.outcomes else
        ((l.reverse.map fun k => (⟨k.number, k.kind, some (c, d)⟩ : TaskOutcome)) ++ s.tasks.outcomes).take 3 } ∧
    (l.foldl (unwindTask c d) s).port = s.port ∧ (l.foldl (unwindTask c d) s).store.outbox = s.store.outbox
  | [], s => by simp
  | t :: l, s => by
    obtain ⟨h1, h2, h3⟩ := unwindTasks_keeps c d l (unwindTask c d s t)
    obtain ⟨k1, k2, k3⟩ := unwindTask_keeps c d s t
    refine ⟨?_, h2.trans k2, h3.trans k3⟩
    rw [List.foldl_cons, h1, k1]
    have nest : s.tasks.nest.dropLast.take (s.tasks.nest.dropLast.length - l.length) =
        s.tasks.nest.take (s.tasks.nest.length - (t :: l).length) := by
      rw [List.dropLast_eq_take, List.take_take, List.length_take, List.length_cons]
      congr 1
      omega
    simp only [nest, reduceCtorEq, if_false]
    congr 1
    split
    · subst l; rfl
    · rw [take_append_take]
      simp

/-- R168, R169: what a hook does at the end of an unwinding: it writes the hook records and nothing else. -/
def writesHook (f : State → State) : Prop := ∀ s, ∃ k l w, f s = { s with tasks := { s.tasks with
  hookCoil := k, loose := l, unplaced := w } }

theorem unwind_work (s : State) (c : AbortCause) (d : Nat) : YardWork s (unwind s c d) :=
  .foldl (unwindTask_work c d) _ s

/-- R168 to R170: the nest aborted. -/
theorem abortNest_aborted (h : tablesOk s = true) (hn : s.tasks.nest ≠ []) (c : AbortCause) (number d : Nat) (x : AbortDetail)
    {f : State → State} (hf : writesHook f) :
    nestAborted s (abortNest s c number d x f) c number d (f (unwind s c d)).tasks.hookCoil.isSome
      (f (unwind s c d)).tasks.loose x := by
  obtain ⟨h1, h2, h3⟩ := unwindTasks_keeps c d s.tasks.nest.reverse s
  obtain ⟨k, l, w, hw⟩ := hf (unwind s c d)
  change (unwind s c d).tasks = _ at h1
  change (unwind s c d).port = _ at h2
  have slots (n : Nat) : slotAt (abortNest s c number d x f) n = slotAt (unwind s c d) n := by
    show slotAt (f (unwind s c d)) n = _
    rw [hw]
    rfl
  have bays (b : Nat) : (abortNest s c number d x f).bay b = (unwind s c d).bay b := by
    show (f (unwind s c d)).bay b = _
    rw [hw]
    rfl
  have entries (e : JournalEntry) : e ∈ s.tasks.nest.reverse.flatMap (·.journal) ↔ e ∈ s.tasks.nest.flatMap (·.journal) := by
    simp
  have port : (f (unwind s c d)).port = s.port := by
    rw [hw]
    exact h2
  have tasks : (abortNest s c number d x f).tasks = { (unwind s c d).tasks with hookCoil := k, loose := l, unplaced := w } := by
    show (f (unwind s c d)).tasks = _
    rw [hw]
  refine ⟨?_, ?_, ?_, rfl, rfl, fun n p hp agree => ?_, fun n hn => ?_, fun b i p hp => ?_, fun b hb => ?_, ?_, fun n hn => ?_, ?_⟩
  · rw [tasks, h1]
    simp
  · rw [tasks, h1]
  · rw [tasks, h1]
    simp [hn]
  · rw [slots]
    exact unwindTasks_slotAt _ s h (fun r hr => agree _ ((entries _).mp hr) r false rfl) (.inr ((entries _).mpr hp))
  · rw [slots]
    exact unwindTasks_slotAt _ s h (fun r hr => absurd rfl (hn _ ((entries _).mp hr) r)) (.inl rfl)
  · rw [bays]
    exact unwindTasks_cradle _ s (.inr ⟨p, (entries _).mpr hp⟩)
  · rw [bays]
    exact unwindTasks_bay _ s fun i p hm => hb _ ((entries _).mp hm) i p rfl
  · rw [abortNest, eventAt_raise, Detail.number, if_pos rfl, port]
  · rw [abortNest, eventAt_raise, Detail.number, if_neg hn, port]
  · show (f (unwind s c d)).store.outbox = _
    rw [hw]
    exact h3

theorem abortNest_work (s : State) (c : AbortCause) (number d : Nat) (x : AbortDetail) {f : State → State} (hf : writesHook f) :
    YardWork s (abortNest s c number d x f) := by
  refine (unwind_work s c d).trans (.trans (t := f (unwind s c d)) ?_ (raiseEvent_work _ _).toYardWork)
  obtain ⟨k, l, w, h⟩ := hf (unwind s c d)
  rw [h]
  exact ⟨rfl, rfl, rfl, rfl, rfl, rfl, rfl, rfl, rfl, rfl, rfl⟩

/-- Only slots, bays, tasks, events and outbox tell that a nest was aborted. -/
theorem nestAborted_congr {c : AbortCause} {number d : Nat} {hook loose : Bool} {x : AbortDetail}
    (h : nestAborted s t c number d hook loose x) (ht : u.tasks = t.tasks) (hs : u.store.slots = t.store.slots)
    (hb : u.bays = t.bays) (hp : u.port.events = t.port.events) (ho : u.store.outbox = t.store.outbox) :
    nestAborted s u c number d hook loose x := by
  have slots := slotAt_of_slots hs
  have bays (b : Nat) : u.bay b = t.bay b := congrArg (bayAt · b) hb
  have events (n : Nat) : eventAt u.port n = eventAt t.port n := by rw [eventAt, hp, eventAt]
  simpa only [nestAborted, slots, bays, events, ht, ho] using h

theorem nestAborted_from {c : AbortCause} {number d : Nat} {hook loose : Bool} {x : AbortDetail}
    (h : nestAborted t u c number d hook loose x) (ht : t.tasks = s.tasks) (hs : t.store = s.store) (hb : t.bays = s.bays)
    (hp : t.port.events = s.port.events) : nestAborted s u c number d hook loose x := by
  have slots := slotAt_of_store hs
  have bays (b : Nat) : t.bay b = s.bay b := congrArg (bayAt · b) hb
  have events (n : Nat) : eventAt t.port n = eventAt s.port n := by rw [eventAt, hp, eventAt]
  simpa only [nestAborted, slots, bays, events, ht, hs] using h

end Sys2Proof.Machine

/-! PROOFS. Block Slot and Unblock Slot (R149), and Abort Task (R167). -/

namespace Sys2Proof.Machine

variable {s t : State}

/-! ## Answers after work on the yard -/

theorem taken_work (s : State) (kind tag : Nat) : StoreWork s (taken s kind tag) := by
  refine ⟨⟨?_, ?_, ?_, taken_listen kind tag, ?_, ?_, ?_, ?_, ?_, ?_, ?_⟩, ?_, ?_⟩ <;> simp

/-- R191: what a response leaves of the state that its handling gives. -/
theorem respond_keeps (kind tag : Nat) (r : Reply) :
    (respond kind tag r).port.transmit = r.state.port.transmit ++ [⟨false, kind, tag, r.status, r.result⟩] ∧
    (respond kind tag r).tasks = r.state.tasks ∧ (respond kind tag r).bays = r.state.bays ∧
    (respond kind tag r).store.slots = r.state.store.slots ∧ (respond kind tag r).store.outbox = r.state.store.outbox ∧
    (respond kind tag r).port.events = r.state.port.events := by
  simp [respond]

/-- R191: a response leaves the blocks alone that no work on the yard touches. -/
theorem respond_work {r : Reply} (h : YardWork s r.state) (kind tag : Nat) :
    YardWork { s with port := (respond kind tag r).port } (respond kind tag r) := by
  have k := h.trans (finish_work r.state).toYardWork
  exact ⟨k.inputs, k.record, k.node, k.listen, k.peers, k.claim, k.travel, k.halt, k.weigher, k.now, rfl⟩

theorem respond_storeOnly (kind tag : Nat) {r : Reply} (h : StoreWork s r.state) : storeOnly s (respond kind tag r) :=
  (h.trans (finish_work r.state)).storeOnly

theorem rowCovered_congr (hr : t.record = s.record) (hk : t.claim = s.claim) (r : Nat) : rowCovered t r = rowCovered s r := by
  simp only [rowCovered, covers, coversInterval, conf_of_record hr, hk]

theorem freeRoom_congr (h : t.store = s.store) : freeRoom t = freeRoom s := by rw [freeRoom, reservedSlots, h, freeRoom, reservedSlots]

theorem taken_blockRefusal (kind tag n : Nat) (want : SlotRecord) :
    blockRefusal (taken s kind tag) n want = blockRefusal s n want := by
  simp only [blockRefusal, taken_node, taken_conf, slotAt_of_store (taken_store s kind tag),
    rowCovered_congr (taken_record s kind tag) (taken_claim s kind tag), freeRoom_congr (taken_store s kind tag)]

/-- R149: a slot made FREE or BLOCKED by the host, with its outbox entry. -/
def slotSet (s : State) (n : Nat) (e : SlotState) : State := joinOutbox (changeSlot s n (surveyRecord e)) ⟨n, e⟩

theorem slotSet_work (s : State) (n : Nat) (e : SlotState) : StoreWork s (slotSet s n e) :=
  (changeSlot_work s n _).trans (joinOutbox_work _ _)

theorem slotSet_same (s : State) (n : Nat) (e : SlotState) : slotAt (slotSet s n e) n = surveyRecord e := by
  rw [slotSet, joinOutbox_slotAt]
  exact changeSlot_listed s n (by cases e <;> simp [surveyRecord])

theorem slotSet_other {n k : Nat} (h : k ≠ n) (e : SlotState) : slotAt (slotSet s n e) k = slotAt s k := by
  rw [slotSet, joinOutbox_slotAt, changeSlot_other h]

/-- R149: an accepted Block Slot or Unblock Slot. -/
theorem slotSet_answered (hn : s.node = .active) (kind tag n : Nat) (e : SlotState) :
    let t := respond kind tag (accept (slotSet (taken s kind tag) n e))
    slotAt t n = surveyRecord e ∧ (∀ k, k ≠ n → slotAt t k = slotAt s k) ∧ t.store.outbox = s.store.outbox ++ [⟨n, e⟩] ∧
      queued t isStoreNotice = true ∧ t.port.transmit = s.port.transmit ++ [⟨false, kind, tag, .ok, .none⟩] ∧
      t.port.events = s.port.events ∧ storeOnly s t := by
  intro t
  let u := slotSet (taken s kind tag) n e
  have work : StoreWork s u := (taken_work s kind tag).trans (slotSet_work _ n e)
  obtain ⟨answer, -, -, slots, outbox, events⟩ := respond_keeps kind tag (accept u)
  have waits : queued u isStoreNotice = true :=
    joinOutbox_queued ((changeSlot_work _ n _).node.trans ((taken_node s kind tag).trans hn)) _
  have store := taken_store s kind tag
  refine ⟨(slotAt_of_slots slots n).trans (slotSet_same _ n e), fun k hk => (slotAt_of_slots slots k).trans ?_, outbox.trans ?_,
    finish_queued isStoreNotice_merges waits, ?_, events.trans ?_, respond_storeOnly kind tag work⟩
  · exact (slotSet_other hk e).trans (slotAt_of_store store k)
  · simp [accept, u, slotSet]
  · rw [answer]
    show u.port.transmit ++ _ = _
    rw [work.transmit]
    rfl
  · simp [accept, u, slotSet]

/-- R149: the tests of Block Slot and Unblock Slot. -/
theorem blockRefusal_tests (n : Nat) (want : SlotRecord) :
    (s.node ≠ .active → blockRefusal s n want = some .state) ∧
    (s.node = .active → (slotInUse s.conf n = false → blockRefusal s n want = some .range) ∧
    (slotInUse s.conf n = true → (rowCovered s (n / 16) = false → blockRefusal s n want = some .zone) ∧
    (rowCovered s (n / 16) = true → (slotAt s n ≠ want → blockRefusal s n want = some .state) ∧
    (slotAt s n = want → (freeRoom s < 1 → blockRefusal s n want = some .full) ∧
      (1 ≤ freeRoom s → blockRefusal s n want = none))))) := by
  unfold blockRefusal slotRow
  refine ⟨fun h => by simp [h], fun h => ⟨fun h1 => by simp [h, h1], fun h1 => ⟨fun h2 => by simp [h, h1, h2], fun h2 =>
    ⟨fun h3 => by simp [h, h1, h2, h3], fun h3 => ⟨fun h4 => by simp [h, h1, h2, h3, h4], fun h4 => ?_⟩⟩⟩⟩⟩
  simp [h, h1, h2, h3, Int.not_lt.mpr h4]

end Sys2Proof.Machine

namespace Sys2Proof.Proofs

open Machine

/-- Settles O39: the two requests differ in the record they want and the one they write. -/
theorem blockAndUnblock : Obligations.BlockAndUnblock := by
  intro s tag n block hr hs _ hc c kind want room refused
  let e : SlotState := if block then .blocked else .free
  have ran : exec c s = .next (request kind tag false .none (.fields n)
      (fun n t => unlessRefused t (blockRefusal t n want) (slotSet t n e)) s) := by
    cases block <;> rfl
  have no {st : Status} (h : blockRefusal s n want = some st) : refused st :=
    ran.trans (next_eq (request_refused hr hs hc rfl ((taken_blockRefusal kind tag n want).trans h)))
  obtain ⟨t1, t2⟩ := blockRefusal_tests (s := s) n want
  refine ⟨fun h => no (t1 h), fun h h1 => no ((t2 h).1 h1), fun h h1 h2 => no (((t2 h).2 h1).1 h2),
    fun h h1 h2 h3 => no ((((t2 h).2 h1).2 h2).1 h3), fun h h1 h2 h3 => ⟨fun h4 => no (((((t2 h).2 h1).2 h2).2 h3).1 h4), fun h4 => ?_⟩⟩
  have passed := (taken_blockRefusal kind tag n want).trans (((((t2 h).2 h1).2 h2).2 h3).2 h4)
  refine ⟨respond kind tag (accept (slotSet (Machine.taken s kind tag) n e)), ran.trans (next_eq ?_), ?_⟩
  · rw [request_fields hr (.inr hc), passed]
    rfl
  · have done := slotSet_answered h kind tag n e
    cases block <;> exact done

/-- Settles O44: the nest unwound by `abortNest`, from the state that the request found. -/
theorem abortTask : Obligations.AbortTask := by
  intro s tag number hr hs hc ht nest
  refine ⟨fun h => ?_, fun d hd => ?_⟩
  · have none : depthOf (Machine.taken s 11 tag).tasks.nest number = none := by
      simpa [depthOf] using h
    exact next_eq (request_reads hr hs (.inr hc) (by rw [handleAbortTask, none]; rfl))
  · obtain ⟨i, hi, rfl⟩ := Option.map_eq_some_iff.mp hd
    obtain ⟨lt, found, -⟩ := List.findIdx?_eq_some_iff_getElem.mp hi
    change i < nest.length at lt
    let u := Machine.taken s 11 tag
    have work : StoreWork s u := taken_work s 11 tag
    have hne : u.tasks.nest ≠ [] := by
      rw [work.tasks]
      exact List.ne_nil_of_length_pos (lt_of_le_of_lt (Nat.zero_le i) lt)
    have depth : depthOf u.tasks.nest number = some (i + 1) := by rw [work.tasks]; exact hd
    have tables : tablesOk u = true := by rw [tablesOk, taken_store]; exact ht
    let r : Reply := ⟨abortNest u .host number (i + 1) .none id, .ok, .unwound u.tasks.nest.length⟩
    have hooks : writesHook id := fun t => ⟨t.tasks.hookCoil, t.tasks.loose, t.tasks.unplaced, rfl⟩
    have done : YardWork s r.state := work.toYardWork.trans (abortNest_work u .host number (i + 1) .none hooks)
    have unwound : (unwind u .host (i + 1)).tasks.hookCoil = s.tasks.hookCoil ∧ (unwind u .host (i + 1)).tasks.loose = s.tasks.loose ∧
        (unwind u .host (i + 1)).tasks.unplaced = s.tasks.unplaced := by
      rw [unwind, (unwindTasks_keeps ..).1, work.tasks]
      exact ⟨rfl, rfl, rfl⟩
    obtain ⟨answer, tasks, bays, slots, outbox, events⟩ := respond_keeps 11 tag r
    have only := respond_work done 11 tag
    have aborted := nestAborted_from (abortNest_aborted tables hne .host number (i + 1) .none hooks) work.tasks
      (taken_store s 11 tag) work.bays (taken_events s 11 tag)
    have final := nestAborted_congr (u := respond 11 tag r) aborted tasks slots bays events outbox
    refine ⟨by omega, by omega, by simpa [lt] using found, respond 11 tag r, next_eq ?_, ?_, ?_, ?_, ?_, ?_⟩
    · rw [request_fields hr (.inr hc), handleAbortTask, depth]
    · simpa only [id, unwound] using final
    · rw [tasks]
      exact unwound.1
    · rw [tasks]
      exact unwound.2.2
    · rw [answer, done.transmit]
      exact congrArg (fun k => s.port.transmit ++ [⟨false, 11, tag, .ok, .unwound k.nest.length⟩]) work.tasks
    · exact ⟨only.travel, only.halt, only.weigher, only.claim, only.peers, only.node⟩

end Sys2Proof.Proofs

/-! PROOFS. An accepted Move (R82, R83). -/

namespace Sys2Proof.Machine

variable {s t : State} {a : Axis} {m : AxisMove}

/-! ## What a checked start record gives -/

theorem range_of_checked {c : StartRecord} (h : startRecordFailure c = none) {n : Nat} {x a b : Int}
    (hm : (n, within x a b) ∈ rangeTests c) : a ≤ x ∧ x ≤ b := within_iff.mp ((tests_of_checked h).1 _ hm)

theorem cross_of_checked {c : StartRecord} (h : startRecordFailure c = none) {n : Nat} {b : Bool}
    (hm : (n, b) ∈ crossTests c) : b = true := (tests_of_checked h).2 _ hm

theorem conf_checked (h : configuredOk s = true) (hr : s.record.isSome = true) : startRecordFailure s.conf = none := by
  obtain ⟨c, e⟩ := Option.isSome_iff_exists.mp hr
  have : s.conf = c := by simp [State.conf, e]
  rw [this]
  exact recordChecked_of_configuredOk h c e

theorem window_nonneg {c : StartRecord} (h : startRecordFailure c = none) (a : Axis) : 0 ≤ (axisParams c a).window := by
  cases a
  · have := range_of_checked h (n := 15) (x := c.bridge.window) (a := 2) (b := 100) (by simp [rangeTests, axisRanges])
    show 0 ≤ c.bridge.window
    omega
  · have := range_of_checked h (n := 27) (x := c.trolley.window) (a := 2) (b := 100) (by simp [rangeTests, axisRanges])
    show 0 ≤ c.trolley.window
    omega

/-! ## What the Claim Controller makes of a bridge move (R63, R73) -/

theorem reportMove_claim (x : Int) : (reportMove s x).claim.shrink = none ∧
    (∀ k, s.claim.confirmed = some k → (reportMove s x).claim.wanted = wantedFor s.conf k x ∧
      (wantedFor s.conf k x = none → (reportMove s x).claim.pending = s.claim.pending)) := by
  unfold reportMove
  dsimp only
  split
  · rename_i h
    refine ⟨by simp, fun k hk => ⟨?_, fun _ => by simp⟩⟩
    have none : wantedFor s.conf k x = none := by simpa [hk, State.conf] using h
    rw [none]
    rfl
  · rename_i w h
    refine ⟨by simp, fun k hk => ?_⟩
    have some' : wantedFor s.conf k x = some w := by simpa [hk, State.conf] using h
    exact ⟨by simp [some'], fun hn => by simp [some'] at hn⟩

theorem wantedFor_none {c : StartRecord} {k : Interval} {x : Int} (h1 : k.low ≤ x - reach c) (h2 : x + reach c ≤ k.high) :
    wantedFor c k x = none := by
  simp [wantedFor, Int.not_lt.mpr h1, Int.not_lt.mpr h2]

theorem abandonPending_pending (s : State) : (abandonPending s).claim.pending = none := by
  unfold abandonPending
  split
  · assumption
  · rfl
  · simp [claimEvent]

theorem shrink_pending (s : State) : (shrink s).claim.pending = none := by
  have h := abandonPending_pending s
  unfold shrink
  dsimp only
  split
  · split
    · exact h
    · simpa [setConfirmed] using h
  · exact h

/-- R73: with a release delay of 0 the end of a bridge move shrinks the claim at once. -/
theorem recordEnd_bridge_shrunk {o : MoveOutcome} (ho : o ≠ .replaced) (x : Int) (hs : shrinks s = true)
    (h0 : s.conf.releaseDelay = 0) : (recordEnd s .bridge o x).claim.pending = none ∧
      (recordEnd s .bridge o x).claim.shrink = s.claim.shrink := by
  unfold recordEnd
  dsimp only
  rw [if_neg ho]
  generalize hu : raiseEvent (s.withAxis .bridge { s.axis .bridge with move := none, last := some ⟨o, x, s.position .bridge⟩ })
    (.moveDone .bridge o x (s.position .bridge)) = u
  have same : u.claim.shrink = s.claim.shrink ∧ (clearWanted u).conf = s.conf ∧ shrinks (clearWanted u) = shrinks s ∧
      (clearWanted u).travel.bridge.move = none := by
    subst hu
    exact ⟨by simp, by simp [State.conf], by simp [shrinks, State.conf], rfl⟩
  obtain ⟨hc, hf, hs', hm⟩ := same
  unfold reportEnd
  rw [if_neg ho]
  dsimp only
  rw [hs', hs, hf, if_neg (by simp), if_pos h0, shrinkIfIdle, if_pos (by rw [hm]; rfl)]
  exact ⟨shrink_pending _, by simpa using hc⟩

/-! ## A move taken up (R82, R83) -/

/-- R82: the move completes at once where the axis stands within the window of its clamped target. -/
theorem completesAtOnce_iff {x g : Int} (hx : s.position a = some x) : completesAtOnce s a g = true ↔
    ((s.axis a).state = .holding ∨ (s.axis a).state = .parked) ∧ magnitude (g - x) ≤ (axisParams s.conf a).window := by
  simp [completesAtOnce, hx]

theorem takeUpMove_there_axis (h : completesAtOnce s a (clampTarget s.conf a m.target) = true) : (takeUpMove s a m).axis a =
    { s.axis a with move := none, last := some ⟨.done, clampTarget s.conf a m.target, s.position a⟩ } := by
  rw [takeUpMove_at_once h, recordEnd_axis, axis_of_travel (toldOf_travel a _)]
  cases a <;> simp [toldOf, State.position]

/-- R82, R63, R73: a bridge move that completes at once. -/
theorem takeUpMove_there_claim (h : completesAtOnce s .bridge (clampTarget s.conf .bridge m.target) = true)
    (hn : s.node = .active) :
    let g := clampTarget s.conf .bridge m.target
    let t := takeUpMove s .bridge m
    t.claim.wanted = none ∧ t.claim.retry = none ∧
      (s.conf.craneCount = 1 → t.claim.confirmed = s.claim.confirmed ∧ t.claim.shrink = none) ∧
      (s.conf.craneCount ≠ 1 → s.conf.releaseDelay ≠ 0 → t.claim.confirmed = s.claim.confirmed ∧
        t.claim.shrink = some (s.now + 1000 * s.conf.releaseDelay)) ∧
      (s.conf.craneCount ≠ 1 → s.conf.releaseDelay = 0 → t.claim.pending = none ∧ t.claim.shrink = none) ∧
      (s.conf.craneCount = 1 ∨ s.conf.releaseDelay ≠ 0 → ∀ k, s.claim.confirmed = some k → k.low ≤ g - reach s.conf →
        g + reach s.conf ≤ k.high → t.claim.pending = s.claim.pending) := by
  intro g t
  let u := reportMove s g
  have ht : t = recordEnd u .bridge .done g := takeUpMove_at_once h
  have conf : u.conf = s.conf := conf_of_record (by simp [u])
  have shr : shrinks u = (s.conf.craneCount != 1) := by simp [shrinks, conf, u, hn]
  obtain ⟨hshrink, hpend⟩ := reportMove_claim (s := s) g
  obtain ⟨h1, h2, h3, h4⟩ := recordEnd_bridge_claim (s := u) (o := .done) (by simp) g
  have confirmed : u.claim.confirmed = s.claim.confirmed := by simp [u]
  have now : u.now = s.now := by simp [u]
  rw [conf] at h4
  rw [ht]
  refine ⟨h1, h2, fun hc => ?_, fun hc hd => ?_, fun hc hd => ?_, fun hc k hk hlow hhigh => ?_⟩
  · obtain ⟨k1, k2, -⟩ := h3 (by simp [shr, hc])
    exact ⟨k1.trans confirmed, k2.trans hshrink⟩
  · obtain ⟨k1, k2, -⟩ := h4 (by simpa [shr] using hc) hd
    exact ⟨k1.trans confirmed, by rw [k2, now]⟩
  · obtain ⟨k1, k2⟩ := recordEnd_bridge_shrunk (s := u) (o := .done) (by simp) g (by simpa [shr] using hc) (by rw [conf]; exact hd)
    exact ⟨k1, k2.trans hshrink⟩
  · have kept := (hpend k hk).2 (wantedFor_none hlow hhigh)
    by_cases h1 : s.conf.craneCount = 1
    · exact (h3 (by simp [shr, h1])).2.2.trans kept
    · exact (h4 (by simpa [shr] using h1) (hc.resolve_left h1)).2.2.trans kept

/-- R83: the record of an axis that takes up a move, by its state. -/
theorem takenUpRecord_fields {l : Option LastOutcome} {d : Side} {g v x : Int}
    (hs : (s.axis a).state ≠ .stopping ∧ (s.axis a).state ≠ .fault) (hx : s.position a = some x) :
    let r := s.axis a
    let u := takenUpRecord s a l d g v
    u.move = some ⟨g, v, max v (magnitude r.setpoint), d, none⟩ ∧ u.setpoint = r.setpoint ∧
      (r.state = .parked → u.state = .releasing ∧ u.brake = true ∧ u.brakeTimer = some (s.now + s.conf.brakeSettle)) ∧
      (r.state = .holding → u.state = .moving ∧ u.parkTimer = none ∧ u.commanded = some (100 * x)) ∧
      (r.state = .releasing → u.state = .releasing ∧ u.brakeTimer = r.brakeTimer) ∧
      (r.state = .moving → u.state = .moving ∧ u.commanded = r.commanded ∧ u.profileTimer = r.profileTimer) ∧
      (r.state = .settling ∨ r.state = .waiting → u.state = .moving ∧ u.commanded = r.commanded ∧
        u.settle = none ∧ u.waitTimer = none) ∧
      u.lowHold = (r.lowHold && d == .low) ∧ u.highHold = (r.highHold && d == .high) ∧ u.last = l := by
  intro r u
  have hu : u = takenUpRecord s a l d g v := rfl
  obtain ⟨h1, h2⟩ := hs
  change r.state ≠ _ at h1
  change r.state ≠ _ at h2
  cases d <;> cases hst : r.state <;> simp_all [takenUpRecord, startedRecord, clearHold, r]

theorem directionFor_eq {x : Int} (g : Int) (hx : s.position a = some x) : directionFor s a g =
    if x < g then .high else if g < x then .low else ((s.axis a).move.map (·.direction)).getD .high := by
  unfold directionFor sideOf
  rw [hx]
  simp only [Option.bind_some]
  split
  · rfl
  · split <;> rfl

/-- R82, R83: an axis takes up an accepted move. -/
theorem takeUpMove_takenUp (hn : s.node = .active) (hs : (s.axis a).state ≠ .stopping ∧ (s.axis a).state ≠ .fault) :
    axisTakenUp s (takeUpMove s a m) a m := by
  intro x hx c r u goal there v d
  have hthere : there ↔ completesAtOnce s a goal = true := (completesAtOnce_iff hx).symm
  refine ⟨fun h => ⟨?_, ?_⟩, fun h => ?_⟩
  · rw [show u = _ from takeUpMove_there_axis (hthere.mp h), hx]
  · rintro rfl
    exact takeUpMove_there_claim (hthere.mp h) hn
  · have e := takeUpMove_started (m := m) (Bool.eq_false_iff.mpr (mt hthere.mpr h))
    have hd : directionFor s a goal = d := directionFor_eq goal hx
    change takeUpMove s a m = toldOf a (s.withAxis a (takenUpRecord s a _ (directionFor s a goal) goal v)) goal at e
    rw [hd] at e
    have hu : u = takenUpRecord s a (replacedLast s a) d goal v := by
      show (takeUpMove s a m).axis a = _
      rw [e, axis_of_travel (toldOf_travel a _), withAxis_axis]
    obtain ⟨h1, h2, h3, h4, h5, h6, h7, h8, h9, h10⟩ := takenUpRecord_fields (l := replacedLast s a) (d := d) (g := goal)
      (v := v) hs hx
    rw [← hu] at h1 h2 h3 h4 h5 h6 h7 h8 h9 h10
    refine ⟨h1, h2, h3, h4, h5, h6, h7, h8, h9, ?_, ?_⟩
    · rw [h10, replacedLast, hx] <;> rfl
    · rintro rfl
      rw [e]
      obtain ⟨hshrink, hwant⟩ := reportMove_claim
        (s := s.withAxis .bridge (takenUpRecord s .bridge (replacedLast s .bridge) d goal v)) goal
      refine ⟨by simp [toldOf], hshrink, fun k hk => ?_⟩
      have := (hwant k (by simpa using hk)).1
      rw [withAxis_conf] at this
      exact this

/-- What `axisTakenUp` reads of the two states. -/
theorem axisTakenUp_congr {s' t' : State} (h : axisTakenUp s t a m) (hr : s'.record = s.record)
    (hi : s'.inputs = s.inputs) (ha : s'.axis a = s.axis a) (hn : s'.now = s.now) (hk : a = .bridge → s'.claim = s.claim)
    (ha' : t'.axis a = t.axis a) (hk' : a = .bridge → t'.claim = t.claim) : axisTakenUp s' t' a m := by
  unfold axisTakenUp at *
  rw [position_of_inputs hi, conf_of_record hr, ha, ha', hn]
  cases a
  · rw [hk rfl, hk' rfl]
    exact h
  · simpa only [reduceCtorEq, false_implies, and_true] using h

/-- What a move taken up leaves alone. -/
theorem takeUpMove_keeps (s : State) (a : Axis) (m : AxisMove) : (takeUpMove s a m).inputs = s.inputs ∧
    (takeUpMove s a m).record = s.record ∧ (takeUpMove s a m).node = s.node ∧ (takeUpMove s a m).peers = s.peers ∧
    (takeUpMove s a m).weigher = s.weigher ∧ (takeUpMove s a m).tasks = s.tasks ∧ (takeUpMove s a m).bays = s.bays ∧
    (takeUpMove s a m).now = s.now ∧ (takeUpMove s a m).travel.hoist = s.travel.hoist ∧
    (takeUpMove s a m).port.transmit = s.port.transmit := by
  cases hc : completesAtOnce s a (clampTarget s.conf a m.target)
  · rw [takeUpMove_started hc]
    cases a <;> simp [toldOf]
  · rw [takeUpMove_at_once hc]
    cases a <;> simp [toldOf]

/-- R83: a move that does not complete at once touches neither port nor store, and owes no scan. -/
theorem takeUpMove_started_keeps (h : completesAtOnce s a (clampTarget s.conf a m.target) = false) :
    (takeUpMove s a m).port = s.port ∧ (takeUpMove s a m).store = s.store ∧ (takeUpMove s a m).scanDue = s.scanDue := by
  rw [takeUpMove_started h]
  cases a <;> simp [toldOf]

theorem takeUpMove_trolley (s : State) (m : AxisMove) : (takeUpMove s .trolley m).claim = s.claim ∧
    (takeUpMove s .trolley m).link = s.link ∧ (takeUpMove s .trolley m).scanDue = s.scanDue := by
  cases hc : completesAtOnce s .trolley (clampTarget s.conf .trolley m.target)
  · rw [takeUpMove_started hc]
    simp [toldOf]
  · rw [takeUpMove_at_once hc]
    exact recordEnd_trolley _ _

theorem takeUpMove_event (h : completesAtOnce s a (clampTarget s.conf a m.target) = true) :
    eventAt (takeUpMove s a m).port 0 =
      (eventAt s.port 0).next (.moveDone a .done (clampTarget s.conf a m.target) (s.position a)) := by
  rw [takeUpMove_at_once h, recordEnd_event _ _ _ _ (by simp)]
  cases a <;> simp [toldOf, State.position]

/-! ## A Move of one axis or both -/

theorem mem_namedMoves {q : MoveRequest} {n : Axis × AxisMove} : n ∈ namedMoves q ↔
    (n.1 = .bridge ∧ q.bridge = some n.2) ∨ (n.1 = .trolley ∧ q.trolley = some n.2) := by
  obtain ⟨a, m⟩ := n
  cases a <;> simp [namedMoves, eq_comm]

/-- R82, R83: an accepted Move, axis by axis. -/
theorem acceptMove_takenUp {q : MoveRequest} (hn : s.node = .active)
    (hs : ∀ n ∈ namedMoves q, (s.axis n.1).state ≠ .stopping ∧ (s.axis n.1).state ≠ .fault) :
    (∀ n ∈ namedMoves q, axisTakenUp s (acceptMove s q) n.1 n.2) ∧
      ∀ a, (∀ n ∈ namedMoves q, n.1 ≠ a) → (acceptMove s q).axis a = s.axis a := by
  obtain ⟨b, t⟩ := q
  rw [acceptMove_eq]
  cases b with
  | none =>
    cases t with
    | none => exact ⟨by simp [namedMoves], fun _ _ => rfl⟩
    | some m =>
      refine ⟨?_, fun a ha => takeUpMove_other (Ne.symm (ha (.trolley, m) (by simp [namedMoves]))) m⟩
      simpa [namedMoves] using takeUpMove_takenUp (m := m) hn (hs (.trolley, m) (by simp [namedMoves]))
  | some m =>
    have first := takeUpMove_takenUp (m := m) hn (hs (.bridge, m) (by simp [namedMoves]))
    cases t with
    | none =>
      refine ⟨?_, fun a ha => takeUpMove_other (Ne.symm (ha (.bridge, m) (by simp [namedMoves]))) m⟩
      simpa [namedMoves] using first
    | some m' =>
      obtain ⟨k1, k2, k3, -, -, -, -, k4, -⟩ := takeUpMove_keeps s .bridge m
      have other : (takeUpMove s .bridge m).axis .trolley = s.axis .trolley := takeUpMove_other (by simp) m
      have second := takeUpMove_takenUp (s := takeUpMove s .bridge m) (m := m') (k3.trans hn)
        (by rw [other]; exact hs (.trolley, m') (by simp [namedMoves]))
      refine ⟨fun n hm => ?_, fun a ha => ?_⟩
      · obtain ⟨a, m''⟩ := n
        rcases mem_namedMoves.mp hm with ⟨rfl, e⟩ | ⟨rfl, e⟩ <;> cases e
        · exact axisTakenUp_congr first rfl rfl rfl rfl (fun _ => rfl) (takeUpMove_other (by simp) m')
            fun _ => (takeUpMove_trolley _ m').1
        · exact axisTakenUp_congr second k2.symm k1.symm other.symm k4.symm (by simp) rfl fun _ => rfl
      · cases a
        · exact absurd rfl (ha (.bridge, m) (by simp [namedMoves]))
        · exact absurd rfl (ha (.trolley, m') (by simp [namedMoves]))

/-- What an accepted Move leaves alone. -/
theorem acceptMove_keeps (s : State) (q : MoveRequest) : (acceptMove s q).inputs = s.inputs ∧
    (acceptMove s q).record = s.record ∧ (acceptMove s q).node = s.node ∧ (acceptMove s q).peers = s.peers ∧
    (acceptMove s q).weigher = s.weigher ∧ (acceptMove s q).tasks = s.tasks ∧ (acceptMove s q).bays = s.bays ∧
    (acceptMove s q).now = s.now ∧ (acceptMove s q).travel.hoist = s.travel.hoist ∧
    (acceptMove s q).port.transmit = s.port.transmit := by
  rw [acceptMove_eq]
  split
  · rename_i b t _ _
    obtain ⟨h1, h2, h3, h4, h5, h6, h7, h8, h9, h10⟩ := takeUpMove_keeps s .bridge b
    obtain ⟨k1, k2, k3, k4, k5, k6, k7, k8, k9, k10⟩ := takeUpMove_keeps (takeUpMove s .bridge b) .trolley t
    exact ⟨k1.trans h1, k2.trans h2, k3.trans h3, k4.trans h4, k5.trans h5, k6.trans h6, k7.trans h7, k8.trans h8,
      k9.trans h9, k10.trans h10⟩
  · exact takeUpMove_keeps s .bridge _
  · exact takeUpMove_keeps s .trolley _
  · exact ⟨rfl, rfl, rfl, rfl, rfl, rfl, rfl, rfl, rfl, rfl⟩

/-- R83: an accepted Move of which no part completes at once. -/
theorem acceptMove_started {q : MoveRequest}
    (h : ∀ n ∈ namedMoves q, completesAtOnce s n.1 (clampTarget s.conf n.1 n.2.target) = false) :
    (acceptMove s q).port = s.port ∧ (acceptMove s q).store = s.store ∧ (acceptMove s q).scanDue = s.scanDue := by
  obtain ⟨b, t⟩ := q
  rw [acceptMove_eq]
  cases b with
  | none =>
    cases t with
    | none => exact ⟨rfl, rfl, rfl⟩
    | some m => exact takeUpMove_started_keeps (h (.trolley, m) (by simp [namedMoves]))
  | some m =>
    have first := takeUpMove_started_keeps (h (.bridge, m) (by simp [namedMoves]))
    cases t with
    | none => exact first
    | some m' =>
      obtain ⟨k1, k2, -⟩ := takeUpMove_keeps s .bridge m
      have other : (takeUpMove s .bridge m).axis .trolley = s.axis .trolley := takeUpMove_other (by simp) m
      have late : completesAtOnce (takeUpMove s .bridge m) .trolley
          (clampTarget (takeUpMove s .bridge m).conf .trolley m'.target) = false := by
        rw [completesAtOnce, other, position_of_inputs k1, conf_of_record k2]
        exact h (.trolley, m') (by simp [namedMoves])
      obtain ⟨l1, l2, l3⟩ := takeUpMove_started_keeps late
      exact ⟨l1.trans first.1, l2.trans first.2.1, l3.trans first.2.2⟩

/-- R82: the status of an accepted Move says whether a target was replaced. -/
theorem clampsTarget_iff (c : StartRecord) (q : MoveRequest) :
    clampsTarget c q = true ↔ ¬ ∀ n ∈ namedMoves q, clampTarget c n.1 n.2.target = n.2.target := by
  simp [clampsTarget]

theorem taken_completesAtOnce (kind tag : Nat) (a : Axis) (g : Int) :
    completesAtOnce (taken s kind tag) a g = completesAtOnce s a g := by
  simp only [completesAtOnce, taken_axis, taken_position, taken_conf]

/-- R81 to R83: a Move that its tests let pass, whatever request asked for it. -/
theorem handleMove_done {q : MoveRequest} (passed : moveRefusal s q = none) (hn : s.node = .active) (kind tag : Nat) :
    let t := respond kind tag (handleMove q (taken s kind tag))
    (∀ n ∈ namedMoves q, axisTakenUp s t n.1 n.2) ∧
      (∀ a, (∀ n ∈ namedMoves q, n.1 ≠ a) → t.axis a = s.axis a) ∧
      t.port.transmit = s.port.transmit ++ [⟨false, kind, tag,
        if ∀ n ∈ namedMoves q, clampTarget s.conf n.1 n.2.target = n.2.target then .ok else .clamped, .none⟩] ∧
      t.travel.hoist = s.travel.hoist ∧ t.halt = s.halt ∧ t.weigher = s.weigher ∧ t.tasks = s.tasks ∧ t.bays = s.bays ∧
      t.peers = s.peers ∧ t.node = s.node := by
  intro t
  let w := taken s kind tag
  let u := acceptMove w q
  have work : StoreWork s w := taken_work s kind tag
  have axes (a : Axis) : w.axis a = s.axis a := taken_axis kind tag a
  obtain ⟨-, states⟩ := accepted_of_move passed
  obtain ⟨moved, others⟩ := acceptMove_takenUp (s := w) (q := q) (work.node.trans hn) (by simpa only [axes] using states)
  obtain ⟨k1, k2, k3, k4, k5, k6, k7, k8, k9, k10⟩ := acceptMove_keeps w q
  have done := finish_work u
  have ht : t = respond kind tag ⟨u, if clampsTarget w.conf q then .clamped else .ok, .none⟩ := by
    show respond kind tag (handleMove q w) = _
    rw [handleMove, taken_moveRefusal, passed]
  rw [ht]
  refine ⟨fun n hn => ?_, fun a ha => ?_, ?_, ?_, done.halt.trans ((acceptMove_halt q).trans work.halt),
    done.weigher.trans (k5.trans work.weigher), done.tasks.trans (k6.trans work.tasks), done.bays.trans (k7.trans work.bays),
    done.peers.trans (k4.trans work.peers), done.node.trans (k3.trans work.node)⟩
  · exact axisTakenUp_congr (moved n hn) work.record.symm work.inputs.symm (axes n.1).symm work.now.symm (fun _ => work.claim.symm)
      (axis_of_travel done.travel n.1) fun _ => done.claim
  · exact (axis_of_travel done.travel a).trans ((others a ha).trans (axes a))
  · show (finish u).port.transmit ++ _ = _
    rw [done.transmit, k10, work.transmit, work.conf]
    by_cases h : ∀ n ∈ namedMoves q, clampTarget s.conf n.1 n.2.target = n.2.target
    · simp only [if_pos h, if_neg (mt (clampsTarget_iff s.conf q).mp (not_not_intro h))]
    · simp only [if_neg h, if_pos ((clampsTarget_iff s.conf q).mpr h)]
  · exact (congrArg (·.hoist) done.travel).trans (k9.trans (congrArg (·.hoist) work.travel))

end Sys2Proof.Machine

namespace Sys2Proof.Proofs

open Machine

/-- Settles O22: the request's handling is `acceptMove`; what it raises and leaves is told by which axes complete at once. -/
theorem moveTakenUp : Obligations.MoveTakenUp := by
  intro s tag q hr hs hc hconf hacc _ c goal there
  have passed : moveRefusal s q = none := (moveAccepted_iff s (window_nonneg (conf_checked hconf hc)) q).mp hacc
  have node : s.node = .active := by
    by_contra hn
    exact hacc.1 (.inl hn)
  let w := Machine.taken s 5 tag
  let u := acceptMove w q
  have work : StoreWork s w := taken_work s 5 tag
  have hthere (n : Axis × AxisMove) : there n ↔
      completesAtOnce w n.1 (clampTarget w.conf n.1 n.2.target) = true := by
    rw [taken_completesAtOnce, work.conf, completesAtOnce, Bool.and_eq_true, Option.any_eq_true]
    simp only [Bool.or_eq_true, beq_iff_eq, decide_eq_true_eq]
    exact Iff.rfl
  have unscanned (h : u.scanDue = w.scanDue) : finish u = u :=
    finish_settled _ (h.trans ((taken_scanDue s 5 tag).trans (not_scanDue hs)))
  have state : respond 5 tag (handleMove q w) =
      respond 5 tag ⟨u, if clampsTarget w.conf q then .clamped else .ok, .none⟩ := by
    rw [handleMove, taken_moveRefusal, passed]
  obtain ⟨moved, others, answer, blocks⟩ := handleMove_done passed node 5 tag
  refine ⟨respond 5 tag (handleMove q w), next_eq (request_fields hr (.inr hc) ..), moved, others, fun hb => ?_, fun hn => ?_,
    fun n hn hq ht => ?_, answer, blocks⟩
  · have unmoved : u.claim = w.claim ∧ u.link = w.link ∧ u.scanDue = w.scanDue := by
      cases ht : q.trolley with
      | none =>
        have : u = w := by
          show acceptMove w q = _
          rw [acceptMove_eq, hb, ht]
        rw [this]
        exact ⟨rfl, rfl, rfl⟩
      | some m =>
        have : u = takeUpMove w .trolley m := by
          show acceptMove w q = _
          rw [acceptMove_eq, hb, ht]
        rw [this]
        exact takeUpMove_trolley w m
    rw [state]
    show (finish u).claim = _ ∧ (finish u).link = _
    rw [unscanned unmoved.2.2, unmoved.1, unmoved.2.1]
    exact ⟨work.claim, taken_link s 5 tag⟩
  · obtain ⟨hport, hstore, hscan⟩ := acceptMove_started fun n hm =>
      Bool.eq_false_iff.mpr (mt (hthere n).mpr (hn n hm))
    rw [state]
    show (finish u).port.events = _ ∧ (finish u).store = _
    rw [unscanned hscan]
    exact ⟨(congrArg (·.events) hport).trans (taken_events s 5 tag), hstore.trans (taken_store s 5 tag)⟩
  · have one : u = takeUpMove w n.1 n.2 := by
      show acceptMove w q = _
      rw [hq]
      cases n.1 <;> rfl
    have port : (finish u).port = u.port := by simp
    rw [state]
    show eventAt (finish u).port 0 = _
    rw [port, one, takeUpMove_event ((hthere n).mp ht), work.conf, position_of_inputs work.inputs, taken_eventAt]

end Sys2Proof.Proofs

/-! PROOFS. A Go To (R84): the work of a Move is the same whatever request is in hand. -/

namespace Sys2Proof.Machine

variable {s t : State}

/-! ## The request in hand is not read -/

/-- The state with another request in hand. -/
def handed (h : Option (Nat × Nat)) (s : State) : State := { s with port := { s.port with inHand := h } }

variable (h : Option (Nat × Nat))

theorem handed_ite {c : Prop} [Decidable c] {a a' b b' : State} (ha : a' = handed h a) (hb : b' = handed h b) :
    (if c then a' else b') = handed h (if c then a else b) := by
  split
  · exact ha
  · exact hb

theorem handed_foldl {α : Type} {f : State → α → State} (hf : ∀ t a, f (handed h t) a = handed h (f t a)) (l : List α)
    (s : State) : l.foldl f (handed h s) = handed h (l.foldl f s) := by
  induction l generalizing s with
  | nil => rfl
  | cons a l ih => rw [List.foldl_cons, hf, ih]; rfl

theorem offer_handed (s : State) (c : Content) : offer (handed h s) c = handed h (offer s c) := handed_ite h rfl rfl

theorem withAxis_handed (s : State) (a : Axis) (r : AxisRecord) : (handed h s).withAxis a r = handed h (s.withAxis a r) := by
  cases a <;> rfl

theorem proposeEdge_handed (s : State) (k : Interval) (d : Side) (e : Int) :
    proposeEdge (handed h s) k d e = handed h (proposeEdge s k d e) :=
  handed_ite h (by
    show withClaim (offer (handed h s) _) _ = _
    rw [offer_handed]
    rfl) rfl

@[simp] theorem handed_node (s : State) : (handed h s).node = s.node := rfl
@[simp] theorem handed_claim (s : State) : (handed h s).claim = s.claim := rfl

theorem extensionAttempt_handed (s : State) : extensionAttempt (handed h s) = handed h (extensionAttempt s) := by
  unfold extensionAttempt
  simp only [handed_node, handed_claim]
  split
  · refine handed_ite h rfl (handed_ite h ?_ (proposeEdge_handed h s _ _ _))
    have rank (k : Interval) (d : Side) : limitingRank (handed h s) k d = limitingRank s k d := rfl
    have gap (k : Interval) (d : Side) : gapEdge (handed h s) k d = gapEdge s k d := rfl
    simp only [rank, gap, proposeEdge_handed]
    split
    · exact handed_ite h (offer_handed h _ _) rfl
    · rfl
  · rfl

theorem reportMove_handed (s : State) (x : Int) : reportMove (handed h s) x = handed h (reportMove s x) := by
  unfold reportMove
  dsimp only
  have same : withClaim (handed h s) { (handed h s).claim with shrink := none } =
    handed h (withClaim s { s.claim with shrink := none }) := rfl
  rw [same]
  generalize withClaim s { s.claim with shrink := none } = u
  have conf : (handed h u).conf = u.conf := rfl
  rw [handed_claim, conf]
  split
  · rfl
  · exact extensionAttempt_handed h (withClaim u _)

theorem abandonPending_handed (s : State) : abandonPending (handed h s) = handed h (abandonPending s) := by
  unfold abandonPending
  rw [handed_claim]
  split <;> rfl

theorem shrink_handed (s : State) : shrink (handed h s) = handed h (shrink s) := by
  unfold shrink
  dsimp only
  rw [abandonPending_handed]
  generalize abandonPending s = u
  have position : (handed h u).position .bridge = u.position .bridge := rfl
  rw [handed_claim, position]
  split
  · refine handed_ite h rfl ?_
    show claimEvent (offer (handed h (setConfirmed u _)) .report) .shrunk = _
    rw [offer_handed]
    rfl
  · rfl

theorem reportEnd_handed (s : State) (o : MoveOutcome) : reportEnd (handed h s) o = handed h (reportEnd s o) :=
  handed_ite h rfl (handed_ite h rfl (handed_ite h (handed_ite h (shrink_handed h (clearWanted s)) rfl) rfl))

theorem recordEnd_handed (s : State) (a : Axis) (o : MoveOutcome) (x : Int) :
    recordEnd (handed h s) a o x = handed h (recordEnd s a o x) := by
  have raised (u : State) (d : Detail) : (if o = .replaced then handed h u else raiseEvent (handed h u) d) =
      handed h (if o = .replaced then u else raiseEvent u d) := handed_ite h rfl rfl
  unfold recordEnd
  dsimp only
  rw [withAxis_handed, raised]
  cases a
  · exact reportEnd_handed h _ o
  · rfl

theorem toldOf_handed (a : Axis) (s : State) (x : Int) : toldOf a (handed h s) x = handed h (toldOf a s x) := by
  cases a
  · exact reportMove_handed h s x
  · rfl

theorem takeUpMove_handed (s : State) (a : Axis) (m : AxisMove) : takeUpMove (handed h s) a m = handed h (takeUpMove s a m) := by
  have conf : (handed h s).conf = s.conf := rfl
  cases hc : completesAtOnce s a (clampTarget s.conf a m.target)
  · rw [takeUpMove_started hc, takeUpMove_started (s := handed h s) hc, ← toldOf_handed, ← withAxis_handed, conf]
    rfl
  · rw [takeUpMove_at_once hc, takeUpMove_at_once (s := handed h s) hc, ← recordEnd_handed, ← toldOf_handed, conf]

theorem acceptMove_handed (s : State) (q : MoveRequest) : acceptMove (handed h s) q = handed h (acceptMove s q) :=
  handed_foldl h (fun t n => takeUpMove_handed h t n.1 n.2) (namedMoves q) s

theorem clearSpent_handed (s : State) : clearSpent (handed h s) = handed h (clearSpent s) :=
  handed_foldl h (f := fun t r => if (rowAt t r).spent && !rowCovered t r then putRow t r { rowAt t r with spent := false } else t)
    (fun _ _ => handed_ite h rfl rfl) (List.range s.conf.rows) s

theorem queryScan_handed (s : State) : queryScan (handed h s) = handed h (queryScan s) := by
  unfold queryScan
  rw [clearSpent_handed]
  refine handed_ite h rfl ?_
  have row : rowToAsk (handed h (clearSpent s)) = rowToAsk (clearSpent s) := rfl
  simp only [row]
  split
  · rfl
  · rename_i row _
    let u := clearSpent s
    exact offer_handed h { u with store := { u.store with
      counter := (u.store.counter + 1) % 256, query := some ⟨row, u.store.counter, none⟩ } } _

theorem finish_handed (s : State) : finish (handed h s) = handed h (finish s) :=
  handed_ite h (queryScan_handed h { s with scanDue := false }) rfl

theorem taken_handed (kind kind' tag : Nat) (s : State) : taken s kind tag = handed (some (kind, tag)) (taken s kind' tag) := by
  unfold taken restartHostTimer
  split <;> rfl

/-- R81 to R83: a Move leaves the transmitter to its response, which names nothing. -/
theorem handleMove_transmit (s : State) (q : MoveRequest) :
    (handleMove q s).state.port.transmit = s.port.transmit ∧ (handleMove q s).result = .none := by
  unfold handleMove
  split
  · exact ⟨rfl, rfl⟩
  · exact ⟨(acceptMove_keeps s q).2.2.2.2.2.2.2.2.2, rfl⟩

/-- R84: a Go To is the Move in all but the kind of its response. -/
theorem handleMove_handed (s : State) (q : MoveRequest) : handleMove q (handed h s) =
    { handleMove q s with state := handed h (handleMove q s).state } := by
  have refusal : moveRefusal (handed h s) q = moveRefusal s q := moveRefusal_congr rfl rfl rfl rfl rfl rfl q
  unfold handleMove
  rw [refusal]
  split
  · rfl
  · rw [acceptMove_handed]
    rfl

end Sys2Proof.Machine

namespace Sys2Proof.Proofs

open Machine

/-- Settles O23: the place's point is the one that the request resolves, and what a Move does with it does not read the
request in hand. -/
theorem goToAPlace : Obligations.GoToAPlace := by
  intro s tag place vb vt hr hs hc c point goTo
  have resolved : resolvePlace (Machine.taken s 6 tag) place = point := by
    have conf := taken_conf s 6 tag
    have bay (b : Nat) := taken_bay (s := s) 6 tag b
    cases place with
    | slot n =>
      have upper : isUpper n = !decide (n % 16 < 8) := by
        rw [isUpper, slotIndex, ← decide_not]
        simp only [not_lt]
      simp only [resolvePlace, conf, point, c, slotPoint, rowX, slotY, upper, slotRow, slotIndex]
      by_cases h : n % 16 < 8 <;> simp [h]
    | intake i =>
      simp only [resolvePlace, conf, point, c]
      rcases i with _ | i <;> rfl
    | cradle b i =>
      simp only [resolvePlace, conf, bay, point, c]
      cases (s.bay b).load with
      | none => rfl
      | some l => simp [cradleX, cradleOffset]
    | hook => rfl
  refine ⟨fun st h => ?_, fun p h => ?_⟩
  · refine next_eq (request_reads hr hs (.inr hc) ?_)
    simp only [handleGoTo, resolved, h]
    rfl
  · intro q
    have handled : handleGoTo ⟨place, vb, vt⟩ (Machine.taken s 6 tag) = handleMove q (Machine.taken s 6 tag) := by
      simp only [handleGoTo, resolved, h]
      rfl
    let r := handleMove q (Machine.taken s 5 tag)
    have twin : handleMove q (Machine.taken s 6 tag) = { r with state := handed (some (6, tag)) r.state } := by
      rw [taken_handed 6 5 tag s, handleMove_handed]
    have ran : goTo = .next (respond 6 tag (handleMove q (Machine.taken s 6 tag))) :=
      next_eq ((request_fields hr (.inr hc) ..).trans (by rw [handled]))
    obtain ⟨transmitted, unnamed⟩ := handleMove_transmit (Machine.taken s 5 tag) q
    rw [taken_transmit] at transmitted
    have work := finish_work r.state
    have answer : (respond 5 tag r).port.transmit = s.port.transmit ++ [⟨false, 5, tag, r.status, .none⟩] := by
      rw [respond, transmit_transmit, work.transmit, transmitted, unnamed]
    refine ⟨⟨respond 5 tag r, next_eq (request_fields hr (.inr hc) ..), r.status, ?_, ?_⟩, fun hacc hconf => ?_⟩
    · exact answer
    · refine ran.trans (next_eq ?_)
      rw [twin, respond, finish_handed]
      change r.state.port.transmit = s.port.transmit at transmitted
      change r.result = Result.none at unnamed
      simp only [handed, transmit, work.transmit, transmitted, unnamed]
      rfl
    · have passed : moveRefusal s q = none := (moveAccepted_iff s (window_nonneg (conf_checked hconf hc)) q).mp hacc
      have node : s.node = .active := by
        by_contra hn
        exact hacc.1 (.inl hn)
      obtain ⟨moved, -, answer, blocks⟩ := handleMove_done passed node 6 tag
      refine ⟨_, ran, moved (.bridge, ⟨p.x, vb⟩) (by simp [namedMoves, q]), moved (.trolley, ⟨p.y, vt⟩) (by simp [namedMoves, q]), ?_,
        blocks⟩
      rw [answer]
      simp [namedMoves, q, c]

end Sys2Proof.Proofs

/-! PROOFS. Configure and what an accepted start record guarantees (R8 to R10, R12). -/

namespace Sys2Proof.Machine

variable {s t : State}

/-! ## What a checked record guarantees -/

theorem failure_of_rank {c : StartRecord} (h : c.ownRank < 1 ∨ 8 < c.ownRank) : startRecordFailure c = some 1 := by
  have first : within c.ownRank 1 8 = false := by
    rw [← Bool.not_eq_true, within_iff]
    omega
  simp [startRecordFailure, firstFailure, rangeTests, first]

theorem bays_of_checked {c : StartRecord} (h : startRecordFailure c = none) {b : Nat} (hb : b < c.bayCount) :
    bridgeMin c ≤ (bayPoint c b).x ∧ (bayPoint c b).x ≤ bridgeMax c := by
  have count := range_of_checked h (n := 47) (x := c.bayCount) (a := 0) (b := 4) (by simp [rangeTests])
  have fits {n k : Nat} {p : Point} (hm : (n, decide (c.bayCount < k) || pointReachable c p) ∈ crossTests c)
      (hk : ¬ c.bayCount < k) : bridgeMin c ≤ p.x ∧ p.x ≤ bridgeMax c := by
    have := cross_of_checked h hm
    rw [decide_eq_false hk, Bool.false_or, pointReachable, Bool.and_eq_true] at this
    exact within_iff.mp this.1
  obtain rfl | rfl | rfl | rfl : b = 0 ∨ b = 1 ∨ b = 2 ∨ b = 3 := by omega
  · exact fits (n := 48) (k := 1) (p := c.bay0) (by simp [crossTests]) (by omega)
  · exact fits (n := 49) (k := 2) (p := c.bay1) (by simp [crossTests]) (by omega)
  · exact fits (n := 50) (k := 3) (p := c.bay2) (by simp [crossTests]) (by omega)
  · exact fits (n := 51) (k := 4) (p := c.bay3) (by simp [crossTests]) (by omega)

theorem axis_of_checked {c : StartRecord} (h : startRecordFailure c = none) (a : Axis) :
    (axisParams c a).decelLoaded ≤ (axisParams c a).decel ∧ (axisParams c a).decel ≤ (axisParams c a).emergency ∧
      stopDistance (axisParams c a).creepSpeed (axisParams c a).decelLoaded + ceilDiv (axisParams c a).creepSpeed 100 +
        (axisParams c a).creepStop ≤ (axisParams c a).creepLength := by
  have steps : stepsOrdered (axisParams c a) = true := by
    cases a
    · exact cross_of_checked h (n := 10) (by simp [crossTests, axisParams])
    · exact cross_of_checked h (n := 22) (by simp [crossTests, axisParams])
  have fits : creepFits (axisParams c a) = true := by
    cases a
    · exact cross_of_checked h (n := 13) (by simp [crossTests, axisParams])
    · exact cross_of_checked h (n := 25) (by simp [crossTests, axisParams])
  rw [stepsOrdered, Bool.and_eq_true, decide_eq_true_eq, decide_eq_true_eq] at steps
  exact ⟨steps.1, steps.2, of_decide_eq_true fits⟩

/-! ## The edge of the line while both axes are PARKED -/

theorem stopAxis_parked {a : Axis} (h : (s.axis a).state = .parked) (o : MoveOutcome) : stopAxis s a o = s := by
  simp [stopAxis, h]

/-- R107, R108: with both axes PARKED an edge only raises HALT_CHANGED. -/
theorem lineEdge_parked (h : ∀ a, (s.axis a).state = .parked) (b : State) :
    lineEdge b s = s ∨ ∃ cause, lineEdge b s = haltEvent s cause := by
  have parked (cause : HaltCause) (a : Axis) : ((haltEvent s cause).axis a).state = .parked := h a
  unfold lineEdge
  split
  · rw [stopAxis_parked (parked _ .bridge), stopAxis_parked (parked _ .trolley)]
    exact .inr ⟨_, rfl⟩
  · split
    · exact .inr ⟨_, rfl⟩
    · exact .inl rfl

/-- R12: the record in force, the weigher armed, the holds latched, the host timer started. -/
def accepted (s : State) (c : StartRecord) : State :=
  restartHostTimer (latchAtAcceptance (latchAtAcceptance
    (withWeigher { s with record := some c } (armWeigher { s with record := some c })) .bridge) .trolley)

theorem changeNode_listening (hn : s.node = .unconfigured) : changeNode s .listening = raiseEvent
    { s with node := .listening, link := { s.link with reportTimer := none } } (.nodeState .listening .unconfigured) := by
  have peers : peersAtEntry s .listening = s.peers := if_neg (by simp [hn])
  rw [changeNode, peers, hn]
  rfl

/-- R12, R13: the node in LISTENING, before the line is judged. -/
def listening (s : State) (c : StartRecord) : State :=
  changeNode { accepted s c with listen := some ((accepted s c).now + silenceTimeoutOf (accepted s c).conf) } .listening

/-- R99: the end-limit holds of an axis latched. -/
def latched (s : State) (c : StartRecord) (a : Axis) : AxisRecord := { s.axis a with
  lowHold := (s.axis a).lowHold || limitActive c s.inputs a .low
  highHold := (s.axis a).highHold || limitActive c s.inputs a .high }

theorem listening_eq (s : State) (c : StartRecord) (hn : s.node = .unconfigured) : listening s c =
    raiseEvent { s with
      record := some c
      node := .listening
      listen := some (s.now + c.silenceCount * c.reportInterval)
      weigher := armWeigher { s with record := some c }
      link := { s.link with reportTimer := none }
      travel := { s.travel with bridge := latched s c .bridge, trolley := latched s c .trolley }
      port := { s.port with hostTimer := some (s.now + c.hostTimeout) } } (.nodeState .listening .unconfigured) := by
  rw [listening, changeNode_listening (by exact hn)]
  rfl

theorem takeUpRecord_eq (s : State) (c : StartRecord) :
    takeUpRecord s c = closeQuery (refreshLine (listening s c)) := rfl

/-- R12, R107: with both axes PARKED the record's acceptance ends with the line judged, and at most HALT_CHANGED raised. -/
theorem takeUpRecord_parked (hn : s.node = .unconfigured) (hp : ∀ a, (s.axis a).state = .parked) (c : StartRecord) :
    let u := judgeLine (listening s c)
    takeUpRecord s c = closeQuery u ∨ ∃ cause, takeUpRecord s c = closeQuery (haltEvent u cause) := by
  intro u
  rw [takeUpRecord_eq, refreshLine]
  have parked (a : Axis) : ((judgeLine (listening s c)).axis a).state = .parked := by
    rw [listening_eq s c hn]
    cases a
    · exact hp .bridge
    · exact hp .trolley
  rcases lineEdge_parked parked (listening s c) with e | ⟨cause, e⟩
  · exact .inl (by rw [e])
  · exact .inr ⟨cause, by rw [e]⟩

/-- R8, R12, R99, R107, R114: what an accepted start record leaves. -/
theorem takeUpRecord_fields (hn : s.node = .unconfigured) (hp : ∀ a, (s.axis a).state = .parked) (c : StartRecord) :
    let t := takeUpRecord s c
    t.record = some c ∧ t.node = .listening ∧ t.listen = some (s.now + c.silenceCount * c.reportInterval) ∧
      t.port.hostTimer = some (s.now + c.hostTimeout) ∧ t.port.transmit = s.port.transmit ∧
      eventAt t.port 14 = (eventAt s.port 14).next (.nodeState .listening .unconfigured) ∧
      t.weigher = armWeigher { s with record := some c } ∧ (∀ a, t.axis a = latched s c a) ∧
      t.halt.asserted = s.inputs.haltLine ∧ t.halt.drives = false ∧ t.peers = s.peers ∧ t.store.slots = s.store.slots ∧
      t.store.rows = s.store.rows ∧ t.tasks = s.tasks ∧ t.bays = s.bays ∧ t.inputs = s.inputs ∧ t.scanDue = s.scanDue := by
  intro t
  have ends := takeUpRecord_parked hn hp c
  have hl := listening_eq s c hn
  generalize listening s c = l at ends hl
  have drive : driveDue l = false := by
    subst hl
    exact Bool.and_false _
  have level : lineDue l = s.inputs.haltLine := by
    rw [lineDue, drive]
    subst hl
    exact Bool.or_false _
  have raised : eventAt l.port 14 = (eventAt s.port 14).next (.nodeState .listening .unconfigured) := by
    subst hl
    exact eventAt_raise_same _ _
  have axes (a : Axis) : l.axis a = latched s c a := by
    subst hl
    cases a <;> rfl
  have event (cause : HaltCause) : eventAt (closeQuery (haltEvent (judgeLine l) cause)).port 14 = eventAt l.port 14 :=
    eventAt_raise_other _ _ (by simp [Detail.number])
  rcases ends with e | ⟨cause, e⟩
  · rw [show t = _ from e]
    refine ⟨?_, ?_, ?_, ?_, ?_, raised, ?_, axes, level, drive, ?_, ?_, ?_, ?_, ?_, ?_, ?_⟩ <;> (subst hl; rfl)
  · rw [show t = _ from e]
    refine ⟨?_, ?_, ?_, ?_, ?_, (event cause).trans raised, ?_, axes, level, drive, ?_, ?_, ?_, ?_, ?_, ?_, ?_⟩ <;> (subst hl; rfl)

end Sys2Proof.Machine

namespace Sys2Proof.Proofs

open Machine

/-- Settles O20: refusals read the state only; an accepted record goes through `takeUpRecord_fields`, and what it guarantees is
read off the tests of its two passes. -/
theorem startRecordDecides : Obligations.StartRecordDecides := by
  refine ⟨fun s tag c hr hs => ⟨fun hn => ?_, fun hn n hf => ?_, fun hn hf hb ht => ?_⟩, fun c => ⟨failure_of_rank, fun h => ?_⟩⟩
  · exact next_eq (request_reads hr hs (.inl rfl) (by simp [handleConfigure, hn, refuse]))
  · exact next_eq (request_reads hr hs (.inl rfl) (by simp [handleConfigure, hn, hf]))
  · let w := Machine.taken s 1 tag
    have work : StoreWork s w := taken_work s 1 tag
    have parked (a : Axis) : (w.axis a).state = .parked := by
      rw [taken_axis]
      cases a
      · exact hb
      · exact ht
    obtain ⟨h1, h2, h3, h4, h5, h6, h7, h8, h9, h10, h11, h12, h13, h14, h15, h16, h17⟩ :=
      takeUpRecord_fields (work.node.trans hn) parked c
    have run : exec (.configure tag (.fields c)) s = .next (answered (takeUpRecord w c) 1 tag .ok .none) := by
      refine next_eq ?_
      rw [request_fields hr (.inl rfl), handleConfigure, work.node, if_neg (by simp [hn]), hf]
      exact respond_unscanned (h17.trans ((taken_scanDue s 1 tag).trans (not_scanDue hs))) 1 tag
    rw [work.inputs] at h9 h16
    rw [work.now] at h3 h4
    have weigher : (answered (takeUpRecord w c) 1 tag .ok .none).weigher =
        { Weigher.reset with
          converter := if s.inputs.dataReady = c.polarities.getLsbD 8 then .byte1 else .armed
          timer := some (s.now + 100), lost := s.weigher.lost } := by
      refine h7.trans ?_
      have active : activeLevel c 8 s.inputs.dataReady = true ↔ s.inputs.dataReady = c.polarities.getLsbD 8 := beq_iff_eq
      simp only [armWeigher, dataReadyActive, State.conf, Option.getD_some, work.inputs, work.now, work.weigher, active]
      rfl
    have latch (a : Axis) : latched w c a = latched s c a := by simp only [latched, w, taken_axis, work.inputs]
    refine ⟨_, run, h1, h2, h3, h4, ?_, h6.trans (by rw [taken_eventAt]), by rw [weigher], by rw [weigher]; rfl,
      by rw [weigher]; rfl, by rw [weigher]; rfl, by rw [weigher]; rfl, by rw [weigher]; rfl, by rw [weigher], by rw [weigher],
      fun a => ?_, h9, h10, h11.trans work.peers, h12.trans ?_, h13.trans ?_, h14.trans work.tasks, h15.trans work.bays, h16⟩
    · show (takeUpRecord w c).port.transmit ++ _ = _
      rw [h5, work.transmit]
    · have axis : (answered (takeUpRecord w c) 1 tag .ok .none).axis a = latched s c a := (h8 a).trans (latch a)
      rw [axis]
      refine ⟨rfl, rfl, ?_, rfl⟩
      cases a
      · exact hb
      · exact ht
    · rw [taken_store]
    · rw [taken_store]
  · have own := range_of_checked h (n := 1) (x := c.ownRank) (a := 1) (b := 8) (by simp [rangeTests])
    have cranes := range_of_checked h (n := 2) (x := c.craneCount) (a := 1) (b := 8) (by simp [rangeTests])
    have rows := range_of_checked h (n := 39) (x := c.rows) (a := 1) (b := 64) (by simp [rangeTests])
    have lowers := range_of_checked h (n := 42) (x := c.lowers) (a := 2) (b := 8) (by simp [rangeTests])
    have intakes := range_of_checked h (n := 44) (x := c.intakeCount) (a := 0) (b := 2) (by simp [rangeTests])
    have bays := range_of_checked h (n := 47) (x := c.bayCount) (a := 0) (b := 4) (by simp [rangeTests])
    have release := range_of_checked h (n := 55) (x := c.releaseLevel) (a := 50) (b := c.pick - 100) (by simp [rangeTests])
    have order := of_decide_eq_true (cross_of_checked h (n := 1) (b := decide (c.ownRank ≤ c.craneCount)) (by simp [crossTests]))
    have travel := of_decide_eq_true (cross_of_checked h (n := 3) (b := decide (bridgeMin c ≤ bridgeMax c)) (by simp [crossTests]))
    have height := of_decide_eq_true (cross_of_checked h (n := 36) (b := decide (c.clearHeight < c.hoistTop)) (by simp [crossTests]))
    have lateral := of_decide_eq_true (cross_of_checked h (n := 41)
      (b := decide (c.lateralBase + (c.lowers - 1 : Nat) * c.lateralPitch ≤ c.span)) (by simp [crossTests]))
    have points := cross_of_checked h (n := 37) (b := (List.range c.rows).all fun r => inBridgeRange c (rowX c r))
      (by simp [crossTests])
    have interval := (tests_of_checked h).1 (62, within c.reportInterval 20 200 && c.reportInterval % 10 == 0) (by simp [rangeTests])
    rw [List.all_eq_true] at points
    rw [Nat.cast_sub (by omega)] at lateral
    simp only [Bool.and_eq_true, beq_iff_eq] at interval
    refine ⟨by omega, by omega, by omega, travel, height, by omega, interval.2, by omega, by omega, by omega, by omega, by omega,
      by omega, lateral, fun r hr => within_iff.mp (points r (List.mem_range.mpr hr)), fun b hb => bays_of_checked h hb, fun a => ?_⟩
    obtain ⟨k1, k2, k3, k4, k5, k6⟩ := axisParams_of_checked h a
    obtain ⟨l1, l2, l3⟩ := axis_of_checked h a
    exact ⟨k5, l1, l2, k2, l3⟩

end Sys2Proof.Proofs

/-! SUPPORT. What a LIFT, a SET, a SNAG and a LOAD_LOST do with the tasks (R158 to R166): what they leave alone, and that
they read the yard's records only. -/

namespace Sys2Proof.Machine

variable {s t u : State}

/-! ## What the Task Engine's work leaves alone -/

/-- The work of the Task Engine: it changes the yard's records, and raises TASK_DONE, TASK_ABORTED, BAY_COMPLETE and
STORE_SUSPECT alone. -/
structure TaskWork (s t : State) : Prop extends YardWork s t where
  events : ∀ n, n ∉ [1, 2, 9, 13] → eventAt t.port n = eventAt s.port n

namespace TaskWork

theorem refl (s : State) : TaskWork s s := ⟨.refl s, fun _ _ => rfl⟩

theorem trans (h : TaskWork s t) (k : TaskWork t u) : TaskWork s u :=
  ⟨h.toYardWork.trans k.toYardWork, fun n hn => (k.events n hn).trans (h.events n hn)⟩

theorem foldl {α : Type} {f : State → α → State} (hf : ∀ t a, TaskWork t (f t a)) (l : List α) (s : State) :
    TaskWork s (l.foldl f s) := by
  induction l generalizing s with
  | nil => exact refl s
  | cons a l ih => exact (hf s a).trans (ih _)

/-- Work that leaves the port alone. -/
theorem quiet (h : YardWork s t) (hp : t.port = s.port) : TaskWork s t := ⟨h, fun _ _ => by rw [hp]⟩

theorem withTasks (s : State) (k : Tasks) : TaskWork s { s with tasks := k } :=
  ⟨⟨rfl, rfl, rfl, rfl, rfl, rfl, rfl, rfl, rfl, rfl, rfl⟩, fun _ _ => rfl⟩

theorem withBay (s : State) (b : Nat) (r : BayRecord) : TaskWork s (s.withBay b r) :=
  ⟨⟨rfl, rfl, rfl, rfl, rfl, rfl, rfl, rfl, rfl, rfl, rfl⟩, fun _ _ => rfl⟩

theorem raise (s : State) {d : Detail} (h : d.number ∈ [1, 2, 9, 13]) : TaskWork s (raiseEvent s d) :=
  ⟨(raiseEvent_work s d).toYardWork, fun n hn => eventAt_raise_other s d fun e => hn (e ▸ h)⟩

end TaskWork

theorem changeSlot_taskWork (s : State) (n : Nat) (r : SlotRecord) : TaskWork s (changeSlot s n r) :=
  .quiet (changeSlot_work s n r).toYardWork (changeSlot_keeps s n r).2.2.1

theorem joinOutbox_taskWork (s : State) (e : OutboxEntry) : TaskWork s (joinOutbox s e) :=
  .quiet (joinOutbox_work s e).toYardWork (joinOutbox_keeps s e).2.2.2.2.1

theorem markSuspect_taskWork (s : State) (row : Nat) (c : SuspectCause) (rank : Option Nat) :
    TaskWork s (markSuspect s row c rank) :=
  .trans (t := markRow s row) (.quiet (markRow_work s row).toYardWork rfl) (.raise _ (by simp [Detail.number]))

theorem ownBayChange_taskWork (s : State) (b : Nat) (r : BayRecord) : TaskWork s (ownBayChange s b r) :=
  .quiet (ownBayChange_work s b r) (ownBayChange_keeps s b r).2.2.1

theorem settleCradle_taskWork (s : State) (b i coil : Nat) (w : Int) : TaskWork s (settleCradle s b i coil w) := by
  unfold settleCradle
  dsimp only
  split
  · exact .refl s
  · split
    · exact (ownBayChange_taskWork s b _).trans (.raise _ (by simp [Detail.number]))
    · exact ownBayChange_taskWork s b _

theorem unwind_taskWork (s : State) (c : AbortCause) (d : Nat) : TaskWork s (unwind s c d) :=
  .quiet (unwind_work s c d) (unwindTasks_keeps c d s.tasks.nest.reverse s).2.1

theorem abortNest_taskWork (s : State) (c : AbortCause) (number d : Nat) (x : AbortDetail) {f : State → State}
    (hf : writesHook f) : TaskWork s (abortNest s c number d x f) := by
  obtain ⟨k, l, w, h⟩ := hf (unwind s c d)
  refine (unwind_taskWork s c d).trans (.trans (t := f (unwind s c d)) ?_ (.raise _ (by simp [Detail.number])))
  rw [h]
  exact .withTasks _ _

theorem abortAtTop_taskWork (s : State) (c : AbortCause) (x : AbortDetail) {f : State → State}
    (hf : writesHook f) : TaskWork s (abortAtTop s c x f) := by
  unfold abortAtTop
  split
  · exact .refl s
  · exact abortNest_taskWork s c _ _ x hf

theorem writesHook_id : writesHook id := fun t => ⟨t.tasks.hookCoil, t.tasks.loose, t.tasks.unplaced, rfl⟩

theorem writesHook_loose (b : Bool) : writesHook fun t => withLoose t b :=
  fun t => ⟨t.tasks.hookCoil, b, t.tasks.unplaced, rfl⟩

theorem writesHook_set (way : UnplacedWay) (coil : Option Nat) (net : Option Int) :
    writesHook fun t => withLoose (writeUnplaced (withHookCoil t none) way coil net) false := fun _ => ⟨none, false, _, rfl⟩

theorem writesHook_drop : writesHook dropLoad := by
  intro t
  unfold dropLoad
  split
  · exact ⟨none, false, _, rfl⟩
  · rename_i h _
    exact ⟨none, false, _, by rw [writeUnplaced, withLoose, ← h]⟩
  · rename_i h1 h2
    exact ⟨none, false, t.tasks.unplaced, by rw [← h1, ← h2]⟩

theorem liftClash_taskWork (s : State) (coil : Nat) (p : Place) : TaskWork s (liftClash s coil p) := by
  unfold liftClash
  dsimp only
  refine .trans ?_ (.foldl (fun t b => ?_) _ _)
  · split
    · exact markSuspect_taskWork _ _ _ _
    · exact .refl s
  · split
    · exact .withBay t b _
    · exact .refl t

theorem settleSource_taskWork (s : State) (n : Nat) : TaskWork s (settleSource s n) :=
  (changeSlot_taskWork s n _).trans (joinOutbox_taskWork _ _)

theorem settleLift_taskWork (s : State) (k : Task) (net : Int) : TaskWork s (settleLift s k net) := by
  have first : TaskWork s (match k.source with | .slot n => settleSource s n | _ => s) := by
    split
    · exact settleSource_taskWork s _
    · exact .refl s
  exact ((first.trans (.withTasks _ _)).trans (liftClash_taskWork _ _ _)).trans (.withTasks _ _)

theorem commitTask_taskWork (s : State) (k : Task) : TaskWork s (commitTask s k) := by
  have first (w : Int) : TaskWork s (match k.dest with
      | .slot n => settleDestination s n k.coil k.cls w
      | .cradle b i => settleCradle s b i k.coil w
      | _ => s) := by
    split
    · exact (changeSlot_taskWork s _ _).trans (joinOutbox_taskWork _ _)
    · exact settleCradle_taskWork s _ _ _ _
    · exact .refl s
  exact (((first _).trans (.withTasks _ _)).trans (.withTasks _ _)).trans
    ((TaskWork.raise _ (by simp [Detail.number])).trans (.withTasks _ _))

/-- R158 to R161: a LIFT. -/
theorem taskLift_work (s : State) (net : Int) : TaskWork s (taskLift s net) := by
  unfold taskLift
  split
  · exact .withTasks s _
  · split
    · exact .refl s
    · split
      · exact abortAtTop_taskWork s _ _ (writesHook_loose true)
      · split
        · exact abortAtTop_taskWork s _ _ (writesHook_loose true)
        · split
          · exact settleLift_taskWork s _ net
          · split
            · exact settleLift_taskWork s _ net
            · exact abortAtTop_taskWork s _ _ (writesHook_loose true)

/-- R162 to R164: a SET. -/
theorem taskSet_work (s : State) (net : Int) : TaskWork s (taskSet s net) := by
  unfold taskSet
  split
  · unfold setWithoutTask
    split
    · exact (TaskWork.withTasks s _).trans (.withTasks _ _)
    · split
      · exact (TaskWork.withTasks s _).trans (.withTasks _ _)
      · exact .refl s
  · split
    · exact .refl s
    · split
      · exact commitTask_taskWork s _
      · exact abortAtTop_taskWork s _ _ (writesHook_set .set _ _)

/-- R165: a SNAG. -/
theorem taskSnag_work (s : State) : TaskWork s (taskSnag s) := abortAtTop_taskWork s .snag .none writesHook_id

/-- R166: a LOAD_LOST. -/
theorem taskLoadLost_work (s : State) : TaskWork s (taskLoadLost s) := by
  unfold taskLoadLost
  split
  · obtain ⟨k, l, w, h⟩ := writesHook_drop s
    rw [h]
    exact .withTasks s _
  · exact abortAtTop_taskWork s .loadLost .none writesHook_drop

end Sys2Proof.Machine

/-! SUPPORT. The Task Engine's work at a sample reads the yard's records only: two states with the same records are left with
the same records. -/

namespace Sys2Proof.Machine

variable {s t u : State}

/-- Two states with the same records of the yard, read from the same inputs and start record. -/
structure SameYard (s t : State) : Prop where
  inputs : t.inputs = s.inputs
  record : t.record = s.record
  tasks : t.tasks = s.tasks
  slots : t.store.slots = s.store.slots
  outbox : t.store.outbox = s.store.outbox
  bays : t.bays = s.bays
  events : ∀ n ∈ [1, 2, 9, 13], eventAt t.port n = eventAt s.port n

namespace SameYard

theorem refl (s : State) : SameYard s s := ⟨rfl, rfl, rfl, rfl, rfl, rfl, fun _ _ => rfl⟩

theorem trans (h : SameYard s t) (k : SameYard t u) : SameYard s u where
  inputs := k.inputs.trans h.inputs
  record := k.record.trans h.record
  tasks := k.tasks.trans h.tasks
  slots := k.slots.trans h.slots
  outbox := k.outbox.trans h.outbox
  bays := k.bays.trans h.bays
  events n hn := (k.events n hn).trans (h.events n hn)

theorem foldl {α : Type} {f : State → α → State} (hf : ∀ a s t, SameYard s t → SameYard (f s a) (f t a)) :
    ∀ (l : List α) (s t : State), SameYard s t → SameYard (l.foldl f s) (l.foldl f t)
  | [], _, _, h => h
  | a :: l, _, _, h => foldl hf l _ _ (hf a _ _ h)

theorem conf (h : SameYard s t) : t.conf = s.conf := conf_of_record h.record

theorem slotAt (h : SameYard s t) (n : Nat) : slotAt t n = slotAt s n := slotAt_of_slots h.slots n

theorem bay (h : SameYard s t) (b : Nat) : t.bay b = s.bay b := congrArg (bayAt · b) h.bays

theorem position (h : SameYard s t) (a : Axis) : t.position a = s.position a := position_of_inputs h.inputs a

theorem heldSlot (h : SameYard s t) (n : Nat) : heldSlot t n = heldSlot s n := by
  simp only [Machine.heldSlot, h.slotAt, h.conf]

theorem findSlot (h : SameYard s t) (p : Nat → SlotRecord → Bool) : findSlot t p = findSlot s p := by
  rw [Machine.findSlot, h.slots, Machine.findSlot]

theorem craneAt (h : SameYard s t) (p : Place) : craneAt t p = craneAt s p := by
  have point : placePoint t p = placePoint s p := by
    cases p <;> simp only [placePoint, h.conf, h.bay]
  rw [Machine.craneAt, point, h.position, h.position, h.conf, Machine.craneAt]

theorem withTasks (h : SameYard s t) (k : Tasks) : SameYard { s with tasks := k } { t with tasks := k } :=
  ⟨h.inputs, h.record, rfl, h.slots, h.outbox, h.bays, h.events⟩

theorem withBay (h : SameYard s t) (b : Nat) (r : BayRecord) : SameYard (s.withBay b r) (t.withBay b r) :=
  ⟨h.inputs, h.record, h.tasks, h.slots, h.outbox, by show putBay t.bays b r = putBay s.bays b r; rw [h.bays], h.events⟩

theorem raise (h : SameYard s t) (d : Detail) : SameYard (raiseEvent s d) (raiseEvent t d) := by
  refine ⟨h.inputs, h.record, h.tasks, h.slots, h.outbox, h.bays, fun n hn => ?_⟩
  rw [eventAt_raise, eventAt_raise, h.events n hn]

theorem changeSlot (h : SameYard s t) (n : Nat) (r : SlotRecord) : SameYard (changeSlot s n r) (changeSlot t n r) := by
  have ws := changeSlot_work s n r
  have wt := changeSlot_work t n r
  have slots (v : State) : (Machine.changeSlot v n r).store.slots = tablePut .unknown v.store.slots n r :=
    (settleRow_keeps (putSlot v n r) (slotRow n)).1
  refine ⟨wt.inputs.trans (h.inputs.trans ws.inputs.symm), wt.record.trans (h.record.trans ws.record.symm),
    wt.tasks.trans (h.tasks.trans ws.tasks.symm), by rw [slots, slots, h.slots], by simp [h.outbox],
    wt.bays.trans (h.bays.trans ws.bays.symm), fun m hm => ?_⟩
  rw [(changeSlot_keeps s n r).2.2.1, (changeSlot_keeps t n r).2.2.1]
  exact h.events m hm

theorem joinOutbox (h : SameYard s t) (e : OutboxEntry) : SameYard (joinOutbox s e) (joinOutbox t e) := by
  obtain ⟨l, hs⟩ := joinOutbox_eq s e
  obtain ⟨l', ht⟩ := joinOutbox_eq t e
  rw [hs, ht]
  exact ⟨h.inputs, h.record, h.tasks, h.slots, congrArg (· ++ [e]) h.outbox, h.bays, h.events⟩

theorem markSuspect (h : SameYard s t) (row : Nat) (c : SuspectCause) (rank : Option Nat) :
    SameYard (markSuspect s row c rank) (markSuspect t row c rank) := by
  refine raise (s := markRow s row) (t := markRow t row) ⟨h.inputs, h.record, h.tasks, ?_, h.outbox, h.bays, h.events⟩ _
  show (rowSlots t.conf row).foldl _ t.store.slots = (rowSlots s.conf row).foldl _ s.store.slots
  simp only [h.conf, h.heldSlot, h.slots]

theorem offer (h : SameYard s t) (c d : Content) : SameYard (offer s c) (offer t d) := by
  constructor <;> simp [h.inputs, h.record, h.tasks, h.slots, h.outbox, h.bays]
  simpa using h.events

theorem ownBayChange (h : SameYard s t) (b : Nat) (r : BayRecord) : SameYard (ownBayChange s b r) (ownBayChange t b r) :=
  (h.withBay b _).offer _ _

theorem settleCradle (h : SameYard s t) (b i coil : Nat) (w : Int) :
    SameYard (settleCradle s b i coil w) (settleCradle t b i coil w) := by
  unfold Machine.settleCradle
  simp only [h.bay]
  split
  · exact h
  · split
    · exact (h.ownBayChange b _).raise _
    · exact h.ownBayChange b _

theorem restoreEntry (e : JournalEntry) (h : SameYard s t) : SameYard (restoreEntry s e) (restoreEntry t e) := by
  unfold Machine.restoreEntry
  split
  · exact h.changeSlot _ _
  · simp only [restoreCradle, h.bay]
    exact h.ownBayChange _ _
  · exact h

theorem addOutcome (h : SameYard s t) (o : TaskOutcome) : SameYard (addOutcome s o) (addOutcome t o) := by
  rw [Machine.addOutcome, Machine.addOutcome, h.tasks]
  exact h.withTasks _

theorem unwindTask (c : AbortCause) (d : Nat) (k : Task) (h : SameYard s t) :
    SameYard (unwindTask c d s k) (unwindTask c d t k) := by
  have h1 := (foldl (fun e _ _ => restoreEntry e) k.journal.reverse s t h).addOutcome ⟨k.number, k.kind, some (c, d)⟩
  unfold Machine.unwindTask
  dsimp only
  rw [h1.tasks]
  exact h1.withTasks _

/-- R168: the nest aborted, with what deals with the hook records. -/
theorem abortAtTop (h : SameYard s t) (c : AbortCause) (x : AbortDetail) {f : State → State}
    (hf : ∀ s t, SameYard s t → SameYard (f s) (f t)) : SameYard (abortAtTop s c x f) (abortAtTop t c x f) := by
  unfold Machine.abortAtTop
  rw [h.tasks]
  split
  · exact h
  · have h1 := hf _ _ (foldl (fun k _ _ => unwindTask c s.tasks.nest.length k) s.tasks.nest.reverse s t h)
    simp only [abortNest, unwind, h.tasks, h1.tasks]
    exact h1.raise _

theorem withHookCoil (h : SameYard s t) (k : Option HookCoil) : SameYard (withHookCoil s k) (withHookCoil t k) := by
  rw [Machine.withHookCoil, Machine.withHookCoil, h.tasks]
  exact h.withTasks _

theorem withLoose (h : SameYard s t) (b : Bool) : SameYard (withLoose s b) (withLoose t b) := by
  rw [Machine.withLoose, Machine.withLoose, h.tasks]
  exact h.withTasks _

theorem writeUnplaced (h : SameYard s t) (way : UnplacedWay) (coil : Option Nat) (net : Option Int) :
    SameYard (writeUnplaced s way coil net) (writeUnplaced t way coil net) := by
  rw [Machine.writeUnplaced, Machine.writeUnplaced, h.tasks, h.position, h.position]
  exact h.withTasks _

theorem putTop (h : SameYard s t) (k : Task) : SameYard (putTop s k) (putTop t k) := by
  rw [Machine.putTop, Machine.putTop, h.tasks]
  exact h.withTasks _

theorem liftClash (h : SameYard s t) (coil : Nat) (p : Place) : SameYard (liftClash s coil p) (liftClash t coil p) := by
  unfold Machine.liftClash
  dsimp only
  refine foldl (fun b v w k => ?_) _ _ _ ?_
  · have held : bayHoldsCoil w b coil = bayHoldsCoil v b coil := by simp only [bayHoldsCoil, k.bay]
    rw [held]
    split
    · rw [unname, unname, k.bay]
      exact k.withBay b _
    · exact k
  · rw [h.findSlot]
    split
    · exact h.markSuspect _ _ _
    · exact h

theorem settleLift (h : SameYard s t) (k : Task) (net : Int) : SameYard (settleLift s k net) (settleLift t k net) := by
  unfold Machine.settleLift
  dsimp only
  refine SameYard.putTop (SameYard.liftClash (SameYard.withHookCoil ?_ _) _ _) _
  split
  · exact (h.changeSlot _ _).joinOutbox _
  · exact h

/-- R158 to R161: a LIFT. -/
theorem taskLift (h : SameYard s t) (net : Int) : SameYard (taskLift s net) (taskLift t net) := by
  have covering (p : Place) : coveringSlot t p = coveringSlot s p := by
    cases p <;> simp only [coveringSlot, h.conf, h.slotAt]
  unfold Machine.taskLift
  simp only [h.tasks, h.craneAt, covering, h.position, h.conf]
  split
  · exact h.withLoose true
  · split
    · exact h
    · split
      · exact h.abortAtTop _ _ fun _ _ k => k.withLoose true
      · split
        · exact h.abortAtTop _ _ fun _ _ k => k.withLoose true
        · split
          · exact h.settleLift _ net
          · split
            · exact h.settleLift _ net
            · exact h.abortAtTop _ _ fun _ _ k => k.withLoose true

theorem dropTop (h : SameYard s t) : SameYard { s with tasks := { s.tasks with nest := s.tasks.nest.dropLast } }
    { t with tasks := { t.tasks with nest := t.tasks.nest.dropLast } } := by
  rw [h.tasks]
  exact h.withTasks _

theorem commitTask (h : SameYard s t) (k : Task) : SameYard (commitTask s k) (commitTask t k) := by
  unfold Machine.commitTask
  simp only [h.tasks]
  have placed (w : Int) : SameYard (match k.dest with
      | .slot n => settleDestination s n k.coil k.cls w
      | .cradle b i => Machine.settleCradle s b i k.coil w
      | _ => s) (match k.dest with
      | .slot n => settleDestination t n k.coil k.cls w
      | .cradle b i => Machine.settleCradle t b i k.coil w
      | _ => t) := by
    split
    · exact (h.changeSlot _ _).joinOutbox _
    · exact h.settleCradle _ _ _ _
    · exact h
  exact ((((placed _).withHookCoil none).addOutcome _).raise _).dropTop

/-- R162 to R164: a SET. -/
theorem taskSet (h : SameYard s t) (net : Int) : SameYard (taskSet s net) (taskSet t net) := by
  unfold Machine.taskSet
  simp only [h.tasks, h.craneAt, h.position]
  split
  · unfold setWithoutTask
    rw [h.tasks]
    split
    · exact (h.withHookCoil none).writeUnplaced _ _ _
    · split
      · exact (h.withLoose false).writeUnplaced _ _ _
      · exact h
  · split
    · exact h
    · split
      · exact h.commitTask _
      · exact h.abortAtTop _ _ fun _ _ k => ((k.withHookCoil none).writeUnplaced _ _ _).withLoose false

theorem dropLoad (h : SameYard s t) : SameYard (dropLoad s) (dropLoad t) := by
  unfold Machine.dropLoad
  rw [h.tasks]
  split
  · exact ((h.withHookCoil none).withLoose false).writeUnplaced _ _ _
  · exact (h.withLoose false).writeUnplaced _ _ _
  · exact h

/-- R165: a SNAG. -/
theorem taskSnag (h : SameYard s t) : SameYard (taskSnag s) (taskSnag t) := h.abortAtTop _ _ fun _ _ k => k

/-- R166: a LOAD_LOST. -/
theorem taskLoadLost (h : SameYard s t) : SameYard (taskLoadLost s) (taskLoadLost t) := by
  unfold Machine.taskLoadLost
  rw [h.tasks]
  split
  · exact h.dropLoad
  · exact h.abortAtTop _ _ fun _ _ k => k.dropLoad

end SameYard

end Sys2Proof.Machine

/-! SUPPORT. A sample in range (R117 to R128): the rounding, the evaluation of the hook load state, what it hands on and the
comparison with the safe working load, each with what it leaves alone. -/

namespace Sys2Proof.Machine

variable {s t u : State}

/-! ## Rounding to the nearest, ties away from zero -/

theorem roundDiv_nearest (n : Int) {d : Int} (hd : 0 < d) : 2 * magnitude (d * roundDiv n d - n) ≤ d ∧
    (2 * magnitude (d * roundDiv n d - n) = d → magnitude n < magnitude (d * roundDiv n d)) := by
  have quotient (m : Int) : 2 * (d * ((2 * m + d) / (2 * d))) ≤ 2 * m + d ∧
      2 * m + d < 2 * (d * ((2 * m + d) / (2 * d))) + 2 * d := by
    have split := Int.mul_ediv_add_emod (2 * m + d) (2 * d)
    have low := Int.emod_nonneg (2 * m + d) (b := 2 * d) (by omega)
    have high := Int.emod_lt_of_pos (2 * m + d) (b := 2 * d) (by omega)
    rw [mul_assoc] at split
    omega
  unfold roundDiv magnitude
  split
  · obtain ⟨low, high⟩ := quotient n
    generalize d * ((2 * n + d) / (2 * d)) = x at *
    omega
  · obtain ⟨low, high⟩ := quotient (-n)
    rw [mul_neg]
    generalize d * ((2 * (-n) + d) / (2 * d)) = x at *
    omega

/-! ## What no event of the axes' work is -/

theorem lowHookAxis_events (a : Axis) {n : Nat} (h0 : n ≠ 0) (h7 : n ≠ 7) :
    eventAt (lowHookAxis s a).port n = eventAt s.port n := by
  unfold lowHookAxis orderStop
  dsimp only
  repeat' split
  all_goals simp [endMove_events, h0, h7]

theorem lowHookEdge_events (b : State) {n : Nat} (h0 : n ≠ 0) (h7 : n ≠ 7) :
    eventAt (lowHookEdge b s).port n = eventAt s.port n := by
  unfold lowHookEdge
  split
  · rw [lowHookAxis_events _ h0 h7, lowHookAxis_events _ h0 h7]
  · rfl

/-! ## What an evaluation hands on (R126, R127) -/

/-- The Task Engine's work on an act. -/
def taskOf (s : State) (net : Int) : HookAct → State
  | .lift => taskLift s net
  | .set => taskSet s net
  | .snag => taskSnag s
  | .loadLost => taskLoadLost s

theorem taskOf_work (s : State) (net : Int) (a : HookAct) : TaskWork s (taskOf s net a) := by
  cases a
  · exact taskLift_work s net
  · exact taskSet_work s net
  · exact taskSnag_work s
  · exact taskLoadLost_work s

theorem SameYard.taskOf (h : SameYard s t) (net : Int) (a : HookAct) : SameYard (taskOf s net a) (taskOf t net a) := by
  cases a
  · exact h.taskLift net
  · exact h.taskSet net
  · exact h.taskSnag
  · exact h.taskLoadLost

/-- The halt reason of an act (R127). -/
def reasonOf (s : State) : HookAct → State
  | .snag => setReason s .snag
  | .loadLost => setReason s .loadLost
  | _ => s

/-- The event of an act (R126). -/
def eventOf (s : State) (net filtered : Int) : HookAct → State
  | .lift => raiseEvent s (.lift net filtered)
  | .set => raiseEvent s (.set net filtered)
  | _ => s

theorem handOn_eq (a : HookAct) (net filtered : Int) :
    handOn s a net filtered = eventOf (taskOf (reasonOf s a) net a) net filtered a := by cases a <;> rfl

theorem eventOf_events (a : HookAct) (net filtered : Int) {n : Nat} (h3 : n = 3 → a ≠ .lift) (h4 : n = 4 → a ≠ .set) :
    eventAt (eventOf s net filtered a).port n = eventAt s.port n := by
  cases a
  · exact eventAt_raise_other s _ fun e => h3 e rfl
  · exact eventAt_raise_other s _ fun e => h4 e rfl
  · rfl
  · rfl

theorem reasonOf_events (a : HookAct) {n : Nat} (h0 : n ≠ 0) (h5 : n ≠ 5) (h7 : n ≠ 7) :
    eventAt (reasonOf s a).port n = eventAt s.port n := by
  cases a
  · rfl
  · rfl
  · exact setReason_events _ h0 h5 h7
  · exact setReason_events _ h0 h5 h7

/-- What is handed on, but for the task records. -/
theorem handOn_keeps (a : HookAct) (net filtered : Int) :
    (handOn s a net filtered).inputs = s.inputs ∧ (handOn s a net filtered).record = s.record ∧
    (handOn s a net filtered).node = s.node ∧ (handOn s a net filtered).peers = s.peers ∧
    (handOn s a net filtered).now = s.now ∧ (handOn s a net filtered).travel.hoist = s.travel.hoist ∧
    (handOn s a net filtered).claim.joinWindow = s.claim.joinWindow := by
  have event (v : State) : (eventOf v net filtered a).inputs = v.inputs ∧ (eventOf v net filtered a).record = v.record ∧
      (eventOf v net filtered a).node = v.node ∧ (eventOf v net filtered a).peers = v.peers ∧
      (eventOf v net filtered a).now = v.now ∧ (eventOf v net filtered a).travel = v.travel ∧
      (eventOf v net filtered a).claim = v.claim := by
    cases a <;> exact ⟨rfl, rfl, rfl, rfl, rfl, rfl, rfl⟩
  have work := taskOf_work (reasonOf s a) net a
  have reason : (reasonOf s a).inputs = s.inputs ∧ (reasonOf s a).record = s.record ∧
      (reasonOf s a).node = s.node ∧ (reasonOf s a).peers = s.peers ∧ (reasonOf s a).now = s.now ∧
      (reasonOf s a).travel.hoist = s.travel.hoist ∧ (reasonOf s a).claim.joinWindow = s.claim.joinWindow := by
    cases a <;> simp [reasonOf]
  simp only [handOn_eq, event, work.inputs, work.record, work.node, work.peers, work.now, work.travel, work.claim, reason]
  exact ⟨trivial, trivial, trivial, trivial, trivial, trivial, trivial⟩

theorem handOn_reasons (a : HookAct) (net filtered : Int) : (handOn s a net filtered).halt.reasons =
    if a = .snag then { s.halt.reasons with snag := true }
    else if a = .loadLost then { s.halt.reasons with loadLost := true } else s.halt.reasons := by
  have work := (taskOf_work (reasonOf s a) net a).halt
  cases a <;> simp [taskOf, reasonOf] at work <;> simp [handOn, work, setReason_reasons, HaltReasons.put]

theorem handOn_events (a : HookAct) (net filtered : Int) :
    eventAt (handOn s a net filtered).port 3 =
      (if a = .lift then (eventAt s.port 3).next (.lift net filtered) else eventAt s.port 3) ∧
    eventAt (handOn s a net filtered).port 4 =
      (if a = .set then (eventAt s.port 4).next (.set net filtered) else eventAt s.port 4) ∧
    eventAt (handOn s a net filtered).port 10 = eventAt s.port 10 := by
  have before {n : Nat} (h0 : n ≠ 0) (h5 : n ≠ 5) (h7 : n ≠ 7) (hn : n ∉ [1, 2, 9, 13]) :
      eventAt (taskOf (reasonOf s a) net a).port n = eventAt s.port n :=
    ((taskOf_work _ net a).events n hn).trans (reasonOf_events a h0 h5 h7)
  have at3 := before (n := 3) (by simp) (by simp) (by simp) (by simp)
  have at4 := before (n := 4) (by simp) (by simp) (by simp) (by simp)
  have at10 := before (n := 10) (by simp) (by simp) (by simp) (by simp)
  rw [handOn_eq]
  refine ⟨?_, ?_, by rw [eventOf_events _ _ _ (by simp) (by simp), at10]⟩
  · split
    · subst a
      exact (eventAt_raise_same _ _).trans (by rw [← at3]; rfl)
    · rw [eventOf_events _ _ _ (fun _ => ‹_›) (by simp), at3]
  · split
    · subst a
      exact (eventAt_raise_same _ _).trans (by rw [← at4]; rfl)
    · rw [eventOf_events _ _ _ (by simp) (fun _ => ‹_›), at4]

theorem SameYard.raised (h : SameYard s t) {d : Detail} (hd : d.number ∉ [1, 2, 9, 13]) : SameYard s (raiseEvent t d) :=
  ⟨h.inputs, h.record, h.tasks, h.slots, h.outbox, h.bays, fun n hn =>
    (eventAt_raise_other t d fun e => hd (e ▸ hn)).trans (h.events n hn)⟩

theorem SameYard.reasonOf (h : SameYard s t) (a : HookAct) : SameYard s (reasonOf t a) := by
  refine h.trans ?_
  have events : ∀ n ∈ [1, 2, 9, 13], eventAt (Machine.reasonOf t a).port n = eventAt t.port n := by
    intro n hn
    simp only [List.mem_cons, List.not_mem_nil, or_false] at hn
    exact reasonOf_events a (by omega) (by omega) (by omega)
  refine ⟨?_, ?_, ?_, ?_, ?_, ?_, events⟩ <;> cases a <;> simp [Machine.reasonOf]

/-- What is handed on leaves the yard as the Task Engine's work on the act does. -/
theorem SameYard.handOn (h : SameYard s t) (a : HookAct) (net filtered : Int) :
    SameYard (Machine.taskOf s net a) (handOn t a net filtered) := by
  rw [handOn_eq]
  have work := (h.reasonOf a).taskOf net a
  cases a
  · exact work.raised (by simp [Detail.number])
  · exact work.raised (by simp [Detail.number])
  · exact work
  · exact work

/-! ## The evaluation (R121) -/

/-- The outcome of an evaluation; without an accepted Tare nothing changes. -/
def hookStep (s : State) (net : Int) : HookStep :=
  if s.weigher.tared then evalHook s.conf s.weigher.load net (stable s.conf s.weigher)
    (classOf s.travel.bridge.state s.travel.trolley.state) s.weigher.settle
  else ⟨s.weigher.load, s.weigher.settle, none⟩

/-- The state with the outcome's hook load state and settle counter. -/
def stepped (s : State) (net : Int) : State :=
  withWeigher s { s.weigher with load := (hookStep s net).load, settle := (hookStep s net).settle }

/-- The state after what is handed on, before low-hook travel is judged. -/
def acted (s : State) (net filtered : Int) : State :=
  match (hookStep s net).act with
  | some a => handOn (stepped s net) a net filtered
  | none => stepped s net

theorem evaluateHook_eq (net filtered : Int) : evaluateHook s net filtered = lowHookEdge s (acted s net filtered) := by
  unfold evaluateHook acted stepped
  dsimp only
  by_cases tared : s.weigher.tared = true
  · rw [if_neg (by simp [tared]), show hookStep s net = evalHook s.conf s.weigher.load net (stable s.conf s.weigher)
      (classOf s.travel.bridge.state s.travel.trolley.state) s.weigher.settle from if_pos tared]
    generalize evalHook _ _ _ _ _ _ = e
    obtain ⟨load, settle, act⟩ := e
    cases act <;> rfl
  · rw [if_pos (by simp [tared]), show hookStep s net = ⟨s.weigher.load, s.weigher.settle, none⟩ from if_neg tared]
    exact (show lowHookEdge s s = s by simp [lowHookEdge]).symm

/-- What an evaluation leaves alone, and the weigher record after it. -/
theorem acted_keeps (net filtered : Int) : (acted s net filtered).inputs = s.inputs ∧
    (acted s net filtered).record = s.record ∧ (acted s net filtered).node = s.node ∧
    (acted s net filtered).peers = s.peers ∧ (acted s net filtered).now = s.now ∧
    (acted s net filtered).travel.hoist = s.travel.hoist ∧
    (acted s net filtered).claim.joinWindow = s.claim.joinWindow ∧
    (acted s net filtered).weigher = (stepped s net).weigher := by
  unfold acted
  split
  · simp only [handOn_keeps, handOn_weigher]
    exact ⟨rfl, rfl, rfl, rfl, rfl, rfl, rfl, trivial⟩
  · exact ⟨rfl, rfl, rfl, rfl, rfl, rfl, rfl, rfl⟩

theorem acted_events (net filtered : Int) :
    eventAt (acted s net filtered).port 3 = (if (hookStep s net).act = some .lift
      then (eventAt s.port 3).next (.lift net filtered) else eventAt s.port 3) ∧
    eventAt (acted s net filtered).port 4 = (if (hookStep s net).act = some .set
      then (eventAt s.port 4).next (.set net filtered) else eventAt s.port 4) ∧
    eventAt (acted s net filtered).port 10 = eventAt s.port 10 := by
  unfold acted
  cases (hookStep s net).act with
  | some a =>
    simp only [handOn_events, Option.some.injEq]
    exact ⟨rfl, rfl, rfl⟩
  | none => exact ⟨rfl, rfl, rfl⟩

theorem acted_reasons (net filtered : Int) : (acted s net filtered).halt.reasons =
    if (hookStep s net).act = some .snag then { s.halt.reasons with snag := true }
    else if (hookStep s net).act = some .loadLost then { s.halt.reasons with loadLost := true } else s.halt.reasons := by
  unfold acted
  cases (hookStep s net).act with
  | some a =>
    simp only [handOn_reasons, Option.some.injEq]
    rfl
  | none => rfl

theorem SameYard.withWeigher (h : SameYard s t) (w : Weigher) : SameYard s (withWeigher t w) :=
  ⟨h.inputs, h.record, h.tasks, h.slots, h.outbox, h.bays, h.events⟩

/-! ## The comparison with the safe working load (R128) -/

/-- The weigher record after the comparison. -/
def compared (s : State) (net : Int) : State :=
  Machine.withWeigher s { s.weigher with overload := decide (s.conf.swl < net) }

theorem judgeOverload_eq (net : Int) : judgeOverload s net =
    if s.conf.swl < net ∧ s.weigher.overload = false then weightFault (compared s net) .overload else compared s net := by
  unfold judgeOverload compared
  by_cases h : s.conf.swl < net
  · by_cases ho : s.weigher.overload = true
    · have same : { s.weigher with overload := true } = s.weigher := by rw [← ho]
      rw [if_pos h, if_pos ho, if_neg (by simp [ho])]
      simp only [h, decide_true, same]
      rfl
    · rw [if_pos h, if_neg ho, if_pos ⟨h, by simpa using ho⟩]
      simp only [h, decide_true]
  · rw [if_neg h, if_neg (fun k => h k.1)]
    simp only [h, decide_false]

theorem judgeOverload_keeps (net : Int) : (judgeOverload s net).inputs = s.inputs ∧
    (judgeOverload s net).record = s.record ∧ (judgeOverload s net).node = s.node ∧
    (judgeOverload s net).peers = s.peers ∧ (judgeOverload s net).now = s.now ∧ (judgeOverload s net).travel = s.travel ∧
    (judgeOverload s net).claim = s.claim ∧ (judgeOverload s net).halt = s.halt ∧ (judgeOverload s net).tasks = s.tasks ∧
    (judgeOverload s net).store = s.store ∧ (judgeOverload s net).bays = s.bays ∧
    (judgeOverload s net).weigher = (compared s net).weigher := by
  rw [judgeOverload_eq]
  split <;> exact ⟨rfl, rfl, rfl, rfl, rfl, rfl, rfl, rfl, rfl, rfl, rfl, rfl⟩

theorem judgeOverload_events (net : Int) {n : Nat} (h : n ≠ 10) :
    eventAt (judgeOverload s net).port n = eventAt s.port n := by
  rw [judgeOverload_eq]
  split
  · exact eventAt_raise_other _ _ h
  · rfl

/-- R128: the event of an overload that begins. -/
theorem judgeOverload_event (net : Int) : eventAt (judgeOverload s net).port 10 =
    if s.conf.swl < net ∧ s.weigher.overload = false then
      (eventAt s.port 10).next (.weightFault .overload s.weigher.sensorLost s.weigher.overrange true s.weigher.raw
        (netOf s.weigher) (!s.weigher.sensorLost))
    else eventAt s.port 10 := by
  rw [judgeOverload_eq]
  split
  · rename_i h
    have raised := eventAt_raise_same (compared s net) (.weightFault .overload s.weigher.sensorLost s.weigher.overrange
      (decide (s.conf.swl < net)) s.weigher.raw (netOf s.weigher) (!s.weigher.sensorLost))
    rw [decide_eq_true h.1] at raised
    refine Eq.trans ?_ raised
    unfold weightFault compared withWeigher
    simp only [h.1, decide_true]
    rfl
  · rfl

/-! ## The sample -/

/-- R115, R117, R119: the weigher record of a sample in range before its evaluation. -/
def sampled (s : State) (raw : Int) : Weigher :=
  enterGross { s.weigher with converter := .armed, raw := some raw, timer := some (s.now + 100) } (grossOf s.conf raw)

/-- The filtered and the net value of a sample in range. -/
def sampleFiltered (s : State) (raw : Int) : Int := filteredOf (sampled s raw).window

def sampleNet (s : State) (raw : Int) : Int := sampleFiltered s raw - s.weigher.tare

theorem takeSample_inRange {raw : Int} (h : saturated raw = false) : takeSample s raw =
    judgeOverload (lowHookEdge (Machine.withWeigher s (sampled s raw))
      (acted (Machine.withWeigher s (sampled s raw)) (sampleNet s raw) (sampleFiltered s raw))) (sampleNet s raw) := by
  rw [← evaluateHook_eq, takeSample, if_neg (by simp [h])]
  rfl

/-- What a sample in range leaves alone. -/
theorem inRange_keeps {raw : Int} (h : saturated raw = false) : (takeSample s raw).inputs = s.inputs ∧
    (takeSample s raw).record = s.record ∧ (takeSample s raw).node = s.node ∧ (takeSample s raw).peers = s.peers ∧
    (takeSample s raw).now = s.now ∧ (takeSample s raw).travel.hoist = s.travel.hoist ∧
    (takeSample s raw).claim.joinWindow = s.claim.joinWindow := by
  rw [takeSample_inRange h]
  simp only [judgeOverload_keeps, lowHookEdge_keeps, acted_keeps]
  exact ⟨rfl, rfl, rfl, rfl, rfl, rfl, rfl⟩

/-- The yard after a sample in range at whose evaluation an act is handed on. -/
theorem inRange_yard {raw : Int} (h : saturated raw = false) {a : HookAct}
    (ha : (hookStep (Machine.withWeigher s (sampled s raw)) (sampleNet s raw)).act = some a) :
    SameYard (taskOf s (sampleNet s raw) a) (takeSample s raw) := by
  rw [takeSample_inRange h]
  have hacted : SameYard (taskOf s (sampleNet s raw) a)
      (acted (Machine.withWeigher s (sampled s raw)) (sampleNet s raw) (sampleFiltered s raw)) := by
    unfold acted
    rw [ha]
    exact (((SameYard.refl s).withWeigher _).withWeigher _).handOn a _ _
  refine hacted.trans ⟨?_, ?_, ?_, ?_, ?_, ?_, fun n hn => ?_⟩
  all_goals try simp [judgeOverload_keeps]
  simp only [List.mem_cons, List.not_mem_nil, or_false] at hn
  rw [judgeOverload_events _ (by omega), lowHookEdge_events _ (by omega) (by omega)]

/-- The events and the reasons after a sample in range. -/
theorem inRange_events {raw : Int} (h : saturated raw = false) :
    eventAt (takeSample s raw).port 3 =
      (if (hookStep (Machine.withWeigher s (sampled s raw)) (sampleNet s raw)).act = some .lift
        then (eventAt s.port 3).next (.lift (sampleNet s raw) (sampleFiltered s raw)) else eventAt s.port 3) ∧
    eventAt (takeSample s raw).port 4 =
      (if (hookStep (Machine.withWeigher s (sampled s raw)) (sampleNet s raw)).act = some .set
        then (eventAt s.port 4).next (.set (sampleNet s raw) (sampleFiltered s raw)) else eventAt s.port 4) := by
  rw [takeSample_inRange h]
  constructor
  · rw [judgeOverload_events _ (by simp), lowHookEdge_events _ (by simp) (by simp)]
    exact (acted_events _ _).1
  · rw [judgeOverload_events _ (by simp), lowHookEdge_events _ (by simp) (by simp)]
    exact (acted_events _ _).2.1

theorem inRange_reasons {raw : Int} (h : saturated raw = false) : (takeSample s raw).halt.reasons =
    if (hookStep (Machine.withWeigher s (sampled s raw)) (sampleNet s raw)).act = some .snag
      then { s.halt.reasons with snag := true }
    else if (hookStep (Machine.withWeigher s (sampled s raw)) (sampleNet s raw)).act = some .loadLost
      then { s.halt.reasons with loadLost := true } else s.halt.reasons := by
  rw [takeSample_inRange h]
  simp only [judgeOverload_keeps, lowHookEdge_keeps]
  exact acted_reasons _ _

end Sys2Proof.Machine

/-! SUPPORT. The weigher record after a sample in range, and the table of R125. -/

namespace Sys2Proof.Machine

variable {s t u : State}

/-- R119: a value joins the window; the oldest leaves a full one. -/
theorem joinWindow_eq {l : List Int} (h : l.length ≤ 8) (g : Int) :
    Machine.joinWindow l g = if l.length < 8 then l ++ [g] else l.drop 1 ++ [g] := by
  unfold Machine.joinWindow Config.windowCapacity
  split
  · rw [show l.length + 1 - 8 = 0 by omega, List.drop_zero]
  · rw [show l.length + 1 - 8 = 1 by omega, List.drop_append_of_le_length (by omega)]

/-- R116, R117, R119: the weigher record before the evaluation. -/
theorem sampled_eq (raw : Int) : sampled s raw = { s.weigher with
    converter := .armed, raw := some raw, timer := some (s.now + 100), sensorLost := false, overrange := false
    window := Machine.joinWindow (if s.weigher.sensorLost then [] else s.weigher.window) (grossOf s.conf raw)
    filtered := some (sampleFiltered s raw), settle := if s.weigher.sensorLost then 0 else s.weigher.settle } := rfl

theorem compared_weigher (s : State) (net : Int) :
    (compared s net).weigher = { s.weigher with overload := decide (s.conf.swl < net) } := rfl

theorem inRange_weigher {raw : Int} (h : saturated raw = false) :
    let e := hookStep (Machine.withWeigher s (sampled s raw)) (sampleNet s raw)
    (takeSample s raw).weigher = { sampled s raw with
      load := e.load, settle := e.settle, overload := decide (s.conf.swl < sampleNet s raw) } := by
  intro e
  rw [takeSample_inRange h]
  have keeps := acted_keeps (s := Machine.withWeigher s (sampled s raw)) (sampleNet s raw) (sampleFiltered s raw)
  have conf := (conf_of_record (lowHookEdge_keeps (acted (Machine.withWeigher s (sampled s raw)) (sampleNet s raw)
    (sampleFiltered s raw)) (Machine.withWeigher s (sampled s raw))).2.1).trans (conf_of_record keeps.2.1)
  have weigher : (lowHookEdge (Machine.withWeigher s (sampled s raw)) (acted (Machine.withWeigher s (sampled s raw))
      (sampleNet s raw) (sampleFiltered s raw))).weigher =
        (stepped (Machine.withWeigher s (sampled s raw)) (sampleNet s raw)).weigher := by
    simpa using keeps.2.2.2.2.2.2.2
  rw [(judgeOverload_keeps _).2.2.2.2.2.2.2.2.2.2.2, compared_weigher, conf, weigher]
  rfl

theorem inRange_overload {raw : Int} (h : saturated raw = false) : eventAt (takeSample s raw).port 10 =
    if s.conf.swl < sampleNet s raw ∧ s.weigher.overload = false then (eventAt s.port 10).next
      (.weightFault .overload false false true (some raw) (some (sampleNet s raw)) true) else eventAt s.port 10 := by
  have keeps := acted_keeps (s := Machine.withWeigher s (sampled s raw)) (sampleNet s raw) (sampleFiltered s raw)
  rw [takeSample_inRange h, judgeOverload_event]
  simp only [conf_of_record (lowHookEdge_keeps _ _).2.1, lowHookEdge_keeps]
  rw [conf_of_record keeps.2.1, keeps.2.2.2.2.2.2.2, lowHookEdge_events _ (by simp) (by simp), (acted_events _ _).2.2]
  rfl

/-- A sample in range at whose evaluation nothing is handed on. -/
theorem inRange_quiet {raw : Int} (h : saturated raw = false)
    (ha : (hookStep (Machine.withWeigher s (sampled s raw)) (sampleNet s raw)).act = none) :
    (takeSample s raw).tasks = s.tasks ∧ (takeSample s raw).store = s.store ∧ (takeSample s raw).bays = s.bays ∧
    (takeSample s raw).halt = s.halt := by
  rw [takeSample_inRange h]
  simp only [judgeOverload_keeps, lowHookEdge_keeps, acted, ha]
  exact ⟨rfl, rfl, rfl, rfl⟩

/-! ## The table of R125 -/

/-- R121: the classes of the crane. -/
theorem classOf_iff (b t : AxisState) :
    (classOf b t = .standing ↔ (b = .holding ∨ b = .parked) ∧ (t = .holding ∨ t = .parked)) ∧
    (classOf b t = .travelling ↔ ¬ ((b = .holding ∨ b = .parked) ∧ (t = .holding ∨ t = .parked)) ∧
      ((b = .moving ∨ b = .waiting) ∨ (t = .moving ∨ t = .waiting))) := by
  cases b <;> cases t <;> decide

section

variable {steady standing travelling : Prop} [Decidable steady] [Decidable standing] [Decidable travelling]
  {k : CraneClass} (hst : k = .standing ↔ standing) (htr : k = .travelling ↔ travelling)
  {p r net : Int} {n c : Nat}

/-- An evaluation as hook load state, settle counter and act. -/
def HookStep.parts (e : HookStep) : HookLoad × Nat × Option HookAct := (e.load, e.settle, e.act)

theorem HookStep.parts_mk (l : HookLoad) (n : Nat) (a : Option HookAct) : HookStep.parts ⟨l, n, a⟩ = (l, n, a) := rfl

theorem HookStep.parts_ite (q : Prop) [Decidable q] (e f : HookStep) :
    (if q then e else f).parts = if q then e.parts else f.parts := apply_ite _ _ _ _

include hst htr

omit [Decidable standing] [Decidable travelling] in
theorem class_cases : (k = .standing ∧ standing) ∨ (k = .travelling ∧ ¬ standing ∧ travelling) ∨
    (k = .inBetween ∧ ¬ standing ∧ ¬ travelling) := by
  rw [← hst, ← htr]
  cases k <;> simp

theorem evalEmpty_table : (evalEmpty p net (decide steady) k n).parts =
    if net < p then (.empty, n, none)
    else if standing then (.taking, if steady then 1 else 0, none)
    else if travelling then (.taking, 0, some .snag) else (.empty, n, none) := by
  obtain ⟨rfl, h⟩ | ⟨rfl, h, h'⟩ | ⟨rfl, h, h'⟩ := class_cases hst htr <;>
    simp [evalEmpty, firstCount, HookStep.parts_ite, HookStep.parts_mk, *]

theorem evalTaking_table : (evalTaking p c net (decide steady) k n).parts =
    if net < p then (.empty, 0, none)
    else if standing then
      (if ¬ steady then (.taking, 0, none)
      else if c ≤ n + 1 then (.loaded, 0, some .lift) else (.taking, n + 1, none))
    else if travelling then (.taking, 0, some .snag) else (.taking, 0, none) := by
  obtain ⟨rfl, h⟩ | ⟨rfl, h, h'⟩ | ⟨rfl, h, h'⟩ := class_cases hst htr <;>
    simp [evalTaking, HookStep.parts_ite, HookStep.parts_mk, *]

theorem evalLoaded_table : (evalLoaded r net (decide steady) k n).parts =
    if r < net then (.loaded, n, none)
    else if standing then (.giving, if steady then 1 else 0, none)
    else if travelling then (.empty, 0, some .loadLost) else (.loaded, n, none) := by
  obtain ⟨rfl, h⟩ | ⟨rfl, h, h'⟩ | ⟨rfl, h, h'⟩ := class_cases hst htr <;>
    simp [evalLoaded, firstCount, HookStep.parts_ite, HookStep.parts_mk, *]

theorem evalGiving_table : (evalGiving r c net (decide steady) k n).parts =
    if r < net then (.loaded, 0, none)
    else if standing then
      (if ¬ steady then (.giving, 0, none)
      else if c ≤ n + 1 then (.empty, 0, some .set) else (.giving, n + 1, none))
    else if travelling then (.empty, 0, some .loadLost) else (.giving, 0, none) := by
  obtain ⟨rfl, h⟩ | ⟨rfl, h, h'⟩ | ⟨rfl, h, h'⟩ := class_cases hst htr <;>
    simp [evalGiving, HookStep.parts_ite, HookStep.parts_mk, *]

end

end Sys2Proof.Machine

namespace Sys2Proof.Proofs

open Machine

/-- Settles O38: the sample's parts in the order of the pipeline, the table of R125 by the hook load state and the class of
the crane. -/
theorem sampleInRange : Obligations.SampleInRange := by
  intro s b hs hr hwin b1 b2 hc w c raw n g old window f net steady stands travels standing travelling k first hook hlow hhigh
  have hsat : saturated raw = false := by
    rw [Bool.eq_false_iff, ne_eq, saturated_iff, not_or]
    exact ⟨hlow, hhigh⟩
  have hold : old.length ≤ 8 := by
    simp only [old]
    split
    · simp
    · exact hwin
  have hwindow : (sampled s raw).window = window := joinWindow_eq hold g
  have hf : sampleFiltered s raw = f := by rw [sampleFiltered, hwindow]
  have hnet : sampleNet s raw = net := by rw [sampleNet, hf]
  have hpos : (0 : Int) < window.length := by
    have : 0 < window.length := by
      simp only [window]
      split <;> simp
    omega
  let v := withWeigher s (sampled s raw)
  have hsteady : stable c (sampled s raw) = decide steady := by
    rw [Bool.eq_iff_iff, decide_eq_true_eq, stable_iff, hwindow]
    exact and_iff_right rfl
  have hclass := classOf_iff s.travel.bridge.state s.travel.trolley.state
  have hhook : (hookStep v net).parts = hook := by
    simp only [hook]
    by_cases ht : w.tared = false
    · rw [if_pos ht]
      exact congrArg HookStep.parts (if_neg (by simpa [v, sampled_eq, withWeigher] using ht))
    · rw [if_neg ht, show hookStep v net = evalHook c w.load net (stable c (sampled s raw))
        (classOf s.travel.bridge.state s.travel.trolley.state) k from
          if_pos (by simpa [v, sampled_eq, withWeigher] using ht), hsteady]
      cases w.load with
      | empty => exact evalEmpty_table hclass.1 hclass.2
      | taking => exact evalTaking_table hclass.1 hclass.2
      | loaded => exact evalLoaded_table hclass.1 hclass.2
      | giving => exact evalGiving_table hclass.1 hclass.2
  have hload : (hookStep v net).load = hook.1 := congrArg Prod.fst hhook
  have hsettle : (hookStep v net).settle = hook.2.1 := congrArg (·.2.1) hhook
  have hact : (hookStep v net).act = hook.2.2 := congrArg (·.2.2) hhook
  obtain ⟨near, tie⟩ := roundDiv_nearest n (d := 65536) (by norm_num)
  obtain ⟨fnear, ftie⟩ := roundDiv_nearest window.sum hpos
  refine ⟨near, tie, fnear, ftie, _, exec_sample b hc, ?_⟩
  show (finish (takeSample s raw)).weigher = _ ∧ _
  have raws : rawCount b1 b2 b = raw := rfl
  obtain ⟨k1, k2, k3, k4, k5, k6, k7⟩ := inRange_keeps (s := s) hsat
  obtain ⟨lift, set⟩ := inRange_events (s := s) hsat
  have overload := inRange_overload (s := s) hsat
  have reasons := inRange_reasons (s := s) hsat
  have quiet := inRange_quiet (s := s) hsat
  have weigher := inRange_weigher (s := s) hsat
  simp only [hnet, hf] at lift set overload reasons quiet weigher
  rw [hact] at lift set reasons quiet
  simp only [finish_keeps, raws]
  refine ⟨?_, lift, set, overload, reasons, fun h => ?_, k3, k4, k2, k1, k5, k6, k7⟩
  · rw [weigher, hload, hsettle, ← hwindow, ← hf]
    rfl
  · obtain ⟨q1, q2, q3, q4⟩ := quiet h
    exact ⟨q1, congrArg (·.slots) q2, q3, q4⟩

end Sys2Proof.Proofs

/-! SUPPORT. Where a coil is recorded: the slot found by a test, and the cradles that name a coil made unnamed. -/

namespace Sys2Proof.Machine

variable {s t u : State}

/-! ## The listed entries of a canonical table -/

section

variable {α : Type} [DecidableEq α] {d : α}

/-- A canonical table lists exactly the values other than the default. -/
theorem mem_table {t : Table α} (h : tableWf d t = true) (n : Nat) (v : α) :
    (n, v) ∈ t ↔ v ≠ d ∧ tableGet d t n = v := by
  unfold tableWf at h
  suffices H : ∀ b, tableAbove d b t = true → ((n, v) ∈ t ↔ v ≠ d ∧ tableGet d t n = v) from H _ h
  clear h
  induction t with
  | nil =>
    intro b _
    simpa [tableGet] using fun hv => Ne.symm hv
  | cons e t ih =>
    intro b h
    obtain ⟨k, w⟩ := e
    simp only [tableAbove, Bool.and_eq_true, decide_eq_true_eq] at h
    obtain ⟨⟨-, hw⟩, ht⟩ := h
    rw [List.mem_cons, ih _ ht, Prod.mk.injEq, tableGet]
    by_cases hk : k = n
    · subst k
      rw [tableGet_below ht (Nat.le_refl n), if_pos rfl]
      constructor
      · rintro (⟨-, rfl⟩ | ⟨h1, h2⟩)
        · exact ⟨hw, rfl⟩
        · exact absurd h2.symm h1
      · exact fun h => .inl ⟨rfl, h.2.symm⟩
    · rw [if_neg hk]
      simp [Ne.symm hk]

end

/-! ## Slots found by a test -/

theorem findSlot_eq_none (h : tablesOk s = true) {p : Nat → SlotRecord → Bool} :
    findSlot s p = none ↔ ∀ n, slotAt s n ≠ .unknown → p n (slotAt s n) = false := by
  have wf := ((tablesOk_iff s).mp h).1
  simp only [findSlot, Option.map_eq_none_iff, List.find?_eq_none, Prod.forall, mem_table wf, Bool.not_eq_true]
  refine ⟨fun k n hn => k n _ ⟨hn, rfl⟩, fun k n r hr => ?_⟩
  obtain ⟨hr, rfl⟩ := hr
  exact k n hr

theorem findSlot_passes (h : tablesOk s = true) {p : Nat → SlotRecord → Bool} {n : Nat} (hn : findSlot s p = some n) :
    slotAt s n ≠ .unknown ∧ p n (slotAt s n) = true := by
  have wf := ((tablesOk_iff s).mp h).1
  obtain ⟨⟨k, r⟩, hf, rfl⟩ := Option.map_eq_some_iff.mp hn
  obtain ⟨hr, hk⟩ := (mem_table wf k r).mp (List.mem_of_find?_eq_some hf)
  have := List.find?_some hf
  change slotAt s k = r at hk
  rw [hk]
  exact ⟨hr, this⟩

/-- The one slot that passes a test is the slot found. -/
theorem findSlot_unique (h : tablesOk s = true) {p : Nat → SlotRecord → Bool} {m : Nat} (hm : slotAt s m ≠ .unknown)
    (hp : p m (slotAt s m) = true) (hj : ∀ j, j ≠ m → p j (slotAt s j) = false) : findSlot s p = some m := by
  cases hf : findSlot s p with
  | none => exact absurd ((findSlot_eq_none h).mp hf m hm) (by simp [hp])
  | some n =>
    by_contra hne
    have := hj n fun e => hne (by rw [e])
    rw [(findSlot_passes h hf).2] at this
    cases this

/-! ## Cradles made unnamed -/

/-- R185: a cradle record that names the coil made unnamed. -/
def unnamed (coil : Nat) : CradleRecord → CradleRecord
  | .loaded (some c) w => if c = coil then .loaded none w else .loaded (some c) w
  | k => k

theorem unnamed_other {coil : Nat} {k : CradleRecord} (h : k.coilOn ≠ some coil) : unnamed coil k = k := by
  cases k with
  | loaded c w =>
    cases c with
    | none => rfl
    | some c => exact if_neg fun e => h (congrArg some e)
  | empty => rfl
  | reserved _ => rfl

theorem unnameIn_eq (b : BayRecord) (coil : Nat) : unnameIn b coil = { b with
    load := b.load.map fun l => { l with cradles := l.cradles.map (unnamed coil) } } := by
  unfold unnameIn
  congr 2
  funext l
  congr 2
  funext k
  cases k with
  | loaded c w => cases c <;> rfl
  | empty => rfl
  | reserved _ => rfl

theorem unnameIn_cradles (b : BayRecord) (coil : Nat) : (unnameIn b coil).cradles = b.cradles.map (unnamed coil) := by
  rw [unnameIn_eq]
  unfold BayRecord.cradles
  cases b.load <;> rfl

theorem cradleAt_unnameIn (b : BayRecord) (coil i : Nat) : cradleAt (unnameIn b coil) i = unnamed coil (cradleAt b i) := by
  unfold cradleAt
  rw [unnameIn_cradles, List.getD_eq_getElem?_getD, List.getD_eq_getElem?_getD, List.getElem?_map]
  cases b.cradles[i - 1]? <;> rfl

/-- A bay that does not name the coil has nothing to make unnamed. -/
theorem unnameIn_idle {b : BayRecord} {coil : Nat} (h : ∀ k ∈ b.cradles, k.coilOn ≠ some coil) : unnameIn b coil = b := by
  rw [unnameIn_eq]
  unfold BayRecord.cradles at h
  obtain ⟨st, load, an, un⟩ := b
  cases load with
  | none => rfl
  | some l =>
    have same : l.cradles.map (unnamed coil) = l.cradles := 
      (List.map_congr_left fun k hk => unnamed_other (h k hk)).trans (List.map_id _)
    simp only [Option.map_some, same]

theorem bayHoldsCoil_iff (s : State) (b coil : Nat) :
    bayHoldsCoil s b coil = true ↔ ∃ k ∈ (s.bay b).cradles, k.coilOn = some coil := by
  simp [bayHoldsCoil]

theorem unname_bay (s : State) (coil b c : Nat) :
    (unname s coil b).bay c = if c = b then unnameIn (s.bay b) coil else s.bay c := by
  split
  · subst c
    by_cases h : b ≤ 3
    · exact withBay_bay _ _ h
    · rw [bay_beyond (by omega), bay_beyond (by omega)]
      rfl
  · exact withBay_other _ _ ‹_›

/-- R185: the bays of a list made unnamed for a coil. -/
def unnameBays (s : State) (coil : Nat) (l : List Nat) : State :=
  l.foldl (fun t b => if bayHoldsCoil t b coil then unname t coil b else t) s

/-- Making cradles unnamed writes the bay records alone. -/
theorem unnameBays_eq (coil : Nat) : ∀ (l : List Nat) (s : State), ∃ b, unnameBays s coil l = { s with bays := b }
  | [], s => ⟨s.bays, rfl⟩
  | b :: l, s => by
    unfold unnameBays
    rw [List.foldl_cons]
    obtain ⟨c, hc⟩ := unnameBays_eq coil l (if bayHoldsCoil s b coil then unname s coil b else s)
    unfold unnameBays at hc
    rw [hc]
    split <;> exact ⟨c, rfl⟩

theorem unnameBays_bay (coil c : Nat) : ∀ (l : List Nat) (s : State), l.Nodup →
    (unnameBays s coil l).bay c = if c ∈ l then unnameIn (s.bay c) coil else s.bay c
  | [], s, _ => by simp [unnameBays]
  | b :: l, s, hl => by
    obtain ⟨hb, hl⟩ := List.nodup_cons.mp hl
    have first : (if bayHoldsCoil s b coil then unname s coil b else s).bay c =
        if c = b then unnameIn (s.bay c) coil else s.bay c := by
      split
      · rw [unname_bay]
        split
        · subst c; rfl
        · rfl
      · rename_i h
        rw [bayHoldsCoil_iff] at h
        split
        · subst c
          exact (unnameIn_idle fun k hk e => h ⟨k, hk, e⟩).symm
        · rfl
    have rest := unnameBays_bay coil c l (if bayHoldsCoil s b coil then unname s coil b else s) hl
    rw [first] at rest
    unfold unnameBays at *
    rw [List.foldl_cons, rest]
    by_cases hc : c = b
    · subst c
      simp [hb]
    · simp [hc]

/-- R160, R185: where no bay names the coil, nothing is made unnamed. -/
theorem unnameBays_idle {coil : Nat} : ∀ {l : List Nat} {s : State}, (∀ b ∈ l, bayHoldsCoil s b coil = false) →
    unnameBays s coil l = s
  | [], _, _ => rfl
  | b :: l, s, h => by
    unfold unnameBays
    rw [List.foldl_cons, if_neg (by simp [h b (by simp)])]
    exact unnameBays_idle fun c hc => h c (by simp [hc])

end Sys2Proof.Machine

/-! SUPPORT. What a LIFT and a SET settle, and what the end of a nest leaves on the hook (R158 to R170). -/

namespace Sys2Proof.Machine

variable {s t u : State}

/-! ## The nest aborted at its top -/

theorem unwind_hook (s : State) (c : AbortCause) (d : Nat) : (unwind s c d).tasks.hookCoil = s.tasks.hookCoil ∧
    (unwind s c d).tasks.loose = s.tasks.loose ∧ (unwind s c d).tasks.unplaced = s.tasks.unplaced := by
  rw [unwind, (unwindTasks_keeps ..).1]
  exact ⟨rfl, rfl, rfl⟩

theorem unwind_position (s : State) (c : AbortCause) (d : Nat) (a : Axis) : (unwind s c d).position a = s.position a :=
  position_of_inputs (unwind_work s c d).inputs a

/-- R168: an abort at the top task, with what the hook records are left with. -/
theorem abortAtTop_aborted (h : tablesOk s = true) {k : Task} (hk : s.tasks.nest.getLast? = some k) (c : AbortCause)
    (x : AbortDetail) {f : State → State} (hf : writesHook f) :
    let u := abortAtTop s c x f
    let v := (f (unwind s c s.tasks.nest.length)).tasks
    nestAborted s u c k.number s.tasks.nest.length v.hookCoil.isSome v.loose x ∧ u.tasks.hookCoil = v.hookCoil ∧
      u.tasks.unplaced = v.unplaced := by
  have hne : s.tasks.nest ≠ [] := by
    intro e
    rw [e] at hk
    cases hk
  have top : abortAtTop s c x f = abortNest s c k.number s.tasks.nest.length x f := by rw [abortAtTop, hk]
  rw [top]
  exact ⟨abortNest_aborted h hne c _ _ x hf, rfl, rfl⟩

/-- R166: a load lost with a nest or without leaves the hook records clear. -/
theorem dropLoad_gone (s : State) : loadGone s (dropLoad s) .loadLost none := by
  unfold loadGone dropLoad
  cases hk : s.tasks.hookCoil with
  | some k => exact ⟨rfl, rfl, rfl⟩
  | none =>
    cases hl : s.tasks.loose with
    | true => exact ⟨hk, rfl, rfl⟩
    | false => exact ⟨hk, hl, rfl⟩

theorem dropLoad_eq (s : State) : dropLoad s = { s with tasks := { s.tasks with
    hookCoil := none, loose := false, unplaced := (dropLoad s).tasks.unplaced } } := by
  obtain ⟨k, l, w, h⟩ := writesHook_drop s
  obtain ⟨hook, loose, -⟩ := dropLoad_gone s
  rw [h] at hook loose ⊢
  subst hook loose
  rfl

theorem loadGone_congr {way : UnplacedWay} {net : Option Int} (h : loadGone t u way net)
    (hh : t.tasks.hookCoil = s.tasks.hookCoil) (hl : t.tasks.loose = s.tasks.loose)
    (hu : t.tasks.unplaced = s.tasks.unplaced) (hp : ∀ a, t.position a = s.position a) : loadGone s u way net := by
  simpa only [loadGone, hh, hl, hu, hp] using h

/-! ## The lift settled (R160) -/

/-- R160 step 1: the source settled. -/
def liftStart (s : State) : Place → State
  | .slot n => settleSource s n
  | _ => s

theorem liftStart_work (s : State) (p : Place) : StoreWork s (liftStart s p) := by
  cases p with
  | slot n => exact (changeSlot_work s n _).trans (joinOutbox_work _ _)
  | _ => exact .refl s

theorem liftStart_port (s : State) (p : Place) : (liftStart s p).port = s.port := by
  cases p <;> simp [liftStart, settleSource]

theorem liftStart_slotAt (s : State) (p : Place) (m : Nat) :
    slotAt (liftStart s p) m = if p = .slot m then .free else slotAt s m := by
  cases p with
  | slot n =>
    rw [liftStart, settleSource, joinOutbox_slotAt]
    split
    · rename_i e
      cases e
      exact changeSlot_listed s m (by simp)
    · rename_i e
      exact changeSlot_other (fun h => e (by rw [h])) _
  | _ => rfl

theorem liftStart_tablesOk (h : tablesOk s = true) (p : Place) : tablesOk (liftStart s p) = true := by
  cases p with
  | slot n =>
    have changed := changeSlot_tablesOk h n .free
    obtain ⟨l, e⟩ := joinOutbox_eq (changeSlot s n .free) ⟨n, .free⟩
    rw [liftStart, settleSource, e]
    exact changed
  | _ => exact h

theorem liftStart_outbox (s : State) (p : Place) :
    (∀ n, p = .slot n → (liftStart s p).store.outbox = s.store.outbox ++ [⟨n, .free⟩]) ∧
    ((∀ n, p ≠ .slot n) → (liftStart s p).store.outbox = s.store.outbox) := by
  constructor
  · rintro n rfl
    simp [liftStart, settleSource]
  · intro h
    cases p with
    | slot n => exact absurd rfl (h n)
    | _ => rfl

/-- R160 step 3: the slot that records the coil elsewhere, marked. -/
def clashMarked (s : State) (coil : Nat) (p : Place) : State :=
  match findSlot s fun n r => r.isOccupied && r.coilIn == some coil && !(p == .slot n) with
  | some n => markSuspect s (slotRow n) .coilClash none
  | none => s

theorem clashMarked_none (h : tablesOk s = true) {coil : Nat} {p : Place}
    (hc : ∀ m, p ≠ .slot m → (slotAt s m).coilIn ≠ some coil) : clashMarked s coil p = s := by
  have none : (findSlot s fun n r => r.isOccupied && r.coilIn == some coil && !(p == .slot n)) = none := by
    rw [findSlot_eq_none h]
    intro m _
    by_cases hp : p = .slot m
    · simp [hp]
    · simp [hc m hp]
  rw [clashMarked, none]

theorem clashMarked_some (h : tablesOk s = true) {coil m c : Nat} {w : Option Int} {p : Place}
    (hm : slotAt s m = .occupied coil w c) (hp : p ≠ .slot m)
    (hc : ∀ j, j ≠ m → p ≠ .slot j → (slotAt s j).coilIn ≠ some coil) :
    clashMarked s coil p = markSuspect s (slotRow m) .coilClash none := by
  have found : (findSlot s fun n r => r.isOccupied && r.coilIn == some coil && !(p == .slot n)) = some m := by
    refine findSlot_unique h (by simp [hm]) (by simp [hm, hp, SlotRecord.isOccupied, SlotRecord.coilIn]) fun j hj => ?_
    by_cases hpj : p = .slot j
    · simp [hpj]
    · simp [hc j hj hpj]
  rw [clashMarked, found]

theorem clashMarked_work (s : State) (coil : Nat) (p : Place) : StoreWork s (clashMarked s coil p) := by
  unfold clashMarked
  split
  · exact markSuspect_work _ _ _ _
  · exact .refl s

theorem clashMarked_events (s : State) (coil : Nat) (p : Place) {n : Nat} (h : n ≠ 13) :
    eventAt (clashMarked s coil p).port n = eventAt s.port n := by
  unfold clashMarked
  split
  · rw [markSuspect_events, if_neg h]
  · rfl

theorem clashMarked_outbox (s : State) (coil : Nat) (p : Place) : (clashMarked s coil p).store.outbox = s.store.outbox := by
  unfold clashMarked
  split <;> rfl

/-- A slot held after others were freed was held before. -/
theorem heldSlot_mono (hc : t.conf = s.conf) (h : ∀ n, (slotAt t n).reserved = true → (slotAt s n).reserved = true) {n : Nat}
    (hn : heldSlot s n = false) : heldSlot t n = false := by
  simp only [heldSlot, Bool.or_eq_false_iff, Bool.and_eq_false_iff, Bool.not_eq_false', List.any_eq_false, hc] at hn ⊢
  obtain ⟨h1, h2⟩ := hn
  refine ⟨Bool.eq_false_iff.mpr fun e => ?_, h2.imp id fun k m hm e => k m hm (h m e)⟩
  rw [h n e] at h1
  cases h1

/-- R160 step 2: the first journal entry settled where the source is a slot. -/
def liftedJournal (k : Task) : List JournalEntry :=
  match k.source with
  | .slot _ => settleFirst k.journal
  | _ => k.journal

/-- The state of a lift before its task is replaced. -/
def lifted (s : State) (k : Task) (net : Int) : State :=
  unnameBays (clashMarked (withHookCoil (liftStart s k.source) (some ⟨k.coil, net, k.cls⟩)) k.coil k.source) k.coil [0, 1, 2, 3]

theorem settleLift_eq (s : State) (k : Task) (net : Int) :
    settleLift s k net = putTop (lifted s k net) { k with carrying := true, journal := liftedJournal k } := by
  unfold settleLift lifted liftedJournal
  cases k.source <;> rfl

/-- The lifted state is the marked one but for the bay records. -/
theorem lifted_bays (s : State) (k : Task) (net : Int) : ∃ b, lifted s k net =
    { clashMarked (withHookCoil (liftStart s k.source) (some ⟨k.coil, net, k.cls⟩)) k.coil k.source with bays := b } :=
  unnameBays_eq _ _ _

theorem lifted_tasks (s : State) (k : Task) (net : Int) :
    (lifted s k net).tasks = { s.tasks with hookCoil := some ⟨k.coil, net, k.cls⟩ } := by
  obtain ⟨b, e⟩ := lifted_bays s k net
  rw [e]
  refine (clashMarked_work _ _ _).tasks.trans ?_
  show ({ (liftStart s k.source).tasks with hookCoil := _ } : Tasks) = _
  rw [(liftStart_work s k.source).tasks]

theorem lifted_bay (s : State) (k : Task) (net : Int) (b : Nat) : (lifted s k net).bay b = unnameIn (s.bay b) k.coil := by
  have before : (clashMarked (withHookCoil (liftStart s k.source) (some ⟨k.coil, net, k.cls⟩)) k.coil k.source).bay b =
      s.bay b := by
    unfold State.bay
    rw [(clashMarked_work _ _ _).bays]
    exact congrArg (bayAt · b) (liftStart_work s k.source).bays
  rw [lifted, unnameBays_bay _ _ _ _ (by decide), before]
  split
  · rfl
  · rename_i h
    have hb : 3 < b := by
      by_contra hb
      have : b = 0 ∨ b = 1 ∨ b = 2 ∨ b = 3 := by omega
      simp [this] at h
    rw [bay_beyond hb]
    rfl

section

variable (s) (k : Task) (net : Int)

theorem settleLift_tasks : (settleLift s k net).tasks = { s.tasks with
    hookCoil := some ⟨k.coil, net, k.cls⟩
    nest := s.tasks.nest.dropLast ++ [{ k with carrying := true, journal := liftedJournal k }] } := by
  rw [settleLift_eq]
  show ({ (lifted s k net).tasks with nest := (lifted s k net).tasks.nest.dropLast ++ [_] } : Tasks) = _
  rw [lifted_tasks]

theorem settleLift_store : (settleLift s k net).store =
    (clashMarked (withHookCoil (liftStart s k.source) (some ⟨k.coil, net, k.cls⟩)) k.coil k.source).store := by
  obtain ⟨b, e⟩ := lifted_bays s k net
  rw [settleLift_eq, putTop, e]

theorem settleLift_port : (settleLift s k net).port =
    (clashMarked (withHookCoil (liftStart s k.source) (some ⟨k.coil, net, k.cls⟩)) k.coil k.source).port := by
  obtain ⟨b, e⟩ := lifted_bays s k net
  rw [settleLift_eq, putTop, e]

theorem settleLift_outbox : (settleLift s k net).store.outbox = (liftStart s k.source).store.outbox := by
  rw [settleLift_store, clashMarked_outbox]
  rfl

theorem settleLift_event {n : Nat} (h : n ≠ 13) : eventAt (settleLift s k net).port n = eventAt s.port n := by
  rw [settleLift_port, clashMarked_events _ _ _ h]
  exact congrArg (eventAt · n) (liftStart_port s k.source)

theorem settleLift_cradle (b i : Nat) :
    cradleAt ((settleLift s k net).bay b) i = unnamed k.coil (cradleAt (s.bay b) i) := by
  rw [settleLift_eq, ← cradleAt_unnameIn, ← lifted_bay s k net b]
  rfl

variable {s k}

/-- R160 step 3: a coil recorded nowhere else. -/
theorem settleLift_quiet (h : tablesOk s = true) (hc : ∀ m, k.source ≠ .slot m → (slotAt s m).coilIn ≠ some k.coil) :
    (∀ m, slotAt (settleLift s k net) m = slotAt (liftStart s k.source) m) ∧
      eventAt (settleLift s k net).port 13 = eventAt s.port 13 := by
  have quiet := clashMarked_none (s := withHookCoil (liftStart s k.source) (some ⟨k.coil, net, k.cls⟩))
    (coil := k.coil) (p := k.source) (liftStart_tablesOk h k.source) fun m hm => by
      show (slotAt (liftStart s k.source) m).coilIn ≠ _
      rw [liftStart_slotAt, if_neg hm]
      exact hc m hm
  refine ⟨fun m => ?_, ?_⟩
  · rw [slotAt_of_store (settleLift_store s k net), quiet]
    rfl
  · rw [settleLift_port, quiet]
    exact congrArg (eventAt · 13) (liftStart_port s k.source)

/-- R160 step 3: a coil recorded in one other slot, whose row is marked. -/
theorem settleLift_clash (h : tablesOk s = true) {m c : Nat} {w : Option Int} (hm : slotAt s m = .occupied k.coil w c)
    (hp : k.source ≠ .slot m) (hheld : heldSlot s m = false) (hrow : m ∈ rowSlots s.conf (m / 16))
    (hc : ∀ j, j ≠ m → k.source ≠ .slot j → (slotAt s j).coilIn ≠ some k.coil) :
    slotAt (settleLift s k net) m = .unknown ∧ rowAt (settleLift s k net) (m / 16) = ⟨false, false⟩ ∧
      eventAt (settleLift s k net).port 13 = (eventAt s.port 13).next (.storeSuspect .coilClash (some (m / 16)) 1 none) := by
  let v := withHookCoil (liftStart s k.source) (some ⟨k.coil, net, k.cls⟩)
  have tables : tablesOk v = true := liftStart_tablesOk h k.source
  have slots (j : Nat) : slotAt v j = if k.source = .slot j then .free else slotAt s j := liftStart_slotAt s k.source j
  have marked : clashMarked v k.coil k.source = markSuspect v (m / 16) .coilClash none := by
    refine clashMarked_some (m := m) (w := w) (c := c) tables (by rw [slots, if_neg hp, hm]) hp fun j hj hpj => ?_
    rw [slots, if_neg hpj]
    exact hc j hj hpj
  have conf : v.conf = s.conf := (liftStart_work s k.source).conf
  have held : heldSlot v m = false := by
    refine heldSlot_mono conf (fun n hn => ?_) hheld
    rw [slots] at hn
    split at hn
    · cases hn
    · exact hn
  obtain ⟨m1, m2, m3, m4, m5⟩ := markSuspect_marked tables (m / 16) .coilClash none
  refine ⟨?_, ?_, ?_⟩
  · rw [slotAt_of_store (settleLift_store s k net), marked, m1 m (by rw [conf]; exact hrow), held]
    rfl
  · rw [rowAt_of_store (settleLift_store s k net), marked]
    exact m3
  · rw [settleLift_port, marked, m5]
    exact congrArg (fun p => (eventAt p 13).next _) (liftStart_port s k.source)

end

/-! ## The commit (R162) -/

/-- The weight of the hook coil record, 0 without one. -/
def liftWeight (s : State) : Int := (s.tasks.hookCoil.map (·.weight)).getD 0

/-- R162 step 1: the destination settled. -/
def placed (s : State) (k : Task) : State :=
  match k.dest with
  | .slot n => settleDestination s n k.coil k.cls (liftWeight s)
  | .cradle b i => settleCradle s b i k.coil (liftWeight s)
  | _ => s

theorem settleCradle_tasks (s : State) (b i coil : Nat) (w : Int) : (settleCradle s b i coil w).tasks = s.tasks := by
  unfold settleCradle
  dsimp only
  split
  · rfl
  · split
    · exact (ownBayChange_keeps s b _).2.1
    · exact (ownBayChange_keeps s b _).2.1

theorem settleCradle_event (s : State) (b i coil : Nat) (w : Int) {n : Nat} (h : n ≠ 9) :
    eventAt (settleCradle s b i coil w).port n = eventAt s.port n := by
  unfold settleCradle
  dsimp only
  split
  · rfl
  · split
    · rw [eventAt_raise_other _ _ h, (ownBayChange_keeps s b _).2.2.1]
    · rw [(ownBayChange_keeps s b _).2.2.1]

/-- R181: a cradle loaded, with the bay full or not. -/
theorem settleCradle_eq {b i coil : Nat} {w : Int} {l : BayLoad} (hl : (s.bay b).load = some l) :
    let m : BayLoad := ⟨l.trailer, l.remaining - 1, l.cradles.set (i - 1) (.loaded (some coil) w)⟩
    let v := ownBayChange s b { s.bay b with load := some m, state := if m.remaining = 0 then .closed else (s.bay b).state }
    settleCradle s b i coil w = if m.remaining = 0 then raiseEvent v (.bayComplete b (m.cradles.countP CradleRecord.isLoaded)
      (committedLoads m).axle (committedLoads m).kingpin (committedLoads m).payload) else v := by
  intro m v
  unfold settleCradle
  simp only [putCradle, hl, Option.map_some, beq_iff_eq]
  rfl

/-- R35: the notice of a bay changed is queued as in the state before. -/
theorem ownBayChange_link (s : State) (b : Nat) (r : BayRecord) :
    (ownBayChange s b r).link = (offer s (.bayNotice b)).link := by
  unfold ownBayChange bayChanged offer
  rw [apply_ite State.link, apply_ite State.link]
  rfl

theorem placed_tasks (s : State) (k : Task) : (placed s k).tasks = s.tasks := by
  unfold placed
  split
  · exact (joinOutbox_work _ _).tasks.trans (changeSlot_work s _ _).tasks
  · exact settleCradle_tasks s _ _ _ _
  · rfl

theorem placed_event (s : State) (k : Task) {n : Nat} (h : n ≠ 9) : eventAt (placed s k).port n = eventAt s.port n := by
  unfold placed
  split
  · simp [settleDestination]
  · exact settleCradle_event s _ _ _ _ h
  · rfl

/-- The task records after a commit. -/
def committedTasks (s : State) (k : Task) : Tasks :=
  { s.tasks with
    nest := s.tasks.nest.dropLast, hookCoil := none, outcomes := (⟨k.number, k.kind, none⟩ :: s.tasks.outcomes).take 3 }

/-- R162: a commit, with the destination settled, the task gone and TASK_DONE raised. -/
theorem commitTask_eq (s : State) (k : Task) : commitTask s k =
    raiseEvent { placed s k with tasks := committedTasks (placed s k) k }
      (.taskDone k.number k.kind s.tasks.nest.length k.coil k.dest (liftWeight s)) := by
  have last (v : State) (d : Detail) : { raiseEvent (addOutcome (withHookCoil v none) ⟨k.number, k.kind, none⟩) d with
      tasks := { (raiseEvent (addOutcome (withHookCoil v none) ⟨k.number, k.kind, none⟩) d).tasks with
        nest := v.tasks.nest.dropLast } } = raiseEvent { v with tasks := committedTasks v k } d := rfl
  rw [← last]
  unfold commitTask placed liftWeight
  cases k.dest <;> dsimp only <;> rfl

theorem commitTask_tasks (s : State) (k : Task) : (commitTask s k).tasks = committedTasks s k := by
  rw [commitTask_eq]
  show committedTasks (placed s k) k = _
  rw [committedTasks, placed_tasks, committedTasks]

theorem commitTask_store (s : State) (k : Task) : (commitTask s k).store = (placed s k).store := by rw [commitTask_eq]; rfl

theorem commitTask_bay (s : State) (k : Task) (b : Nat) : (commitTask s k).bay b = (placed s k).bay b := by
  rw [commitTask_eq]; rfl

theorem commitTask_event (s : State) (k : Task) (n : Nat) : eventAt (commitTask s k).port n =
    if n = 1 then (eventAt s.port 1).next (.taskDone k.number k.kind s.tasks.nest.length k.coil k.dest (liftWeight s))
    else eventAt (placed s k).port n := by
  rw [commitTask_eq, eventAt_raise]
  show (if n = 1 then (eventAt (placed s k).port n).next _ else _) = _
  split
  · subst n
    rw [placed_event s k (by simp)]
  · rfl

/-- R162: a coil set down in a slot. -/
theorem commitTask_slot {k : Task} {n : Nat} (hd : k.dest = .slot n) :
    slotAt (commitTask s k) n = .occupied k.coil (some (liftWeight s)) k.cls ∧
      (∀ m, m ≠ n → slotAt (commitTask s k) m = slotAt s m) ∧ (commitTask s k).bays = s.bays ∧
      (commitTask s k).store.outbox = s.store.outbox ++ [⟨n, .occupied k.coil (some (liftWeight s)) k.cls⟩] := by
  have at_dest : placed s k = settleDestination s n k.coil k.cls (liftWeight s) := by rw [placed, hd]
  have slots := slotAt_of_store (commitTask_store s k)
  refine ⟨?_, fun m hm => ?_, ?_, ?_⟩
  · rw [slots, at_dest, settleDestination, joinOutbox_slotAt, changeSlot_listed s n (by simp)]
  · rw [slots, at_dest, settleDestination, joinOutbox_slotAt, changeSlot_other hm]
  · rw [commitTask_eq]
    show (placed s k).bays = _
    rw [at_dest, settleDestination, (joinOutbox_work _ _).bays, (changeSlot_work s n _).bays]
  · rw [commitTask_store, at_dest, settleDestination, (joinOutbox_keeps _ _).2.2.2.1, (changeSlot_keeps s n _).1]

/-- R162, R181: a coil set down in a cradle. -/
theorem commitTask_cradle {k : Task} {b i : Nat} (hd : k.dest = .cradle b i) {l : BayLoad} (hl : (s.bay b).load = some l) :
    let m : BayLoad := ⟨l.trailer, l.remaining - 1, l.cradles.set (i - 1) (.loaded (some k.coil) (liftWeight s))⟩
    let full := l.remaining - 1 = 0
    let u := commitTask s k
    u.bay b = { s.bay b with
      announcer := some .own, load := some m, state := if full then .closed else (s.bay b).state } ∧
    (∀ c, c ≠ b → u.bay c = s.bay c) ∧ u.store = s.store ∧ u.link = (offer s (.bayNotice b)).link ∧
    eventAt u.port 9 = (if full then (eventAt s.port 9).next (.bayComplete b
      (m.cradles.countP CradleRecord.isLoaded) (committedLoads m).axle (committedLoads m).kingpin
      (committedLoads m).payload) else eventAt s.port 9) := by
  intro m full u
  let r : BayRecord := { s.bay b with load := some m, state := if full then .closed else (s.bay b).state }
  have hb : b ≤ 3 := by
    by_contra hb
    rw [bay_beyond (by omega)] at hl
    cases hl
  have at_dest : placed s k = if full then raiseEvent (ownBayChange s b r) (.bayComplete b
      (m.cradles.countP CradleRecord.isLoaded) (committedLoads m).axle (committedLoads m).kingpin
      (committedLoads m).payload) else ownBayChange s b r := by
    rw [placed, hd]
    exact settleCradle_eq hl
  have rest : (placed s k).bays = (ownBayChange s b r).bays ∧ (placed s k).store = (ownBayChange s b r).store ∧
      (placed s k).link = (ownBayChange s b r).link := by
    rw [at_dest]
    split <;> exact ⟨rfl, rfl, rfl⟩
  obtain ⟨bays, store, link⟩ := rest
  have bay (c : Nat) : u.bay c = (ownBayChange s b r).bay c := (commitTask_bay s k c).trans (congrArg (bayAt · c) bays)
  refine ⟨?_, fun c hc => ?_, ?_, ?_, ?_⟩
  · rw [bay, ownBayChange_same, if_pos hb]
  · rw [bay, ownBayChange_other hc]
  · rw [show u.store = _ from commitTask_store s k, store, (ownBayChange_keeps s b r).1]
  · rw [show u = _ from commitTask_eq s k]
    exact link.trans (ownBayChange_link s b r)
  · rw [show eventAt u.port 9 = _ from commitTask_event s k 9, if_neg (by simp), at_dest]
    have port : (ownBayChange s b r).port = s.port := (ownBayChange_keeps s b r).2.2.1
    split
    · rw [eventAt_raise, if_pos (by rfl), port]
    · rw [port]

end Sys2Proof.Machine

namespace Sys2Proof.Proofs

open Machine

/-- Settles O45: the sample's yard is that of the Task Engine's work (`inRange_yard`), and that work is stated case by case of
the nest. -/
theorem liftAndSet : Obligations.LiftAndSet := by
  refine ⟨fun s b act net filtered hs hr hands => ?_, fun s net h => ?_⟩
  · intro u
    obtain ⟨b1, b2, hc, hsat, tared, hfil, hnet, hact⟩ := hands
    have hf : sampleFiltered s (rawCount b1 b2 b) = filtered := Option.some.inj hfil
    have hn : sampleNet s (rawCount b1 b2 b) = net := by rw [sampleNet, hf, hnet]; rfl
    have step : (hookStep (withWeigher s (sampled s (rawCount b1 b2 b))) net).act = some act := by
      rw [← hact]
      exact congrArg HookStep.act (if_pos tared)
    have yard := inRange_yard (s := s) (a := act) hsat (by rw [hn]; exact step)
    obtain ⟨lift, set⟩ := inRange_events (s := s) hsat
    have reasons := inRange_reasons (s := s) hsat
    rw [hn, step] at reasons lift set
    rw [hf] at lift set
    have hu : u = taskOf s net act := by cases act <;> rfl
    rw [hu, ← hn]
    simp only [Option.some.injEq] at lift set reasons
    refine ⟨_, exec_sample b hc, ?_⟩
    simp only [finish_keeps]
    refine ⟨yard.tasks, yard.slots, yard.outbox, yard.bays, yard.events, by rw [hn]; exact lift, by rw [hn]; exact set,
      fun h => ?_, fun h => ?_⟩
    · rw [reasons, if_pos h]
    · subst h
      rw [reasons]
      rfl
  · intro x y
    refine ⟨fun hn => ?_, fun t ht => ?_⟩
    · have top : s.tasks.nest.getLast? = none := by simp [hn]
      refine ⟨by rw [taskLift, top]; rfl, by rw [taskSnag, abortAtTop, top], fun hk hl => ?_, fun k hk => ?_, fun hk hl => ?_, ?_⟩
      · rw [taskSet, top]
        simp [setWithoutTask, hk, hl]
      · rw [taskSet, top]
        simp only [setWithoutTask, hk]
        rfl
      · rw [taskSet, top]
        rw [setWithoutTask, hk]
        exact if_pos hl
      · rw [taskLoadLost, hn]
        exact ⟨dropLoad_gone s, dropLoad_eq s⟩
    · intro below aborted held
      have position (c : AbortCause) (d : Nat) (a : Axis) := unwind_position s c d a
      have hook (c : AbortCause) := unwind_hook s c s.tasks.nest.length
      have loosened (c : AbortCause) (e : AbortDetail) :
          aborted (abortAtTop s c e fun u => withLoose u true) c held true e := by
        have done := (abortAtTop_aborted h ht c e (writesHook_loose true)).1
        change nestAborted _ _ _ _ _ (unwind s c s.tasks.nest.length).tasks.hookCoil.isSome true e at done
        rwa [(hook c).1] at done
      have hne : s.tasks.nest.isEmpty = false := by
        cases hn : s.tasks.nest with
        | nil => rw [hn] at ht; cases ht
        | cons _ _ => rfl
      refine ⟨fun hc => ?_, fun hc => ?_, ?_, ?_, fun hc => ?_, fun hc => ?_⟩
      · simp only [taskLift, ht, hc, if_true]
      · simp [taskSet, ht, hc]
      · obtain ⟨done, hooks, place⟩ := abortAtTop_aborted h ht .snag .none writesHook_id
        change nestAborted _ _ _ _ _ (unwind s .snag s.tasks.nest.length).tasks.hookCoil.isSome
          (unwind s .snag s.tasks.nest.length).tasks.loose _ at done
        rw [(hook .snag).1, (hook .snag).2.1] at done
        exact ⟨done, hooks.trans (hook .snag).1, place.trans (hook .snag).2.2⟩
      · obtain ⟨done, hooks, place⟩ := abortAtTop_aborted h ht .loadLost .none writesHook_drop
        obtain ⟨k, l, w⟩ := hook .loadLost
        obtain ⟨none, loose, gone⟩ := loadGone_congr (dropLoad_gone _) k l w (position .loadLost s.tasks.nest.length)
        have lost : taskLoadLost s = abortAtTop s .loadLost .none dropLoad := by rw [taskLoadLost, hne]; rfl
        rw [none, loose] at done
        rw [lost]
        exact ⟨done, hooks.trans none, done.2.2.2.2.1, place.trans gone⟩
      · intro u tolerance
        have lift : u = if !craneAt s t.source then abortAtTop s .place (.place false x y) fun u => withLoose u true
            else match coveringSlot s t.source with
              | some n => abortAtTop s .covered (.covered n) fun v => withLoose v true
              | none => match t.expected with
                | none => settleLift s t net
                | some e => if magnitude (net - e) ≤ tolerance e then settleLift s t net
                  else abortAtTop s .weight (.weight net e) fun v => withLoose v true := by
          show taskLift s net = _
          unfold taskLift
          simp only [ht, hc]
          rfl
        refine ⟨fun hp => ?_, fun hp n hcov => ?_, fun hp hcov e he hw => ?_, fun hp hcov hw => ?_⟩
        · rw [lift, hp]
          exact loosened _ _
        · rw [lift, hp, hcov]
          exact loosened _ _
        · rw [lift, hp, hcov, he]
          show aborted (if magnitude (net - e) ≤ tolerance e then _ else _) _ _ _ _
          rw [if_neg (not_le.mpr hw)]
          exact loosened _ _
        · have settled : u = settleLift s t net := by
            rw [lift, hp, hcov]
            cases he : t.expected with
            | none => rfl
            | some e => exact if_pos (hw e he)
          have journal : liftedJournal t = match t.source, t.journal with
              | .slot _, .slot m p _ :: js => .slot m p true :: js
              | _, js => js := by
            unfold liftedJournal settleFirst
            cases t.source with
            | slot n =>
              cases t.journal with
              | nil => rfl
              | cons j js => cases j <;> rfl
            | _ => rfl
          rw [settled]
          refine ⟨by rw [settleLift_tasks, journal] <;> rfl, fun n hn => ?_, fun hn => ?_, fun hc => ⟨fun n hn => ?_, fun m hm => ?_, ?_⟩,
            fun m w k hm hs hheld hrow hc => settleLift_clash net h hm hs hheld hrow hc, fun b i => ?_,
            settleLift_event s t net (by simp)⟩
          · rw [settleLift_outbox, (liftStart_outbox s _).1 n hn]
          · rw [settleLift_outbox, (liftStart_outbox s _).2 hn]
          · rw [(settleLift_quiet net h hc).1, liftStart_slotAt, if_pos hn]
          · rw [(settleLift_quiet net h hc).1, liftStart_slotAt, if_neg hm]
          · exact (settleLift_quiet net h hc).2
          · rw [settleLift_cradle]
            cases cradleAt (s.bay b) i with
            | loaded c w =>
              cases c with
              | none => rfl
              | some c => exact (apply_ite (CradleRecord.loaded · w) _ _ _).symm
            | _ => rfl
      · intro u weight
        have set : u = if craneAt s t.dest then commitTask s t
            else abortAtTop s .place (.place true x y) fun u =>
              withLoose (writeUnplaced (withHookCoil u none) .set (some t.coil) (some net)) false := by
          show taskSet s net = _
          unfold taskSet
          simp only [ht, hc]
          rfl
        refine ⟨fun hp => ?_, fun hp => ?_⟩
        · rw [set, if_neg (by simp [hp])]
          obtain ⟨done, -, place⟩ := abortAtTop_aborted h ht .place (.place true x y)
            (writesHook_set .set (some t.coil) (some net))
          refine ⟨done, place.trans ?_⟩
          exact congrArg₂ (fun a b => some (⟨.set, some t.coil, some net, a, b⟩ : Unplaced))
            (position .place s.tasks.nest.length .bridge) (position .place s.tasks.nest.length .trolley)
        · rw [set, if_pos hp]
          refine ⟨commitTask_tasks s t, by rw [commitTask_event, if_pos rfl]; rfl, fun n hd => ?_, fun b i hd l hl => ?_⟩
          · obtain ⟨c1, c2, c3, c4⟩ := commitTask_slot (s := s) hd
            exact ⟨c1, c2, c3, c4⟩
          · exact commitTask_cradle hd hl

end Sys2Proof.Proofs

/-! SUPPORT. Queries and answers (R143 to R146): the query scan row by row, and the answers in the queue. -/

namespace Sys2Proof.Machine

variable {s t u : State}

/-! ## A query scan (R143) -/

/-- R143: the record of a row whose spent flag is cleared where it is not covered. -/
def clearedRow (s : State) (r : Nat) : RowRecord :=
  if (rowAt s r).spent && !rowCovered s r then { rowAt s r with spent := false } else rowAt s r

/-- R143: one row of a clearing. -/
def clearRow (s : State) (r : Nat) : State :=
  if (rowAt s r).spent && !rowCovered s r then putRow s r { rowAt s r with spent := false } else s

theorem clearRow_covered (s : State) (k r : Nat) : rowCovered (clearRow s k) r = rowCovered s r := by
  unfold clearRow
  split <;> rfl

theorem clearRow_tablesOk (h : tablesOk s = true) (k : Nat) : tablesOk (clearRow s k) = true := by
  unfold clearRow
  split
  · exact (putRow_kept (k := untracked) _ _).tables h
  · exact h

theorem clearRow_rowAt (h : tablesOk s = true) (k r : Nat) :
    rowAt (clearRow s k) r = if r = k then clearedRow s r else rowAt s r := by
  unfold clearRow clearedRow
  by_cases hr : r = k
  · subst r
    rw [if_pos rfl]
    split
    · exact rowAt_put_same s k _ ((tablesOk_iff s).mp h).2
    · rfl
  · rw [if_neg hr]
    split
    · exact rowAt_put_other s _ hr
    · rfl

theorem clearRows_rowAt (r : Nat) : ∀ (l : List Nat) (s : State), l.Nodup → tablesOk s = true →
    rowAt (l.foldl clearRow s) r = if r ∈ l then clearedRow s r else rowAt s r
  | [], s, _, _ => by simp
  | k :: l, s, hl, h => by
    obtain ⟨hk, hl⟩ := List.nodup_cons.mp hl
    rw [List.foldl_cons, clearRows_rowAt r l _ hl (clearRow_tablesOk h k)]
    by_cases hr : r = k
    · subst r
      rw [if_neg hk, if_pos (by simp), clearRow_rowAt h, if_pos rfl]
    · have same : clearedRow (clearRow s k) r = clearedRow s r := by
        rw [clearedRow, clearRow_covered, clearRow_rowAt h, if_neg hr, clearedRow]
      rw [same, clearRow_rowAt h, if_neg hr]
      simp [hr]

theorem clearSpent_rowAt (h : tablesOk s = true) (r : Nat) :
    rowAt (clearSpent s) r = if r < s.conf.rows then clearedRow s r else rowAt s r := by
  have rows := clearRows_rowAt r (List.range s.conf.rows) s List.nodup_range h
  simp only [List.mem_range] at rows
  exact rows

/-- R143: the row asked for after a clearing. -/
theorem rowToAsk_clearSpent (h : tablesOk s = true) : rowToAsk (clearSpent s) = rowToAsk s := by
  have conf : (clearSpent s).conf = s.conf := conf_of_record (by simp)
  have covered (r : Nat) : rowCovered (clearSpent s) r = rowCovered s r := rowCovered_congr (by simp) (by simp) r
  unfold rowToAsk
  rw [conf]
  refine List.find?_congr fun r hr => ?_
  rw [covered, clearSpent_rowAt h, if_pos (List.mem_range.mp hr), clearedRow]
  cases hc : rowCovered s r <;> simp

/-- R143: what a scan with no query open asks for. -/
theorem queryScan_asks (h : tablesOk s = true) (hq : s.store.query = none) :
    (queryScan s).store = match rowToAsk s with
      | none => (clearSpent s).store
      | some row => { (clearSpent s).store with
          counter := (s.store.counter + 1) % 256, query := some ⟨row, s.store.counter, none⟩ } := by
  unfold queryScan
  have query : (clearSpent s).store.query = none := by simpa using hq
  have counter : (clearSpent s).store.counter = s.store.counter := by simp
  simp only [query, rowToAsk_clearSpent h, counter]
  cases rowToAsk s <;> simp

/-! ## Answers in the queue (R34, R146) -/

/-- The answers that stand in a queue. -/
def standingAnswers (q : List Entry) : List Entry := q.filter fun e => isAnswer e.content && !e.withdrawn

theorem standingAnswers_append (p q : List Entry) :
    standingAnswers (p ++ q) = standingAnswers p ++ standingAnswers q := List.filter_append _ _

theorem standingAnswers_suffix {p q : List Entry} (h : p <:+ q) (hq : standingAnswers q = []) : standingAnswers p = [] := by
  obtain ⟨r, rfl⟩ := h
  rw [standingAnswers_append, List.append_eq_nil_iff] at hq
  exact hq.2

/-- R34: no answer stands among the entries before which a new answer would be placed. -/
def answersFirst (q : List Entry) (age : Nat) : Prop := standingAnswers (q.dropWhile fun x => x.before 9 age) = []

theorem insertEntry_eq (e : Entry) (q : List Entry) : insertEntry e q =
    q.takeWhile (fun x => x.before e.content.cls e.age) ++ e :: q.dropWhile (fun x => x.before e.content.cls e.age) := by
  induction q with
  | nil => rfl
  | cons x q ih =>
    rw [insertEntry, List.takeWhile_cons, List.dropWhile_cons]
    split
    · rw [ih]; rfl
    · rfl

theorem before_mono {e : Entry} {cls age : Nat} (h : e.before cls age = true) : e.before cls (age + 1) = true := by
  simp only [Entry.before, Bool.or_eq_true, Bool.and_eq_true, decide_eq_true_eq] at h ⊢
  exact h.imp id fun ⟨h1, h2⟩ => ⟨h1, by omega⟩

theorem dropWhile_append_all {α : Type} {p : α → Bool} : ∀ {l : List α} (r : List α), (∀ a ∈ l, p a = true) →
    (l ++ r).dropWhile p = r.dropWhile p
  | [], _, _ => rfl
  | a :: l, r, h => by
    rw [List.cons_append, List.dropWhile_cons, if_pos (h a (by simp))]
    exact dropWhile_append_all r fun b hb => h b (by simp [hb])

/-- R34: an answer placed stands after those before it. -/
theorem insertAnswer (row tag : Nat) (es : List NoticeEntry) {q : List Entry} {age : Nat} (h : answersFirst q age) :
    let e : Entry := ⟨.answer row tag es, age, false, false, false, none⟩
    standingAnswers (insertEntry e q) = standingAnswers q ++ [e] ∧ answersFirst (insertEntry e q) (age + 1) := by
  intro e
  let p (x : Entry) : Bool := x.before 9 age
  have placed : insertEntry e q = q.takeWhile p ++ e :: q.dropWhile p := insertEntry_eq e q
  have first : standingAnswers q = standingAnswers (q.takeWhile p) := by
    conv_lhs => rw [← List.takeWhile_append_dropWhile (p := p) (l := q), standingAnswers_append]
    rw [show standingAnswers (q.dropWhile p) = [] from h, List.append_nil]
  rw [placed]
  constructor
  · rw [standingAnswers_append, first]
    show _ ++ e :: standingAnswers (q.dropWhile p) = _
    rw [show standingAnswers (q.dropWhile p) = [] from h]
  · have before : ∀ x ∈ q.takeWhile p ++ [e], x.before 9 (age + 1) = true := by
      intro x hx
      rcases List.mem_append.mp hx with hx | hx
      · have := List.mem_takeWhile_imp hx
        exact before_mono this
      · rw [List.mem_singleton.mp hx]
        simp [Entry.before, Content.cls, e]
    unfold answersFirst
    rw [show q.takeWhile p ++ e :: q.dropWhile p = (q.takeWhile p ++ [e]) ++ q.dropWhile p by simp,
      dropWhile_append_all _ before]
    exact standingAnswers_suffix (List.dropWhile_suffix _) h

/-- R34: an answer queued merges with nothing. -/
theorem enqueue_answer (l : Link) (row tag : Nat) (es : List NoticeEntry) : enqueue l (.answer row tag es) = { l with
    queue := insertEntry ⟨.answer row tag es, l.stamp, false, false, false, none⟩ l.queue, stamp := l.stamp + 1 } := by
  have none (q : List Entry) : mergeInto (.answer row tag es) l.stamp q = none := by
    induction q with
    | nil => rfl
    | cons e q ih => simp [mergeInto, Content.merges, ih]
  rw [enqueue, none]

theorem mayJoin_answer {n : NodeState} (h : plansAnswers n = true) (row tag : Nat) (es : List NoticeEntry) :
    mayJoin n (.answer row tag es) = true := by
  cases n <;> first | rfl | cases h

/-- R34, R146: the answers queued one after the other stand in their order, after those that stood. -/
theorem offerAnswers (row tag : Nat) : ∀ (parts : List (List NoticeEntry)) (s : State), plansAnswers s.node = true →
    answersFirst s.link.queue s.link.stamp →
    let t := parts.foldl (fun t part => offer t (.answer row tag part)) s
    (standingAnswers t.link.queue).map (·.content) =
        (standingAnswers s.link.queue).map (·.content) ++ parts.map (.answer row tag ·) ∧
      t = { s with link := t.link }
  | [], s, _, _ => by simp
  | es :: parts, s, hn, h => by
    intro t
    let v : State := offer s (.answer row tag es)
    have link : v.link = enqueue s.link (.answer row tag es) := by
      simp only [v, offer, mayJoin_answer hn, if_true]
    obtain ⟨l, same⟩ : ∃ l, v = { s with link := l } := by
      simp only [v, offer]
      split <;> exact ⟨_, rfl⟩
    rw [enqueue_answer] at link
    obtain ⟨stands, first⟩ := insertAnswer row tag es h
    obtain ⟨rest, kept⟩ := offerAnswers row tag parts v (by rw [same]; exact hn) (by rw [link]; exact first)
    change t = { v with link := t.link } at kept
    change (standingAnswers t.link.queue).map _ = _ at rest
    refine ⟨?_, kept.trans ?_⟩
    · rw [rest, link, stands]
      simp
    · generalize t.link = m
      rw [same]

/-- R146: nothing stands of the answers withdrawn. -/
theorem withdrawEntries_answers (q : List Entry) : standingAnswers (withdrawEntries isAnswer q) = [] := by
  unfold standingAnswers withdrawEntries
  rw [List.filter_eq_nil_iff]
  intro e he
  obtain ⟨f, -, hf⟩ := List.mem_filterMap.mp he
  by_cases h : (isAnswer f.content && !f.withdrawn) = true
  · rw [if_pos h] at hf
    split at hf
    · cases hf
      simp
    · cases hf
  · rw [if_neg h] at hf
    cases hf
    exact h

/-- R146: the notices that entries are cut into. -/
theorem cutNotices_spec : ∀ (k : Nat) (es : List NoticeEntry), es.length ≤ k →
    (cutNotices k es).flatten = es ∧ (∀ l ∈ cutNotices k es, 1 ≤ l.length ∧ l.length ≤ 6) ∧
      ∀ l ∈ (cutNotices k es).dropLast, l.length = 6
  | 0, es, h => by
    have : es = [] := List.length_eq_zero_iff.mp (by omega)
    subst es
    simp [cutNotices]
  | k + 1, [], _ => by simp [cutNotices]
  | k + 1, e :: es, h => by
    have short : ((e :: es).drop 6).length ≤ k := by
      rw [List.length_drop]
      simp only [List.length_cons] at *
      omega
    obtain ⟨flat, sizes, full⟩ := cutNotices_spec k ((e :: es).drop 6) short
    have cut : cutNotices (k + 1) (e :: es) = (e :: es).take 6 :: cutNotices k ((e :: es).drop 6) := rfl
    rw [cut]
    refine ⟨?_, fun l hl => ?_, fun l hl => ?_⟩
    · rw [List.flatten_cons, flat, List.take_append_drop]
    · rcases List.mem_cons.mp hl with rfl | hl
      · simp
      · exact sizes l hl
    · cases hrest : cutNotices k ((e :: es).drop 6) with
      | nil =>
        rw [hrest] at hl
        cases hl
      | cons x xs =>
        rw [hrest, List.dropLast_cons_of_ne_nil (by simp)] at hl
        rcases List.mem_cons.mp hl with rfl | hl
        · have some : (e :: es).drop 6 ≠ [] := by
            intro h0
            rw [h0] at hrest
            cases k <;> simp [cutNotices] at hrest
          rw [List.ne_nil_iff_length_pos, List.length_drop] at some
          rw [List.length_take]
          omega
        · exact full l (by rw [hrest]; exact hl)

end Sys2Proof.Machine

namespace Sys2Proof.Proofs

open Machine

/-- Settles O42: the plan from a quiet frame, the answers queued part by part, and the scan that follows a query's end. -/
theorem queriesAndAnswers : Obligations.QueriesAndAnswers := by
  refine ⟨fun s r seq row tag hq => ?_, fun s hs hn p hp => ?_, fun s hs hc hr q hq d hd hrow ht => ?_⟩
  · obtain ⟨hr, hn, hs, -⟩ := quiet_parts s hq
    have plans : plansAnswers (heard s r seq).node = true := by
      rw [show (heard s r seq).node = .active from hn]
      rfl
    have frame : exec (.slotQuery r seq ⟨row, tag⟩) s = .next (finish (planAnswer ⟨row, tag⟩ (heard s r seq))) :=
      next_eq (receive_quiet s hq false _)
    have scan : (planAnswer ⟨row, tag⟩ (heard s r seq)).scanDue = false := by
      unfold planAnswer
      split <;> exact hs
    rw [frame, finish_settled _ scan, planAnswer, plans]
    simp only [Bool.true_and, Bool.and_eq_true, decide_eq_true_eq]
    rfl
  · have due : exec .answerPlanDue s = .next (expire (s.store.plan.map (·.due)) planDue s) := rfl
    let v : State := withdraw { elapse s p.due with store := { s.store with plan := none } } isAnswer
    let es := answerEntries s p.row
    have planned : planDue (elapse s p.due) = (cutNotices es.length es).foldl (fun t part => offer t (.answer p.row p.tag part)) v := by
      have hp' : (elapse s p.due).store.plan = some p := hp
      rw [planDue, hp']
      rfl
    have none : standingAnswers v.link.queue = [] := withdrawEntries_answers _
    obtain ⟨contents, kept⟩ := offerAnswers p.row p.tag (cutNotices es.length es) v hn
      (standingAnswers_suffix (List.dropWhile_suffix _) none)
    obtain ⟨flat, sizes, full⟩ := cutNotices_spec es.length es le_rfl
    rw [← planned] at contents kept
    have scan : (planDue (elapse s p.due)).scanDue = false := by
      rw [kept]
      exact not_scanDue hs
    refine ⟨_, due, ?_⟩
    rw [hp, Option.map_some, expire_some _ _ _ (by simpa [settled] using scan)]
    refine ⟨by rw [kept]; rfl, by rw [kept]; rfl, ?_⟩
    intro parts
    have hparts : parts = cutNotices es.length es := by
      let part (c : Content) : List NoticeEntry := match c with
        | .answer row tag es => if row = p.row ∧ tag = p.tag then es else []
        | _ => []
      have mapped : parts = ((standingAnswers (planDue (elapse s p.due)).link.queue).map (·.content)).map part := by
        rw [List.map_map]
        rfl
      have own : part ∘ (Content.answer p.row p.tag ·) = id := by
        funext l
        exact if_pos ⟨rfl, rfl⟩
      rw [mapped, contents, none, List.map_nil, List.nil_append, List.map_map, own, List.map_id]
    rw [hparts]
    refine ⟨flat.trans ?_, sizes, full⟩
    refine List.filterMap_congr fun n _ => ?_
    cases slotAt s n <;> rfl
  · intro askable
    let u : State := putRow (elapse s d) q.row { rowAt s q.row with spent := true }
    let v : State := suspect (closeQuery u) .unanswered (some q.row) 0 .none
    have done : exec .queryExpiry s = .next (queryScan v) := by
      have due : exec .queryExpiry s = .next (expire (s.store.query.bind (·.expiry)) queryDue s) := rfl
      have unanswered : queryDue (elapse s d) = scanLater v := by
        have hq' : (elapse s d).store.query = some q := hq
        rw [queryDue, hq']
        rfl
      rw [due, hq, Option.bind_some, hd]
      refine next_eq ?_
      rw [expire, unanswered, finish, if_pos (by simp)]
      have scan : v.scanDue = false := not_scanDue hs
      show queryScan { v with scanDue := false } = _
      rw [← scan]
    have tables : tablesOk v = true := (putRow_kept (k := untracked) (s := elapse s d) _ _).tables ht
    have conf : v.conf = s.conf := rfl
    have covered (r : Nat) : rowCovered v r = rowCovered s r := rfl
    have rows (r : Nat) : rowAt v r = if r = q.row then { rowAt s q.row with spent := true } else rowAt s r := by
      show rowAt u r = _
      split
      · subst r
        exact rowAt_put_same (elapse s d) q.row _ ((tablesOk_iff s).mp ht).2
      · exact rowAt_put_other (elapse s d) _ ‹_›
    have asks : rowToAsk v = (List.range s.conf.rows).find? askable := by
      rw [rowToAsk, conf]
      refine List.find?_congr fun r hr => ?_
      rw [covered, rows]
      simp only [askable, List.mem_range.mp hr, decide_true, Bool.true_and]
      by_cases hrq : r = q.row
      · subst r
        simp
      · rw [if_neg hrq]
        obtain ⟨known, spent⟩ := rowAt s r
        cases known <;> cases spent <;> simp [hrq]
    have store := queryScan_asks tables rfl
    have row : rowAt (queryScan v) q.row = clearedRow v q.row := by
      have same : (queryScan v).store.rows = (clearSpent v).store.rows := by
        rw [store]
        split <;> rfl
      rw [rowAt_of_rows same, clearSpent_rowAt tables, conf, if_pos hrow]
    refine ⟨_, done, ?_, ?_, ?_, fun r hr hk => ?_, fun hk => ?_, (by simp : (queryScan v).store.slots = v.store.slots),
      (by simp : (queryScan v).store.outbox = v.store.outbox),
      by simp [v, u, suspect], by simp [v, u, suspect], by simp [v, u, suspect], by simp [v, u, suspect],
      by simp [v, u, suspect]⟩
    · rw [row, clearedRow, rows, if_pos rfl, covered]
      cases rowCovered s q.row <;> rfl
    · rw [row, clearedRow, rows, if_pos rfl]
      split <;> rfl
    · have port : (queryScan v).port = v.port := by simp
      rw [port]
      exact eventAt_raise_same _ _
    · have found : rowToAsk v = some r := by
        rw [asks, List.find?_range_eq_some]
        refine ⟨hr, ?_, fun j hj => by simp [hk j hj]⟩
        simp only [askable, Bool.and_eq_true, decide_eq_true_eq] at hr
        exact List.mem_range.mpr hr.1.1.1
      rw [store, found]
      exact ⟨rfl, rfl⟩
    · have found : rowToAsk v = none := by
        rw [asks, List.find?_range_eq_none]
        exact fun i hi => by simp [hk i hi]
      rw [store, found]
      exact ⟨by simp [v, suspect, closeQuery], (by simp : (clearSpent v).store.counter = v.store.counter)⟩

end Sys2Proof.Proofs

/-! SUPPORT. The rows of the store: which slots a row has, how a row is checked after a notice, and what the end of a handling
leaves of a row (R131, R137 to R140). -/

namespace Sys2Proof.Machine

variable {s t u v w : State}

/-! ## The slots of a row -/

theorem lowers_of_configured (h : configuredOk s = true) (hr : s.record.isSome = true) :
    2 ≤ s.conf.lowers ∧ s.conf.lowers ≤ 8 := by
  have := range_of_checked (conf_checked h hr) (n := 42) (x := s.conf.lowers) (a := 2) (b := 8) (by simp [rangeTests])
  omega

/-- R5: the slots of a row in use. -/
theorem mem_rowSlots {c : StartRecord} (h : 2 ≤ c.lowers ∧ c.lowers ≤ 8) (row n : Nat) :
    n ∈ rowSlots c row ↔ n / 16 = row ∧ (n % 16 < c.lowers ∨ (8 ≤ n % 16 ∧ n % 16 ≤ c.lowers + 6)) := by
  simp only [rowSlots, lowerSlots, upperSlots, List.mem_append, List.mem_map, List.mem_range]
  constructor
  · rintro (⟨i, hi, rfl⟩ | ⟨i, hi, rfl⟩) <;> omega
  · rintro ⟨rfl, hn | hn⟩
    · exact .inl ⟨n % 16, hn, by omega⟩
    · exact .inr ⟨n % 16 - 8, by omega, by omega⟩

theorem slotInUse_iff (c : StartRecord) (n : Nat) : slotInUse c n = true ↔
    n / 16 < c.rows ∧ (n % 16 < c.lowers ∨ (8 ≤ n % 16 ∧ n % 16 ≤ c.lowers + 6)) := by
  simp only [slotInUse, Bool.and_eq_true, Bool.or_eq_true, decide_eq_true_eq]
  rfl

theorem mem_rowSlots_of_inUse {c : StartRecord} (h : 2 ≤ c.lowers ∧ c.lowers ≤ 8) {n : Nat} (hn : slotInUse c n = true) :
    n ∈ rowSlots c (n / 16) := (mem_rowSlots h _ n).mpr ⟨rfl, ((slotInUse_iff c n).mp hn).2⟩

theorem rowSlots_nodup {c : StartRecord} (h : 2 ≤ c.lowers ∧ c.lowers ≤ 8) (row : Nat) : (rowSlots c row).Nodup := by
  refine List.Nodup.append ?_ ?_ ?_
  · exact List.nodup_range.map fun a b e => by simpa using e
  · exact List.nodup_range.map fun a b e => by simpa using e
  · intro n h1 h2
    simp only [lowerSlots, upperSlots, List.mem_map, List.mem_range] at h1 h2
    omega

theorem heldSlot_congr (hc : t.conf = s.conf) (h : ∀ n, (slotAt t n).reserved = (slotAt s n).reserved) (n : Nat) :
    heldSlot t n = heldSlot s n := by simp only [heldSlot, hc, h]

/-- R140: a stacking break is seen in the row's own slots. -/
theorem stackBreak_congr (hc : t.conf = s.conf) {row : Nat} (h : ∀ n ∈ rowSlots s.conf row, slotAt t n = slotAt s n) :
    stackBreak t row = stackBreak s row := by
  have same (n : Nat) (hn : n ∈ rowSlots s.conf row) := h n hn
  unfold stackBreak
  rw [hc, Bool.eq_iff_iff]
  simp only [List.any_eq_true]
  refine exists_congr fun n => and_congr_right fun hn => ?_
  obtain ⟨i, hi, e⟩ := List.mem_map.mp hn
  rw [List.mem_range] at hi
  have own : n ∈ rowSlots s.conf row := List.mem_append.mpr (.inr hn)
  have low (j : Nat) (hj : j < s.conf.lowers) : row * 16 + j ∈ rowSlots s.conf row :=
    List.mem_append.mpr (.inl (List.mem_map.mpr ⟨j, List.mem_range.mpr hj, rfl⟩))
  have s1 : (supports n).1 = row * 16 + i := by simp only [supports]; omega
  have s2 : (supports n).2 = row * 16 + (i + 1) := by simp only [supports]; omega
  rw [same n own, s1, s2, same _ (low i (by omega)), same _ (low (i + 1) (by omega))]

/-! ## The end of a handling, row by row (R143) -/

theorem clearSpent_tablesOk (h : tablesOk s = true) : tablesOk (clearSpent s) = true :=
  (clearSpent_kept (k := untracked)).tables h

/-- R143: the end of a handling clears spent flags and nothing else of the rows. -/
theorem finish_rowAt (h : tablesOk s = true) (r : Nat) : (rowAt (finish s) r).known = (rowAt s r).known ∧
    ((rowAt s r).spent = false → rowAt (finish s) r = rowAt s r) := by
  have cleared (v : State) : (clearedRow v r).known = (rowAt v r).known ∧
      ((rowAt v r).spent = false → clearedRow v r = rowAt v r) := by
    unfold clearedRow
    constructor
    · split <;> rfl
    · intro hs
      rw [hs]
      rfl
  unfold finish
  split
  · let v : State := { s with scanDue := false }
    have rows : (queryScan v).store.rows = (clearSpent v).store.rows := by
      unfold queryScan
      dsimp only
      split
      · rfl
      · split
        · rfl
        · simp
    rw [rowAt_of_rows rows, clearSpent_rowAt (s := v) h]
    split
    · exact cleared v
    · exact ⟨rfl, fun _ => rfl⟩
  · exact ⟨rfl, fun _ => rfl⟩

theorem rowMarked_finish {row : Nat} {c : SuspectCause} {rank : Option Nat} (h : tablesOk t = true)
    (hm : rowMarked s t row c rank) : rowMarked s (finish t) row c rank := by
  obtain ⟨m1, m2, m3, m4, m5⟩ := hm
  have slots : (finish t).store.slots = t.store.slots := by simp
  have plan : (finish t).store.plan = t.store.plan := by simp
  have port : (finish t).port = t.port := by simp
  refine ⟨fun n hn => ?_, fun n hn => ?_, ?_, plan.trans m4, by rw [port, m5]⟩
  · rw [slotAt_of_slots slots, m1 n hn]
  · rw [slotAt_of_slots slots, m2 n hn]
  · rw [(finish_rowAt h row).2 (by rw [m3]), m3]

/-- What was marked is judged by the start record, the store and the port. -/
theorem rowMarked_congr {row : Nat} {c : SuspectCause} {rank : Option Nat} (hc : u.conf = s.conf) (hs : u.store = s.store)
    (he : u.port.events = s.port.events) (hm : rowMarked u t row c rank) : rowMarked s t row c rank := by
  have slots := slotAt_of_store hs
  have held := heldSlot_congr hc fun n => by rw [slots]
  have event : eventAt u.port 13 = eventAt s.port 13 := by rw [eventAt, he, eventAt]
  simpa only [rowMarked, hc, slots, held, hs, event] using hm

/-! ## A row checked after a notice (R140) -/

theorem checkRow_work (sender : Nat) (s : State) (row : Nat) : StoreWork s (checkRow sender s row) := by
  unfold checkRow
  split
  · exact markSuspect_work s row _ _
  · exact settleRow_work s row

theorem checkRow_tablesOk (h : tablesOk s = true) (sender row : Nat) : tablesOk (checkRow sender s row) = true := by
  unfold checkRow
  split
  · exact markSuspect_tablesOk h row _ _
  · exact (settleRow_kept (k := untracked) row).tables h

theorem checkRow_outbox (sender : Nat) (s : State) (row : Nat) : (checkRow sender s row).store.outbox = s.store.outbox := by
  unfold checkRow
  split
  · rfl
  · exact (settleRow_keeps s row).2.1

theorem checkRow_slotAt (h : tablesOk s = true) (sender row n : Nat) : slotAt (checkRow sender s row) n =
    if n ∈ rowSlots s.conf row ∧ stackBreak s row = true ∧ heldSlot s n = false then .unknown else slotAt s n := by
  unfold checkRow
  split
  · rename_i hb
    rw [markSuspect_slotAt, markRow_slotAt h]
    simp [hb]
  · rename_i hb
    rw [settleRow_slotAt, if_neg fun k => hb k.2.1]

theorem checkRow_reserved (h : tablesOk s = true) (sender row n : Nat) :
    (slotAt (checkRow sender s row) n).reserved = (slotAt s n).reserved := by
  rw [checkRow_slotAt h]
  split
  · rename_i hn
    have held := hn.2.2
    simp only [heldSlot, Bool.or_eq_false_iff] at held
    rw [held.1]
    rfl
  · rfl

theorem checkRow_quiet (sender : Nat) {row : Nat} (hb : stackBreak s row = false) :
    (checkRow sender s row).port = s.port := by
  rw [checkRow, if_neg (by simp [hb])]
  exact (settleRow_keeps s row).2.2.2.1

/-- R140: the row of an entry applied, checked at the end of the handling. -/
theorem checkRow_applied (h : tablesOk v = true) (sender row : Nat) :
    let t := finish (checkRow sender v row)
    StoreWork v t ∧ t.store.outbox = v.store.outbox ∧
      (stackBreak v row = true → rowMarked v t row .stackBreak (some sender)) ∧
      (stackBreak v row = false → (∀ n, slotAt t n = slotAt v n) ∧ t.port.events = v.port.events ∧
        ((∀ n ∈ rowSlots v.conf row, slotAt t n ≠ .unknown) → rowAt t row = ⟨true, false⟩) ∧
        ((∃ n ∈ rowSlots v.conf row, slotAt t n = .unknown) → (rowAt t row).known = (rowAt v row).known)) := by
  intro t
  have tables := checkRow_tablesOk h sender row
  refine ⟨(checkRow_work sender v row).trans (finish_work _), ?_, fun hb => ?_, fun hb => ?_⟩
  · exact (show t.store.outbox = (checkRow sender v row).store.outbox by simp [t]).trans (checkRow_outbox sender v row)
  · refine rowMarked_finish tables ?_
    rw [checkRow, if_pos hb]
    exact markSuspect_marked h row _ _
  · have settles : checkRow sender v row = settleRow v row := if_neg (by simp [hb])
    have slots (n : Nat) : slotAt t n = slotAt v n := by
      rw [slotAt_of_slots (show t.store.slots = (checkRow sender v row).store.slots by simp [t]), settles, settleRow_slotAt]
    obtain ⟨known, stays, -⟩ := settleRow_rowAt h row
    obtain ⟨f1, f2⟩ := finish_rowAt tables row
    rw [settles] at f1 f2
    refine ⟨slots, ?_, fun hk => ?_, fun hk => ?_⟩
    · rw [show t.port = (checkRow sender v row).port by simp [t], checkRow_quiet sender hb]
    · have := known fun n hn => by rw [← slots]; exact hk n hn
      rw [show t = finish (settleRow v row) by rw [← settles], f2 (by rw [this]), this]
    · have := stays (by simpa only [slots] using hk)
      rw [show t = finish (settleRow v row) by rw [← settles], f1, this]

end Sys2Proof.Machine

/-! SUPPORT. One entry of a peer's Store Notice (R137 to R139). -/

namespace Sys2Proof.Machine

variable {s t u v w : State}

/-! ## The cases of an entry -/

section

variable (sender : Nat) (answer : Bool) (rows : List Nat) {e : NoticeEntry}

theorem applyEntry_unused (h : slotInUse s.conf e.slot = false) : applyEntry sender answer (s, rows) e = (s, rows) := by
  simp [applyEntry, h]

theorem applyEntry_bad (h : slotInUse s.conf e.slot = true) (he : e.state = .occupied) (hc : e.coil.getD 0 = 0) :
    applyEntry sender answer (s, rows) e = (markSuspect s (slotRow e.slot) .badEntry (some sender), rows) := by
  simp [applyEntry, h, he, hc]

variable (hgood : ¬ (e.state = .occupied ∧ e.coil.getD 0 = 0))

include hgood

theorem applyEntry_held (h : slotInUse s.conf e.slot = true) (hh : heldSlot s e.slot = true) :
    applyEntry sender answer (s, rows) e = if answer && agrees (slotAt s e.slot) e then (s, rows)
      else (markSuspect s (slotRow e.slot) .heldSlot (some sender), rows) := by
  have good : (e.state == .occupied && e.coil.getD 0 == 0) = false := by simpa using hgood
  simp only [applyEntry, h, good, hh]
  rfl

theorem applyEntry_clash (h : slotInUse s.conf e.slot = true) (hh : heldSlot s e.slot = false) (he : e.state = .occupied)
    (hc : (ownHolds s (e.coil.getD 0) || onTrailer s (e.coil.getD 0)) = true) :
    applyEntry sender answer (s, rows) e = (markSuspect s (slotRow e.slot) .coilClash (some sender), rows) := by
  have good : (e.state == .occupied && e.coil.getD 0 == 0) = false := by simpa using hgood
  have clash : (e.state == .occupied && (ownHolds s (e.coil.getD 0) || onTrailer s (e.coil.getD 0))) = true := by
    rw [hc, he]
    rfl
  simp only [applyEntry, h, good, hh, clash]
  rfl

/-- R137 step 4: the state in which an entry is applied: the row of another slot with its coil is marked. -/
def otherMarked (sender : Nat) (s : State) (e : NoticeEntry) : State :=
  match e.state, looseSlotWith s (e.coil.getD 0) (· == e.slot) with
  | .occupied, some other => markSuspect s (slotRow other) .coilClash (some sender)
  | _, _ => s

theorem applyEntry_applied (h : slotInUse s.conf e.slot = true) (hh : heldSlot s e.slot = false)
    (hc : e.state = .occupied → (ownHolds s (e.coil.getD 0) || onTrailer s (e.coil.getD 0)) = false) :
    applyEntry sender answer (s, rows) e = (putSlot (otherMarked sender s e) e.slot (entryRecord e),
      if rows.contains (slotRow e.slot) then rows else rows ++ [slotRow e.slot]) := by
  have good : (e.state == .occupied && e.coil.getD 0 == 0) = false := by simpa using hgood
  have free : (e.state == .occupied && (ownHolds s (e.coil.getD 0) || onTrailer s (e.coil.getD 0))) = false := by
    cases he : e.state <;> simp_all
  simp only [applyEntry, h, good, hh, free]
  rfl

end

theorem otherMarked_none {sender : Nat} {e : NoticeEntry} (h : tablesOk s = true)
    (hc : e.state = .occupied → ∀ m, m ≠ e.slot → (slotAt s m).coilIn ≠ some (e.coil.getD 0)) :
    otherMarked sender s e = s := by
  unfold otherMarked
  split
  · rename_i other he hl
    have found := findSlot_passes h hl
    have := hc he other
    simp_all
  · rfl

/-- A coil that no held slot records lies, where it is recorded, in a slot that is not held. -/
theorem looseSlot_unique {coil m : Nat} {skip : Nat → Bool} (h : tablesOk s = true) (hh : inHeldSlot s coil = false)
    (hm : (slotAt s m).coilIn = some coil) (hs : skip m = false)
    (hk : ∀ k, skip k = false → k ≠ m → (slotAt s k).coilIn ≠ some coil) :
    looseSlotWith s coil skip = some m ∧ heldSlot s m = false := by
  have listed : slotAt s m ≠ .unknown := fun e => by rw [e] at hm; cases hm
  have free : heldSlot s m = false := by
    have none := (findSlot_eq_none h).mp (Option.not_isSome_iff_eq_none.mp (by simpa [inHeldSlot] using hh)) m listed
    simpa [hm] using none
  have reserved : (slotAt s m).reserved = false := by
    simp only [heldSlot, Bool.or_eq_false_iff] at free
    exact free.1
  refine ⟨findSlot_unique h listed (by simp [hm, free, reserved, hs]) fun j hj => ?_, free⟩
  cases hsj : skip j with
  | true => simp
  | false => simp [hk j hsj hj]

theorem putSlot_work (s : State) (n : Nat) (r : SlotRecord) : StoreWork s (putSlot s n r) :=
  ⟨⟨rfl, rfl, rfl, rfl, rfl, rfl, rfl, rfl, rfl, rfl, rfl⟩, rfl, rfl⟩

theorem putSlot_tablesOk (h : tablesOk s = true) (n : Nat) (r : SlotRecord) : tablesOk (putSlot s n r) = true := by
  rw [tablesOk_iff] at *
  exact ⟨tablePut_wf n r h.1, h.2⟩

theorem entryRecord_reserved (e : NoticeEntry) : (entryRecord e).reserved = false := by
  unfold entryRecord
  cases e.state <;> rfl

/-- R137: the frame of a Store Notice heard without a break. -/
theorem exec_storeNotice_quiet {r seq : Nat} (h : quiet s r seq = true) {f : StoreNoticeFrame} (hf : noticeCounted f = true) :
    exec (.storeNotice r seq f) s = .next (finish (applyNotice (heard s r seq) r f)) := by
  have frame : exec (.storeNotice r seq f) s =
      .next (receive s r (noticeCounted f) fun t => hearFrame t r seq false fun u => applyNotice u r f) := rfl
  rw [frame, hf, receive_quiet s h]

theorem holds_iff (s : State) (coil : Nat) : (ownHolds s coil || onTrailer s coil) = true ↔
    (∃ k, s.tasks.hookCoil = some k ∧ k.coil = coil) ∨ inHeldSlot s coil = true ∨ onTrailer s coil = true := by
  simp only [ownHolds, onHook, Bool.or_eq_true, Option.any_eq_true, beq_iff_eq, or_assoc]

/-- The answers of a row and tag. -/
def answersOf (row tag : Nat) : Content → Bool
  | .answer row' tag' _ => row' == row && tag' == tag
  | _ => false

/-- R145, R146: an answer of one entry cancels the plan and the answers of its tag and row. -/
theorem suppressAnswers_one (s : State) (tag : Nat) (e : NoticeEntry) : suppressAnswers s tag [e] = { s with
    store := { s.store with plan := s.store.plan.filter fun p => !(p.tag == tag && p.row == slotRow e.slot) }
    link := { s.link with queue := withdrawEntries (answersOf (slotRow e.slot) tag) s.link.queue } } := by
  have withdrawn : (fun c : Content => match c with
      | .answer row t _ => t == tag && [e].any fun e => slotRow e.slot == row
      | _ => false) = answersOf (slotRow e.slot) tag := by
    funext c
    cases c with
    | answer row t es => simp [answersOf, Bool.and_comm, BEq.comm (a := row)]
    | _ => rfl
  have plan : (if s.store.plan.any fun p => p.tag == tag && [e].any fun e => slotRow e.slot == p.row then
      { s with store := { s.store with plan := none } } else s) = { s with store := { s.store with
        plan := s.store.plan.filter fun p => !(p.tag == tag && p.row == slotRow e.slot) } } := by
    cases hp : s.store.plan with
    | none => exact (show s = { s with store := { s.store with plan := none } } by rw [← hp])
    | some p =>
      simp only [Option.any_some, List.any_cons, List.any_nil, Bool.or_false, Option.filter_some, BEq.comm (a := slotRow e.slot)]
      by_cases h : (p.tag == tag && p.row == slotRow e.slot) = true
      · rw [if_pos h, if_neg (by simp [h])]
      · rw [if_neg h, if_pos (by simp [h]), ← hp]
  unfold suppressAnswers
  dsimp only
  rw [plan]
  exact congrArg (withdraw _) withdrawn

/-! ## Several entries, none of which clashes -/

/-- Entries that can be applied one after the other: their slots are in use and not held, and their coils, recorded nowhere,
differ. -/
structure Applicable (s : State) (es : List NoticeEntry) : Prop where
  tables : tablesOk s = true
  slots : ∀ e ∈ es, slotInUse s.conf e.slot = true ∧ heldSlot s e.slot = false
  coils : ∀ e ∈ es, e.state = .occupied → e.coil.getD 0 ≠ 0 ∧ onHook s (e.coil.getD 0) = false ∧
    onTrailer s (e.coil.getD 0) = false ∧ ∀ n, (slotAt s n).coilIn ≠ some (e.coil.getD 0)
  apart : (es.filterMap fun e => if e.state = .occupied then some (e.coil.getD 0) else none).Nodup

/-- The entries' values put in their slots. -/
def putEntries (s : State) (es : List NoticeEntry) : State := es.foldl (fun v e => putSlot v e.slot (entryRecord e)) s

theorem entryRecord_coil (e : NoticeEntry) {c : Nat} (h : (entryRecord e).coilIn = some c) :
    e.state = .occupied ∧ e.coil.getD 0 = c := by
  unfold entryRecord at h
  cases he : e.state <;> simp_all [SlotRecord.coilIn]

theorem putSlot_slotAt (h : tablesOk s = true) (n m : Nat) (r : SlotRecord) :
    slotAt (putSlot s n r) m = if m = n then r else slotAt s m := by
  split
  · subst m
    exact slotAt_put_same s n r ((tablesOk_iff s).mp h).1
  · exact slotAt_put_other s r ‹_›

theorem Applicable.step {e : NoticeEntry} {es : List NoticeEntry} (h : Applicable s (e :: es)) (sender : Nat) (rows : List Nat) :
    applyEntry sender false (s, rows) e = (putSlot s e.slot (entryRecord e),
      if rows.contains (slotRow e.slot) then rows else rows ++ [slotRow e.slot]) ∧
    Applicable (putSlot s e.slot (entryRecord e)) es ∧
    ∀ n, heldSlot (putSlot s e.slot (entryRecord e)) n = heldSlot s n := by
  obtain ⟨use, held⟩ := h.slots e (by simp)
  have own := h.coils e (by simp)
  have notHeld (c : Nat) (hc : ∀ n, (slotAt s n).coilIn ≠ some c) : inHeldSlot s c = false := by
    rw [inHeldSlot, (findSlot_eq_none h.tables).mpr fun n _ => by simp [hc n]]
    rfl
  have reserved (n : Nat) : (slotAt (putSlot s e.slot (entryRecord e)) n).reserved = (slotAt s n).reserved := by
    rw [putSlot_slotAt h.tables]
    split
    · subst n
      simp only [heldSlot, Bool.or_eq_false_iff] at held
      rw [entryRecord_reserved, held.1]
    · rfl
  have same := heldSlot_congr (s := s) (t := putSlot s e.slot (entryRecord e)) rfl reserved
  refine ⟨?_, ⟨putSlot_tablesOk h.tables _ _, fun f hf => ?_, fun f hf ho => ?_, ?_⟩, same⟩
  · rw [applyEntry_applied sender false rows (fun k => (own k.1).1 k.2) use held fun ho => ?_,
      otherMarked_none h.tables fun ho m _ => (own ho).2.2.2 m]
    obtain ⟨-, hook, trailer, nowhere⟩ := own ho
    rw [ownHolds, hook, notHeld _ nowhere, trailer]
    rfl
  · rw [same]
    exact h.slots f (by simp [hf])
  · obtain ⟨h1, h2, h3, h4⟩ := h.coils f (by simp [hf]) ho
    refine ⟨h1, h2, h3, fun n => ?_⟩
    rw [putSlot_slotAt h.tables]
    split
    · intro hcoil
      obtain ⟨hoe, hce⟩ := entryRecord_coil e hcoil
      have apart := h.apart
      rw [List.filterMap_cons_some (b := e.coil.getD 0) (by simp [hoe]), List.nodup_cons] at apart
      exact apart.1 (List.mem_filterMap.mpr ⟨f, hf, by simp [ho, hce]⟩)
    · exact h4 n
  · have apart := h.apart
    by_cases ho : e.state = .occupied
    · rw [List.filterMap_cons_some (b := e.coil.getD 0) (by simp [ho]), List.nodup_cons] at apart
      exact apart.2
    · rwa [List.filterMap_cons_none (by simp [ho])] at apart

/-- The rows in which entries are applied, each once, in the order of the first entry of each. -/
def touchedRows (rows : List Nat) (es : List NoticeEntry) : List Nat :=
  es.foldl (fun l e => if l.contains (slotRow e.slot) then l else l ++ [slotRow e.slot]) rows

theorem touchedRows_mem (row : Nat) : ∀ (es : List NoticeEntry) (rows : List Nat),
    row ∈ touchedRows rows es ↔ row ∈ rows ∨ ∃ e ∈ es, slotRow e.slot = row
  | [], rows => by simp [touchedRows]
  | e :: es, rows => by
    have rest := touchedRows_mem row es (if rows.contains (slotRow e.slot) then rows else rows ++ [slotRow e.slot])
    unfold touchedRows at *
    rw [List.foldl_cons, rest]
    by_cases hc : slotRow e.slot ∈ rows
    · rw [if_pos (by simpa using hc)]
      constructor
      · rintro (h | ⟨f, hf, h⟩)
        · exact .inl h
        · exact .inr ⟨f, by simp [hf], h⟩
      · rintro (h | ⟨f, hf, h⟩)
        · exact .inl h
        · rcases List.mem_cons.mp hf with rfl | hf
          · exact .inl (h ▸ hc)
          · exact .inr ⟨f, hf, h⟩
    · rw [if_neg (by simpa using hc)]
      simp only [List.mem_append, List.mem_cons, List.not_mem_nil, false_or, exists_eq_or_imp, or_assoc, eq_comm (a := row)]

theorem touchedRows_nodup : ∀ (es : List NoticeEntry) (rows : List Nat), rows.Nodup → (touchedRows rows es).Nodup
  | [], _, h => h
  | e :: es, rows, h => by
    unfold touchedRows
    rw [List.foldl_cons]
    refine touchedRows_nodup es _ ?_
    split
    · exact h
    · rename_i hc
      refine List.Nodup.append h (List.nodup_singleton _) ?_
      intro x hx hy
      rw [List.mem_singleton.mp hy] at hx
      exact hc (by simpa using hx)

/-- R137: entries applied one after the other. -/
theorem Applicable.applied (sender : Nat) : ∀ {es : List NoticeEntry} {s : State} (rows : List Nat), Applicable s es →
    es.foldl (applyEntry sender false) (s, rows) = (putEntries s es, touchedRows rows es) ∧
      tablesOk (putEntries s es) = true ∧ (∀ n, heldSlot (putEntries s es) n = heldSlot s n) ∧
      StoreWork s (putEntries s es) ∧ (putEntries s es).port = s.port
  | [], s, rows, h => ⟨rfl, h.tables, fun _ => rfl, .refl s, rfl⟩
  | e :: es, s, rows, h => by
    obtain ⟨first, next, held⟩ := h.step sender rows
    obtain ⟨fold, tables, held', work, port⟩ := next.applied sender
      (if rows.contains (slotRow e.slot) then rows else rows ++ [slotRow e.slot])
    refine ⟨?_, tables, fun n => (held' n).trans (held n), (putSlot_work s _ _).trans work, port⟩
    rw [List.foldl_cons, first, fold]
    rfl

theorem putEntries_slotAt : ∀ {es : List NoticeEntry} {s : State}, tablesOk s = true → (es.map (·.slot)).Nodup → ∀ n,
    (∀ e ∈ es, e.slot = n → slotAt (putEntries s es) n = entryRecord e) ∧
      ((∀ e ∈ es, e.slot ≠ n) → slotAt (putEntries s es) n = slotAt s n)
  | [], s, _, _, n => by simp [putEntries]
  | e :: es, s, h, hd, n => by
    rw [List.map_cons, List.nodup_cons] at hd
    obtain ⟨written, kept⟩ := putEntries_slotAt (putSlot_tablesOk h e.slot (entryRecord e)) hd.2 n
    refine ⟨fun f hf hn => ?_, fun hn => ?_⟩
    · rcases List.mem_cons.mp hf with rfl | hf
      · refine (kept fun g hg he => hd.1 (List.mem_map.mpr ⟨g, hg, he.trans hn.symm⟩)).trans ?_
        rw [putSlot_slotAt h, if_pos hn.symm]
      · exact written f hf hn
    · refine (kept fun f hf => hn f (by simp [hf])).trans ?_
      rw [putSlot_slotAt h, if_neg fun he => hn e (by simp) he.symm]

/-- R140: the rows of the entries checked, each in its own slots. -/
theorem checkRows_slotAt (sender : Nat) : ∀ (rows : List Nat) {s : State}, tablesOk s = true → rows.Nodup →
    2 ≤ s.conf.lowers ∧ s.conf.lowers ≤ 8 →
    let t := rows.foldl (checkRow sender) s
    (∀ n, slotAt t n = if n / 16 ∈ rows ∧ n ∈ rowSlots s.conf (n / 16) ∧ stackBreak s (n / 16) = true ∧
        heldSlot s n = false then .unknown else slotAt s n) ∧
      tablesOk t = true ∧ StoreWork s t ∧ t.store.outbox = s.store.outbox ∧
      ((∀ row ∈ rows, stackBreak s row = false) → t.port = s.port)
  | [], s, h, _, _ => ⟨fun n => by simp, h, .refl s, rfl, fun _ => rfl⟩
  | row :: rows, s, h, hd, hl => by
    intro t
    obtain ⟨hrow, hd⟩ := List.nodup_cons.mp hd
    let v := checkRow sender s row
    have work : StoreWork s v := checkRow_work sender s row
    have slots (n : Nat) : slotAt v n = if n ∈ rowSlots s.conf row ∧ stackBreak s row = true ∧ heldSlot s n = false
      then .unknown else slotAt s n := checkRow_slotAt h sender row n
    have held := heldSlot_congr (s := s) (t := v) work.conf (checkRow_reserved h sender row)
    have others (k : Nat) (hk : k ≠ row) : ∀ n ∈ rowSlots s.conf k, slotAt v n = slotAt s n := by
      intro n hn
      rw [slots, if_neg]
      rintro ⟨h1, -⟩
      exact hk (((mem_rowSlots hl k n).mp hn).1.symm.trans ((mem_rowSlots hl row n).mp h1).1)
    have breaks (k : Nat) (hk : k ≠ row) : stackBreak v k = stackBreak s k := stackBreak_congr work.conf (others k hk)
    obtain ⟨slots', tables, work', outbox, port⟩ := checkRows_slotAt sender rows (s := v) (checkRow_tablesOk h sender row) hd
      (by rw [work.conf]; exact hl)
    refine ⟨fun n => ?_, tables, work.trans work', outbox.trans (checkRow_outbox sender s row), fun hb => ?_⟩
    · refine (slots' n).trans ?_
      rw [work.conf, held]
      by_cases hn : n / 16 = row
      · rw [if_neg (by rw [hn]; exact fun k => hrow k.1), slots, hn]
        simp
      · rw [breaks _ hn, slots, if_neg (c := n ∈ rowSlots s.conf row ∧ _)]
        · simp [hn]
        · exact fun k => hn ((mem_rowSlots hl row n).mp k.1).1
    · have first : v.port = s.port := checkRow_quiet sender (hb row (by simp))
      refine (port fun k hk => ?_).trans first
      rw [breaks k fun e => hrow (e ▸ hk)]
      exact hb k (by simp [hk])

end Sys2Proof.Machine

namespace Sys2Proof.Proofs

open Machine

/-- Settles O41: the cases of an entry in order, and for several entries the fold with what each leaves for the next. -/
theorem storeNoticeEntry : Obligations.StoreNoticeEntry := by
  intro s r seq e hq ht hconf row frame coil value holds marked applied
  obtain ⟨hr, hn, hs, -⟩ := quiet_parts s hq
  have hl := lowers_of_configured hconf hr
  let w := heard s r seq
  have tables : tablesOk w = true := ht
  have unscanned : finish w = w := finish_settled _ hs
  have hvalue (e : NoticeEntry) : value e = entryRecord e := by
    obtain ⟨_, state, _, _, _⟩ := e
    cases state <;> rfl
  have framed (a : Option Nat) : exec (.storeNotice r seq ⟨a, [e]⟩) s = .next (finish (applyNotice w r ⟨a, [e]⟩)) :=
    exec_storeNotice_quiet hq rfl
  have fresh {v : State} {l : List Nat} (h : applyEntry r false (w, []) e = (v, l)) :
      frame = .next (finish (l.foldl (checkRow r) v)) := by
    have : applyNotice w r ⟨none, [e]⟩ = l.foldl (checkRow r) v := by
      show (applyEntry r false (w, []) e).2.foldl (checkRow r) (applyEntry r false (w, []) e).1 = _
      rw [h]
    rw [show frame = _ from framed none, this]
  have marks {cause : SuspectCause} : marked (.next (finish (markSuspect w row cause (some r)))) cause := by
    refine ⟨_, rfl, rowMarked_congr (u := w) rfl rfl rfl (rowMarked_finish (markSuspect_tablesOk tables _ _ _)
      (markSuspect_marked tables row cause (some r))), ?_⟩
    exact ((markSuspect_work w row cause (some r)).trans (finish_work _)).storeOnly
  have applies {v u : State} (hv : tablesOk v = true) (work : StoreWork w v) (ho : v.store.outbox = s.store.outbox)
      (hc : v.conf = u.conf) (hu : u.conf = s.conf) (hst : v.store = u.store) (he : v.port.events = u.port.events) :
      applied (.next (finish (checkRow r v row))) u row := by
    obtain ⟨done, outbox, broken, sound⟩ := checkRow_applied hv r row
    have breaks : stackBreak v row = stackBreak u row := stackBreak_congr hc fun n _ => slotAt_of_store hst n
    refine ⟨_, rfl, (work.trans done).storeOnly, outbox.trans ho, fun hb => ?_, fun hb => ?_⟩
    · exact rowMarked_congr hc hst he (broken (breaks.trans hb))
    · obtain ⟨h1, h2, h3, h4⟩ := sound (breaks.trans hb)
      rw [hc, hu] at h3 h4
      exact ⟨fun n => (h1 n).trans (slotAt_of_store hst n), h2.trans he, h3,
        fun hk => (h4 hk).trans (congrArg RowRecord.known (rowAt_of_store hst row))⟩
  refine ⟨fun hu => ?_, fun hu => ⟨fun ho hc => ?_, fun hg hh => ?_, fun ho hc hh hk => ?_, fun hg hh => ?_, fun tag hg hh => ?_⟩,
    fun es h1 h6 hd hcd hes => ?_⟩
  · rw [fresh (applyEntry_unused r false [] hu)]
    exact next_eq unscanned
  · rw [fresh (applyEntry_bad r false [] hu ho hc)]
    exact marks
  · rw [fresh ((applyEntry_held (s := w) r false [] hg hu hh).trans (if_neg (by simp)))]
    exact marks
  · rw [fresh (applyEntry_clash r false [] (fun k => hc k.2) hu hh ho ((holds_iff w coil).mpr hk))]
    exact marks
  · have good : ¬ (e.state = .occupied ∧ e.coil.getD 0 = 0) := fun k => hg ⟨k.1, .inl k.2⟩
    have clear (ho : e.state = .occupied) : (ownHolds w coil || onTrailer w coil) = false :=
      Bool.eq_false_iff.mpr fun k => hg ⟨ho, .inr ((holds_iff w coil).mp k)⟩
    have entered := fresh (applyEntry_applied r false [] good hu hh clear)
    change frame = .next (finish (checkRow r (putSlot (otherMarked r w e) e.slot (entryRecord e)) row)) at entered
    refine ⟨fun hc => ?_, fun ho m hm hcm hk => ?_⟩
    · rw [entered, otherMarked_none tables hc, hvalue]
      exact applies (putSlot_tablesOk tables _ _) (putSlot_work w _ _) rfl rfl rfl rfl rfl
    · intro u
      have hnot : inHeldSlot w coil = false := by
        have := clear ho
        simp only [ownHolds, Bool.or_eq_false_iff] at this
        exact this.1.2
      obtain ⟨loose, -⟩ := looseSlot_unique (m := m) (skip := (· == e.slot)) tables hnot hcm (by simpa using hm)
        fun k hs hkm => hk k (by simpa using hs) hkm
      have other : otherMarked r w e = markSuspect w (slotRow m) .coilClash (some r) := by
        rw [otherMarked, ho, loose]
      refine ⟨markSuspect_marked ht _ _ _, ?_⟩
      rw [entered, other, hvalue]
      exact applies (putSlot_tablesOk (markSuspect_tablesOk tables _ _ _) _ _)
        ((markSuspect_work w _ _ _).trans (putSlot_work _ _ _)) rfl rfl rfl rfl rfl
  · intro answer agreed mine h
    let v := suppressAnswers w tag [e]
    have suppressed : v = { w with
        store := { s.store with plan := s.store.plan.filter fun p => !(p.tag == tag && p.row == row) }
        link := { w.link with queue := withdrawEntries mine s.link.queue } } := by
      have names : answersOf row tag = mine := by
        funext c
        cases c <;> rfl
      rw [← names]
      exact suppressAnswers_one w tag e
    have agree : agreed = agrees (slotAt s e.slot) e := by
      obtain ⟨n, state, _, coil, _⟩ := e
      simp only [agreed]
      cases slotAt s n <;> cases state <;> rfl
    have entry := applyEntry_held (s := v) r true [] hg (by rw [suppressed]; exact hu) (by rw [suppressed]; exact hh)
    have agree' : agrees (slotAt v e.slot) e = agreed := by
      rw [agree, suppressed]
      rfl
    rw [agree', Bool.true_and] at entry
    have answered : answer = .next (finish ((applyEntry r true (v, []) e).2.foldl (checkRow r) (applyEntry r true (v, []) e).1)) :=
      framed (some tag)
    refine ⟨fun ha => ?_, fun ha => ?_⟩
    · rw [answered, entry, if_pos ha]
      refine next_eq ((finish_settled _ ?_).trans suppressed)
      show v.scanDue = false
      rw [suppressed]
      exact hs
    · rw [answered, entry, if_neg (by simp [ha])]
      have vtables : tablesOk v = true := by rw [suppressed]; exact ht
      have work : StoreWork w v := by
        rw [suppressed]
        exact ⟨⟨rfl, rfl, rfl, rfl, rfl, rfl, rfl, rfl, rfl, rfl, rfl⟩, rfl, rfl⟩
      obtain ⟨m1, m2, m3, m4, m5⟩ := rowMarked_finish (markSuspect_tablesOk vtables row _ _)
        (markSuspect_marked vtables row .heldSlot (some r))
      have slots (n : Nat) : slotAt v n = slotAt s n := by rw [suppressed]; rfl
      have held (n : Nat) : heldSlot v n = heldSlot s n := heldSlot_congr (by rw [work.conf]; rfl) (fun k => by rw [slots]) n
      have plan : (if v.store.plan.any (·.row == row) then none else v.store.plan) =
          if s.store.plan.any (·.row == row) then none else s.store.plan := by
        rw [suppressed]
        cases s.store.plan with
        | none => rfl
        | some p =>
          simp only [Option.filter_some]
          by_cases hrow : p.row = row
          · cases p.tag == tag <;> simp [hrow]
          · simp [hrow]
      refine ⟨_, rfl, ⟨fun n hn => ?_, fun n hn => ?_, m3, m4.trans plan, m5.trans ?_⟩,
        ((work.trans (markSuspect_work v row _ _)).trans (finish_work _)).storeOnly⟩
      · rw [← held, ← slots n]
        exact m1 n (by rw [work.conf]; exact hn)
      · exact (m2 n (by rw [work.conf]; exact hn)).trans (slots n)
      · rw [suppressed]
        rfl
  · intro u
    have counted : noticeCounted ⟨none, es⟩ = true := by simp [noticeCounted, Config.noticeEntries, h1, h6]
    have fits : Applicable w es := by
      refine ⟨ht, fun e he => ⟨(hes e he).1, (hes e he).2.1⟩, fun e he ho => ?_, hcd⟩
      obtain ⟨-, -, hc⟩ := hes e he
      obtain ⟨h0, hfree, hnew⟩ := hc ho
      have clear : (ownHolds w (e.coil.getD 0) || onTrailer w (e.coil.getD 0)) = false :=
        Bool.eq_false_iff.mpr fun k => hfree ((holds_iff w _).mp k)
      simp only [ownHolds, Bool.or_eq_false_iff] at clear
      refine ⟨h0, clear.1.1, clear.2, fun n hn => ?_⟩
      obtain ⟨c, hcoil⟩ : ∃ c, e.coil = some c := by
        cases hcoil : e.coil with
        | none => rw [hcoil] at h0; exact absurd rfl h0
        | some c => exact ⟨c, rfl⟩
      rw [hcoil, Option.getD_some] at hn
      change (slotAt s n).coilIn = some c at hn
      have listed : (n, slotAt s n) ∈ s.store.slots :=
        (mem_table ((tablesOk_iff s).mp ht).1 n _).mpr ⟨fun k => (by rw [k] at hn; cases hn), rfl⟩
      exact hnew _ listed (hn.trans hcoil.symm)
    obtain ⟨fold, tables', held, work, port⟩ := fits.applied r []
    have touched (row : Nat) : row ∈ touchedRows [] es ↔ ∃ e ∈ es, slotRow e.slot = row := by
      rw [touchedRows_mem]
      simp
    have conf : (putEntries w es).conf = s.conf := work.conf
    obtain ⟨slots, tables'', work', outbox, quietly⟩ := checkRows_slotAt r (touchedRows [] es) tables'
      (touchedRows_nodup es [] List.nodup_nil) (by rw [conf]; exact hl)
    rw [conf] at slots
    have hu : ∀ n, slotAt u n = slotAt (putEntries w es) n := by
      have folded : u = putEntries s es := by
        simp only [u, putEntries, hvalue]
      intro n
      rw [folded]
      by_cases hn : ∃ e ∈ es, e.slot = n
      · obtain ⟨e, he, hen⟩ := hn
        rw [(putEntries_slotAt ht hd n).1 e he hen, (putEntries_slotAt tables hd n).1 e he hen]
      · have hn' : ∀ e ∈ es, e.slot ≠ n := fun e he hen => hn ⟨e, he, hen⟩
        rw [(putEntries_slotAt ht hd n).2 hn', (putEntries_slotAt tables hd n).2 hn']
        rfl
    have uconf : u.conf = s.conf := (StoreWork.foldl (fun v e => putSlot_work v e.slot (value e)) es s).conf
    have breaks (row : Nat) : stackBreak (putEntries w es) row = stackBreak u row :=
      stackBreak_congr (conf.trans uconf.symm) fun n _ => (hu n).symm
    let t := (touchedRows [] es).foldl (checkRow r) (putEntries w es)
    have done : exec (.storeNotice r seq ⟨none, es⟩) s = .next (finish t) := by
      rw [exec_storeNotice_quiet hq counted]
      show Host.Outcome.next (finish ((es.foldl (applyEntry r false) (w, [])).2.foldl (checkRow r)
        (es.foldl (applyEntry r false) (w, [])).1)) = _
      rw [fold]
    have final (n : Nat) : slotAt (finish t) n = slotAt t n := slotAt_of_slots (by simp) n
    refine ⟨_, done, ((work.trans work').trans (finish_work _)).storeOnly, fun e he => ⟨?_, fun n hn => ?_⟩, fun n hn => ?_, fun hb => ?_⟩
    · rw [hu, hvalue]
      exact (putEntries_slotAt tables hd _).1 e he rfl
    · have hrow := ((mem_rowSlots hl _ n).mp hn).1
      rw [final, slots n, hrow, breaks, held, hu]
      have : e.slot / 16 ∈ touchedRows [] es := (touched _).mpr ⟨e, he, rfl⟩
      simp only [this, hn, true_and]
      rfl
    · have away : ∀ e ∈ es, e.slot ≠ n := by
        rintro e he rfl
        exact hn e he (mem_rowSlots_of_inUse hl (hes e he).1)
      rw [final, slots n, if_neg, (putEntries_slotAt tables hd n).2 away]
      · rfl
      · rintro ⟨hrow, hmem, -⟩
        obtain ⟨e, he, hrow⟩ := (touched _).mp hrow
        exact hn e he (by rw [show e.slot / 16 = n / 16 from hrow]; exact hmem)
    · have quiet : t.port = (putEntries w es).port := by
        refine quietly fun row hrow => ?_
        obtain ⟨e, he, rfl⟩ := (touched _).mp hrow
        rw [breaks]
        exact hb e he
      rw [show (finish t).port = t.port by simp, quiet, port]
      rfl

end Sys2Proof.Proofs

/-! SUPPORT. A peer's Bay Notice: the named cradles' coils tested one after the other (R184, R185). -/

namespace Sys2Proof.Machine

variable {s t u v w : State}

/-! ## A bay record written twice -/

theorem withBay_withBay (s : State) (b : Nat) (r q : BayRecord) : (s.withBay b r).withBay b q = s.withBay b q := by
  show { s with bays := putBay (putBay s.bays b r) b q } = { s with bays := putBay s.bays b q }
  have twice : putBay (putBay s.bays b r) b q = putBay s.bays b q := by
    unfold putBay
    split <;> first | rfl | (split <;> first | rfl | simp_all)
  rw [twice]

theorem withBay_self (s : State) (b : Nat) : s.withBay b (s.bay b) = s := by
  have same : putBay s.bays b (s.bay b) = s.bays := by
    unfold putBay
    split <;> rfl
  rw [State.withBay, same]

theorem withBay_beyond (s : State) {b : Nat} (h : 3 < b) (r : BayRecord) : s.withBay b r = s := by
  obtain ⟨k, rfl⟩ : ∃ k, b = k + 4 := ⟨b - 4, by omega⟩
  rfl

theorem unname_withBay (s : State) (b coil : Nat) (r : BayRecord) :
    unname (s.withBay b r) coil b = s.withBay b (unnameIn r coil) := by
  by_cases hb : b ≤ 3
  · rw [unname, withBay_bay _ _ hb, withBay_withBay]
  · rw [unname, withBay_beyond _ (by omega), withBay_beyond _ (by omega), withBay_beyond _ (by omega)]

/-! ## Coils of a notice that change no other record -/

/-- A coil that the notice's test finds nowhere but, it may be, in an own place. -/
def quietCoil (s : State) (bay coil : Nat) : Prop :=
  ownHolds s coil = true ∨ (looseSlotWith s coil (fun _ => false) = none ∧
    ∀ b ∈ [0, 1, 2, 3], b ≠ bay → bayHoldsCoil s b coil = false)

/-- R185: such coils only make the notice's own cradles unnamed. -/
theorem nameCradles_quiet (sender bay : Nat) : ∀ (l : List Nat) (s : State) (r : BayRecord), (∀ c ∈ l, quietCoil s bay c) →
    l.foldl (nameCradle sender bay) (s.withBay bay r) = s.withBay bay ((l.filter (ownHolds s)).foldl unnameIn r)
  | [], _, _, _ => rfl
  | c :: l, s, r, h => by
    have rest := fun q => nameCradles_quiet sender bay l s q fun d hd => h d (by simp [hd])
    rw [List.foldl_cons]
    have own : ownHolds (s.withBay bay r) c = ownHolds s c := rfl
    by_cases hc : ownHolds s c = true
    · rw [nameCradle, own, if_pos hc, unname_withBay, rest, List.filter_cons_of_pos hc]
      rfl
    · obtain ⟨loose, bays⟩ := (h c (by simp)).resolve_left hc
      have none : looseSlotWith (s.withBay bay r) c (fun _ => false) = none := loose
      have idle : unnameBays (s.withBay bay r) c ([0, 1, 2, 3].filter (· ≠ bay)) = s.withBay bay r := by
        refine unnameBays_idle fun b hb => ?_
        obtain ⟨hb, hne⟩ := List.mem_filter.mp hb
        have hne : b ≠ bay := by simpa using hne
        have := bays b hb hne
        rwa [bayHoldsCoil, withBay_other _ _ hne]
      rw [nameCradle, own, if_neg hc, none, List.filter_cons_of_neg hc]
      rw [← rest r]
      exact congrArg (l.foldl (nameCradle sender bay)) idle

/-- R185: cradles made unnamed for several coils. -/
def unnamedBy (p : Nat → Prop) [DecidablePred p] : CradleRecord → CradleRecord
  | .loaded (some c) w => .loaded (if p c then none else some c) w
  | k => k

theorem unnameAll_eq : ∀ (l : List Nat) (b : BayRecord), l.foldl unnameIn b = { b with
    load := b.load.map fun x => { x with cradles := x.cradles.map (unnamedBy (· ∈ l)) } }
  | [], b => by
    have id (k : CradleRecord) : unnamedBy (· ∈ ([] : List Nat)) k = k := by
      cases k with
      | loaded c w => cases c <;> simp [unnamedBy]
      | _ => rfl
    have same : (unnamedBy (· ∈ ([] : List Nat))) = fun k => k := funext id
    obtain ⟨st, load, an, un⟩ := b
    cases load <;> simp [same]
  | c :: l, b => by
    have both (k : CradleRecord) : unnamedBy (· ∈ l) (unnamed c k) = unnamedBy (· ∈ c :: l) k := by
      cases k with
      | loaded d w =>
        cases d with
        | none => rfl
        | some d =>
          by_cases hd : d = c
          · simp [unnamed, unnamedBy, hd]
          · simp [unnamed, unnamedBy, hd]
      | _ => rfl
    have composed : unnamedBy (· ∈ l) ∘ unnamed c = unnamedBy (· ∈ c :: l) := funext both
    rw [List.foldl_cons, unnameAll_eq l, unnameIn_eq]
    obtain ⟨st, load, an, un⟩ := b
    cases load <;> simp [composed]

/-- R184: the record that a notice gives its bay. -/
def noticeRecord (sender : Nat) (f : BayNoticeFrame) : BayRecord :=
  ⟨f.state, f.load.map fun l => ⟨l.trailer, f.remaining, l.cradles.map takenCradle⟩, some (.peer sender), false⟩

/-- The coils that a notice names. -/
def noticeCoils (f : BayNoticeFrame) : List Nat := (f.load.map fun l => l.cradles.filterMap noticeCoil).getD []

/-- R184, R185: a cradle of a notice, its coil left out where an own place prevails. -/
def takenUnnamed (p : Nat → Bool) : NoticeCradle → CradleRecord
  | .empty => .empty
  | .reserved => .reserved .foreign
  | .loaded coil w => .loaded (if p coil then none else some coil) w
  | .unnamed w => .loaded none w

theorem noticeRecord_unnamed (sender : Nat) (f : BayNoticeFrame) (p : Nat → Bool) :
    ((noticeCoils f).filter p).foldl unnameIn (noticeRecord sender f) = { noticeRecord sender f with
      load := f.load.map fun l => ⟨l.trailer, f.remaining, l.cradles.map (takenUnnamed p)⟩ } := by
  rw [unnameAll_eq]
  obtain ⟨bay, st, remaining, load⟩ := f
  cases load with
  | none => rfl
  | some l =>
    have cradle : l.cradles.map (unnamedBy (· ∈ (noticeCoils ⟨bay, st, remaining, some l⟩).filter p) ∘ takenCradle) =
        l.cradles.map (takenUnnamed p) := by
      refine List.map_congr_left fun k hk => ?_
      cases k with
      | loaded c w =>
        have mem : c ∈ noticeCoils ⟨bay, st, remaining, some l⟩ := List.mem_filterMap.mpr ⟨_, hk, rfl⟩
        simp [unnamedBy, takenUnnamed, takenCradle, mem]
      | _ => rfl
    simp [noticeRecord, cradle]

/-- R184, R185: a notice that fits, of a bay that is not held. -/
theorem applyBayNotice_taken {sender : Nat} {f : BayNoticeFrame} (hf : bayNoticeOk s.conf f = true)
    (hb : heldBay (s.bay f.bay) = false) : applyBayNotice s sender f =
      (noticeCoils f).foldl (nameCradle sender f.bay) (s.withBay f.bay (noticeRecord sender f)) := by
  simp only [applyBayNotice, hf, hb]
  rfl

/-- The coils of a notice that fits are named once. -/
theorem noticeCoils_nodup {c : StartRecord} {f : BayNoticeFrame} (hf : bayNoticeOk c f = true) : (noticeCoils f).Nodup := by
  obtain ⟨bay, st, remaining, load⟩ := f
  cases load with
  | none => exact List.nodup_nil
  | some l =>
    cases st <;> simp only [bayNoticeOk, Bool.and_eq_true, decide_eq_true_eq, Bool.and_false, Bool.false_eq_true] at hf
    all_goals exact hf.2.2

/-! ## A coil in a slot that is not held (R185) -/

theorem inHeldSlot_iff (h : tablesOk s = true) (coil : Nat) :
    inHeldSlot s coil = true ↔ ∃ n, (slotAt s n).coilIn = some coil ∧ heldSlot s n = true := by
  rw [inHeldSlot, Option.isSome_iff_ne_none, ne_eq, findSlot_eq_none h]
  push Not
  constructor
  · rintro ⟨n, -, hn⟩
    exact ⟨n, by simpa using hn⟩
  · rintro ⟨n, hn, hh⟩
    exact ⟨n, fun e => (by rw [e] at hn; cases hn), by simp [hn, hh]⟩

theorem looseSlot_none_iff (h : tablesOk s = true) (coil : Nat) : looseSlotWith s coil (fun _ => false) = none ↔
    ∀ n, (slotAt s n).coilIn = some coil → heldSlot s n = true := by
  rw [looseSlotWith, findSlot_eq_none h]
  have reserved (n : Nat) (hh : heldSlot s n = false) : (slotAt s n).reserved = false := by
    simp only [heldSlot, Bool.or_eq_false_iff] at hh
    exact hh.1
  constructor
  · intro k n hn
    by_contra hh
    have hh := Bool.eq_false_iff.mpr hh
    have := k n fun e => (by rw [e] at hn; cases hn)
    simp [hn, hh, reserved n hh] at this
  · intro k n _
    by_cases hn : (slotAt s n).coilIn = some coil
    · simp [k n hn]
    · simp [hn]

theorem markSuspect_held (h : tablesOk s = true) (row : Nat) (c : SuspectCause) (rank : Option Nat) (n : Nat) :
    heldSlot (markSuspect s row c rank) n = heldSlot s n := by
  refine heldSlot_congr (markSuspect_work s row c rank).conf (fun m => ?_) n
  rw [markSuspect_slotAt, markRow_slotAt h]
  split
  · rename_i hm
    have held := hm.2
    simp only [heldSlot, Bool.or_eq_false_iff] at held
    rw [held.1]
    rfl
  · rfl

/-- R131: a coil found after a row was marked was found before. -/
theorem markSuspect_coil (h : tablesOk s = true) (row : Nat) (c : SuspectCause) (rank : Option Nat) {n coil : Nat}
    (hn : (slotAt (markSuspect s row c rank) n).coilIn = some coil) : (slotAt s n).coilIn = some coil := by
  rw [markSuspect_slotAt, markRow_slotAt h] at hn
  split at hn
  · cases hn
  · exact hn

/-- R131: marking a row leaves the held slots, and so what prevails. -/
theorem markSuspect_ownHolds (h : tablesOk s = true) (row : Nat) (c : SuspectCause) (rank : Option Nat) (coil : Nat) :
    ownHolds (markSuspect s row c rank) coil = ownHolds s coil := by
  have held : inHeldSlot (markSuspect s row c rank) coil = inHeldSlot s coil := by
    rw [Bool.eq_iff_iff, inHeldSlot_iff h, inHeldSlot_iff (markSuspect_tablesOk h row c rank)]
    refine exists_congr fun n => ?_
    rw [markSuspect_held h]
    constructor
    · exact fun ⟨hn, hh⟩ => ⟨markSuspect_coil h row c rank hn, hh⟩
    · rintro ⟨hn, hh⟩
      refine ⟨?_, hh⟩
      rw [markSuspect_slotAt, markRow_slotAt h, if_neg (by simp [hh]), hn]
  rw [ownHolds, held, ownHolds]
  rfl

theorem markSuspect_quietCoil (h : tablesOk s = true) (row : Nat) (c : SuspectCause) (rank : Option Nat) {bay coil : Nat}
    (hq : quietCoil s bay coil) : quietCoil (markSuspect s row c rank) bay coil := by
  rcases hq with hq | ⟨hl, hb⟩
  · exact .inl ((markSuspect_ownHolds h row c rank coil).trans hq)
  · refine .inr ⟨(looseSlot_none_iff (markSuspect_tablesOk h row c rank) coil).mpr fun n hn => ?_, hb⟩
    rw [markSuspect_held h]
    exact (looseSlot_none_iff h coil).mp hl n (markSuspect_coil h row c rank hn)

end Sys2Proof.Machine

namespace Sys2Proof.Machine

variable {s t u v w : State}

/-- R185: a coil that cradles elsewhere still name was named there before. -/
theorem unnameBays_holds (coil c : Nat) {l : List Nat} (hl : l.Nodup) {b : Nat}
    (h : bayHoldsCoil (unnameBays s c l) b coil = true) : bayHoldsCoil s b coil = true := by
  rw [bayHoldsCoil_iff] at *
  obtain ⟨k, hk, he⟩ := h
  rw [unnameBays_bay _ _ _ _ hl] at hk
  split at hk
  · rw [unnameIn_cradles] at hk
    obtain ⟨k', hk', rfl⟩ := List.mem_map.mp hk
    refine ⟨k', hk', ?_⟩
    cases k' with
    | loaded d w =>
      cases d with
      | none => exact he
      | some d =>
        by_cases hd : d = c
        · rw [unnamed, if_pos hd] at he
          cases he
        · rwa [unnamed, if_neg hd] at he
    | _ => exact he
  · exact ⟨k, hk, he⟩

theorem unnameBays_quietCoil (c : Nat) {l : List Nat} (hl : l.Nodup) {bay coil : Nat} (hq : quietCoil s bay coil) :
    quietCoil (unnameBays s c l) bay coil := by
  obtain ⟨b, e⟩ := unnameBays_eq c l s
  rcases hq with hq | ⟨hn, hb⟩
  · rw [e]
    exact .inl hq
  · refine .inr ⟨by rw [e]; exact hn, fun k hk hne => ?_⟩
    exact Bool.eq_false_iff.mpr fun h => Bool.eq_false_iff.mp (hb k hk hne) (unnameBays_holds coil c hl h)

end Sys2Proof.Machine

namespace Sys2Proof.Proofs

open Machine

/-- Settles O47: the coils before and after the one that lies elsewhere are quiet (`nameCradles_quiet`). -/
theorem bayNotice : Obligations.BayNotice := by
  intro s r seq f hq notice coils mine elsewhere record
  obtain ⟨hr, hn, hs, -⟩ := quiet_parts s hq
  let w := heard s r seq
  have framed (b : Body BayNoticeFrame) : exec (.bayNotice r seq b) s = .next (finish (bayNoticeTaken r b w)) :=
    next_eq (receive_quiet s hq false _)
  have unscanned : finish w = w := finish_settled _ hs
  have taken : notice = .next (finish (applyBayNotice w r f)) := framed (.fields f)
  have quietIff (coil : Nat) : (mine coil = true ∨ elsewhere coil = false) → quietCoil w f.bay coil := by
    rintro (h | h)
    · exact .inl h
    · simp only [elsewhere, Bool.or_eq_false_iff, List.any_eq_false, Bool.and_eq_true, bne_iff_ne, not_and] at h
      refine .inr ⟨Option.not_isSome_iff_eq_none.mp (by rw [show (looseSlotWith w coil fun _ => false).isSome = false from h.1]; simp), fun b hb hne => ?_⟩
      exact Bool.eq_false_iff.mpr (h.2 b hb hne)
  have recorded : ((noticeCoils f).filter (ownHolds w)).foldl unnameIn (noticeRecord r f) = record true := by
    rw [noticeRecord_unnamed]
    have cradle : takenUnnamed (ownHolds w) = fun k => match k with
        | .empty => .empty
        | .reserved => .reserved .foreign
        | .loaded coil w => .loaded (if true && mine coil then none else some coil) w
        | .unnamed w => .loaded none w := by
      funext k
      cases k <;> rfl
    rw [cradle]
    rfl
  refine ⟨(framed .misfit).trans (next_eq unscanned), fun hf => ?_, fun hf hb => ?_, fun hf hb => ⟨fun hc => ?_, fun c hc hm ho => ?_⟩⟩
  · rw [taken]
    refine next_eq ?_
    have idle : applyBayNotice w r f = w := if_pos (by simp [show bayNoticeOk w.conf f = false from hf])
    rw [idle, unscanned]
  · rw [taken]
    have queued : applyBayNotice w r f = offer w (.bayNotice f.bay) := by
      unfold applyBayNotice
      rw [if_neg (by simp [show bayNoticeOk w.conf f = true from hf]), if_pos (show heldBay (w.bay f.bay) = true from hb)]
      rfl
    rw [queued, finish_settled _ (by rw [offer_scanDue]; exact hs)]
  · rw [taken, applyBayNotice_taken (s := w) hf hb, nameCradles_quiet _ _ (noticeCoils f) _ _ (fun coil h => quietIff coil (hc coil h)), recorded]
    exact next_eq (finish_settled _ hs)
  · have nodup := noticeCoils_nodup hf
    obtain ⟨l1, l2, split⟩ := List.append_of_mem (show c ∈ noticeCoils f from hc)
    rw [split] at nodup
    have apart : c ∉ l1 ∧ c ∉ l2 := by
      rw [List.nodup_append, List.nodup_cons] at nodup
      exact ⟨fun h => nodup.2.2 c h c (by simp) rfl, nodup.2.1.1⟩
    have quiet (coil : Nat) (h : coil ∈ l1 ∨ coil ∈ l2) : quietCoil w f.bay coil := by
      refine quietIff coil (ho coil ?_ fun e => ?_)
      · show coil ∈ noticeCoils f
        rw [split]
        rcases h with h | h <;> simp [h]
      · subst e
        exact h.elim apart.1 apart.2
    let R := (l1.filter (ownHolds w)).foldl unnameIn (noticeRecord r f)
    have notMine : ownHolds w c = false := hm
    have all : (l2.filter (ownHolds w)).foldl unnameIn R = record true := by
      rw [← recorded, split, List.filter_append, List.filter_cons_of_neg (by simp [notMine]), List.foldl_append]
    have reached : applyBayNotice w r f = l2.foldl (nameCradle r f.bay) (nameCradle r f.bay (w.withBay f.bay R) c) := by
      rw [applyBayNotice_taken (s := w) hf hb, split, List.foldl_append,
        nameCradles_quiet _ _ _ _ _ fun coil h => quiet coil (.inl h)]
      rfl
    refine ⟨fun n hcn hun ht => ?_, fun hl he hconf => ?_⟩
    · have tables : tablesOk w = true := ht
      have notHeld : inHeldSlot w c = false := by
        simp only [ownHolds, Bool.or_eq_false_iff] at notMine
        exact notMine.2
      obtain ⟨loose, -⟩ := looseSlot_unique (s := w) (m := n) (skip := fun _ => false) tables notHeld hcn rfl
        fun k _ hk => hun k hk
      let m := markSuspect w (n / 16) .coilClash (some r)
      have marked : nameCradle r f.bay (w.withBay f.bay R) c = m.withBay f.bay R := by
        have own : ownHolds (w.withBay f.bay R) c = false := notMine
        have loose' : looseSlotWith (w.withBay f.bay R) c (fun _ => false) = some n := loose
        rw [nameCradle, if_neg (by simp [own]), loose']
        rfl
      have same : l2.filter (ownHolds m) = l2.filter (ownHolds w) :=
        List.filter_congr fun d _ => markSuspect_ownHolds tables _ _ _ d
      have final : applyBayNotice w r f = m.withBay f.bay (record true) := by
        rw [reached, marked, nameCradles_quiet _ _ _ _ _ fun d hd => markSuspect_quietCoil tables _ _ _ (quiet d (.inr hd)),
          same, all]
      have work : StoreWork w m := markSuspect_work w _ _ _
      have mtables : tablesOk m = true := markSuspect_tablesOk tables _ _ _
      rw [taken, final]
      refine ⟨_, rfl, ?_, ?_, ?_, ?_, ?_, ?_, ?_⟩
      · refine rowMarked_congr (u := w) rfl rfl rfl (rowMarked_finish (t := m.withBay f.bay (record true)) mtables ?_)
        exact markSuspect_marked tables (n / 16) .coilClash (some r)
      · rw [(finish_work _).bays]
        show putBay m.bays _ _ = putBay w.bays _ _
        rw [work.bays]
      · exact (finish_work _).peers.trans work.peers
      · exact (finish_work _).tasks.trans work.tasks
      · exact (finish_work _).claim.trans work.claim
      · exact (finish_work _).travel.trans work.travel
      · exact (finish_work _).node.trans work.node
    · have three : f.bay ≤ 3 := by
        have count := range_of_checked (conf_checked hconf hr) (n := 47) (x := s.conf.bayCount) (a := 0) (b := 4) (by simp [rangeTests])
        have : f.bay < s.conf.bayCount := by
          unfold bayNoticeOk at hf
          rw [Bool.and_eq_true, decide_eq_true_eq] at hf
          exact hf.1
        omega
      let others := [0, 1, 2, 3].filter (· ≠ f.bay)
      have nodup' : others.Nodup := (by decide : [0, 1, 2, 3].Nodup).filter _
      let x := unnameBays (w.withBay f.bay R) c others
      have cleared : nameCradle r f.bay (w.withBay f.bay R) c = x := by
        have own : ownHolds (w.withBay f.bay R) c = false := notMine
        have loose' : looseSlotWith (w.withBay f.bay R) c (fun _ => false) = none := hl
        rw [nameCradle, if_neg (by simp [own]), loose']
        rfl
      obtain ⟨b, eb⟩ := unnameBays_eq c others (w.withBay f.bay R)
      have eb : x = { w with bays := b } := eb
      have own : ownHolds x = ownHolds w := by rw [eb]; rfl
      have xbay (k : Nat) : x.bay k = if k ∈ others then unnameIn ((w.withBay f.bay R).bay k) c else (w.withBay f.bay R).bay k :=
        unnameBays_bay c k others _ nodup'
      have xown : x.bay f.bay = R := by
        rw [xbay, if_neg (by simp [others]), withBay_bay _ _ three]
      have quiet' (d : Nat) (hd : d ∈ l2) : quietCoil x f.bay d := by
        refine unnameBays_quietCoil c nodup' ?_
        rcases quiet d (.inr hd) with h | ⟨h1, h2⟩
        · exact .inl h
        · refine .inr ⟨h1, fun k hk hne => ?_⟩
          rw [bayHoldsCoil, withBay_other _ _ hne]
          exact h2 k hk hne
      have final : applyBayNotice w r f = x.withBay f.bay (record true) := by
        rw [reached, cleared]
        conv_lhs => rw [← withBay_self x f.bay]
        rw [nameCradles_quiet _ _ _ _ _ quiet', own, xown, all]
      rw [taken, final]
      have scan : (x.withBay f.bay (record true)).scanDue = false := by
        rw [eb]
        exact hs
      refine ⟨_, next_eq (finish_settled _ scan), ?_, withBay_bay _ _ three, fun k hk => ?_⟩
      · rw [eb]
        rfl
      · rw [withBay_other _ _ hk, xbay, withBay_other _ _ hk]
        have named : unnamed c = fun k => match k with
            | .loaded (some d) w => .loaded (if d = c then none else some d) w
            | k => k := by
          funext k
          cases k with
          | loaded d w =>
            cases d with
            | none => rfl
            | some d => exact (apply_ite (CradleRecord.loaded · w) _ _ _).symm
          | _ => rfl
        have inOthers : unnameIn (s.bay k) c = if k ∈ others then unnameIn (w.bay k) c else w.bay k := by
          split
          · rfl
          · rename_i h
            have : 3 < k := by
              by_contra h3
              have : k = 0 ∨ k = 1 ∨ k = 2 ∨ k = 3 := by omega
              exact h (List.mem_filter.mpr ⟨by simp [this], by simpa using hk⟩)
            rw [bay_beyond this, bay_beyond this]
            rfl
        rw [← inOthers, unnameIn_eq, named] <;> rfl

end Sys2Proof.Proofs

/-! SUPPORT. A survey (R147, R148): its checks in order, the rows that its coils mark, the slots it sets and the entries it
sends. -/

namespace Sys2Proof.Machine

variable {s t u v w : State}

/-! ## Checks in order -/

section

variable {answer : Option (Status × Result) → Prop} {l : List Check} {rest : Option (Status × Result)} {st : Status}

/-- A test of a chain of refusals is the check it makes. -/
theorem inOrder_step {p b : Prop} [Decidable b] (hp : b ↔ ¬ p) (h : answer (if b then some (st, .none) else rest))
    (k : answer rest → inOrder answer l) : inOrder answer (check p st :: l) := by
  by_cases hb : b
  · rw [if_pos hb] at h
    exact ⟨fun _ => h, fun hq => absurd hq (hp.mp hb)⟩
  · rw [if_neg hb] at h
    exact ⟨fun hq => absurd (hp.mpr hq) hb, fun _ => k h⟩

/-- One test that makes two checks of the same status. -/
theorem inOrder_step_two {p q b : Prop} [Decidable b] (hp : b ↔ ¬ (p ∧ q)) (h : answer (if b then some (st, .none) else rest))
    (k : answer rest → inOrder answer l) : inOrder answer (check p st :: check q st :: l) := by
  by_cases hb : b
  · rw [if_pos hb] at h
    exact ⟨fun _ => h, fun hp' => ⟨fun _ => h, fun hq' => absurd ⟨hp', hq'⟩ (hp.mp hb)⟩⟩
  · rw [if_neg hb] at h
    have hpq : p ∧ q := by
      by_contra hc
      exact hb (hp.mpr hc)
    exact ⟨fun hc => absurd hpq.1 hc, fun _ => ⟨fun hc => absurd hpq.2 hc, fun _ => k h⟩⟩

end

theorem plainly_ite (b : Prop) [Decidable b] (st : Status) (rest : Option Status) :
    plainly (if b then some st else rest) = if b then some (st, .none) else plainly rest := apply_ite _ _ _ _

/-- R191: a request taken in hand is a change of the port alone. -/
theorem taken_withPort (s : State) (kind tag : Nat) : ∃ p, taken s kind tag = s.withPort p := by
  unfold taken restartHostTimer
  split <;> exact ⟨_, rfl⟩

theorem taken_surveyRefusal (kind tag : Nat) (q : SurveyRequest) : surveyRefusal (taken s kind tag) q = surveyRefusal s q := by
  obtain ⟨p, h⟩ := taken_withPort s kind tag
  rw [h]
  rfl

/-- R147 check 5: a survey's entries, coil by coil. -/
theorem surveyEntries_ok (es : List SlotState) : es.all surveyEntryOk = true ↔ 0 ∉ es.filterMap surveyCoil ∧
    ∀ e ∈ es, (match e with
      | .occupied _ _ k => decide (k ≤ 7)
      | .free | .blocked => true) = true := by
  rw [List.all_eq_true, List.mem_filterMap]
  constructor
  · intro h
    refine ⟨?_, fun e he => ?_⟩
    · rintro ⟨e, he, h0⟩
      have := h e he
      cases e <;> simp_all [surveyEntryOk, surveyCoil]
    · have := h e he
      cases e <;> simp_all [surveyEntryOk]
  · rintro ⟨h0, hk⟩ e he
    have := hk e he
    cases e with
    | occupied c w k =>
      have hc : c ≠ 0 := by
        rintro rfl
        exact h0 ⟨_, he, rfl⟩
      simp only [surveyEntryOk, Bool.and_eq_true, decide_eq_true_eq] at *
      omega
    | _ => rfl

/-- R147 check 6: the stacks of a survey. -/
theorem surveyStacks_iff (lowers : Nat) (es : List SlotState) : surveyStacks lowers es = true ↔
    ∀ j < lowers - 1, (surveyCoil (es.getD (lowers + j) .free)).isSome →
      (surveyCoil (es.getD j .free)).isSome ∧ (surveyCoil (es.getD (j + 1) .free)).isSome := by
  unfold surveyStacks
  rw [List.all_eq_true]
  refine forall_congr' fun j => ?_
  rw [List.mem_range]
  refine imp_congr_right fun _ => ?_
  cases surveyCoil (es.getD (lowers + j) .free) <;> simp

/-! ## The rows marked (R148) -/

/-- R148: coils recorded in no slot of another row mark none. -/
theorem clearClashes_none (h : tablesOk s = true) (row : Nat) (m : List Nat) : ∀ {l : List Nat},
    (∀ k ∈ l, ∀ n, slotRow n ≠ row → (slotAt s n).coilIn ≠ some k) → l.foldl (clearClashes row) (s, m) = (s, m)
  | [], _ => rfl
  | k :: l, hl => by
    have none : looseSlotWith s k (fun n => slotRow n == row) = none := by
      refine (findSlot_eq_none h).mpr fun n _ => ?_
      by_cases hn : slotRow n = row
      · simp [hn]
      · simp [hl k (by simp) n hn]
    rw [List.foldl_cons, clearClashes, none]
    exact clearClashes_none h row m fun d hd => hl d (by simp [hd])

/-- R148: coils recorded in one other row mark it. -/
theorem clearClashes_one (h : tablesOk s = true) {row r : Nat} : ∀ {l : List Nat},
    (∀ k ∈ l, inHeldSlot s k = false) →
    (∀ n, slotRow n ≠ row → ∀ k ∈ l, (slotAt s n).coilIn = some k → n ∈ rowSlots s.conf r ∧ slotRow n = r) →
    (∃ k ∈ l, ∃ n, slotRow n ≠ row ∧ (slotAt s n).coilIn = some k) →
    l.foldl (clearClashes row) (s, []) = (markRow s r, [r])
  | [], _, _, hex => by
    obtain ⟨k, hk, -⟩ := hex
    cases hk
  | k :: l, hfree, hone, hex => by
    have free (d : Nat) (hd : d ∈ k :: l) (n : Nat) (hn : (slotAt s n).coilIn = some d) : heldSlot s n = false := by
      have := hfree d hd
      by_contra hh
      rw [(inHeldSlot_iff h d).mpr ⟨n, hn, by simpa using hh⟩] at this
      cases this
    rw [List.foldl_cons]
    by_cases hk : ∃ n, slotRow n ≠ row ∧ (slotAt s n).coilIn = some k
    · obtain ⟨n, hn, hc⟩ := hk
      obtain ⟨m, hm⟩ : ∃ m, looseSlotWith s k (fun n => slotRow n == row) = some m := by
        cases hl : looseSlotWith s k (fun n => slotRow n == row) with
        | some m => exact ⟨m, rfl⟩
        | none =>
          have listed : slotAt s n ≠ .unknown := fun e => by rw [e] at hc; cases hc
          have := (findSlot_eq_none h).mp hl n listed
          have held := free k (by simp) n hc
          have reserved := held
          simp only [heldSlot, Bool.or_eq_false_iff] at reserved
          simp [hc, held, reserved.1, hn] at this
      obtain ⟨-, pass⟩ := findSlot_passes h hm
      simp only [Bool.and_eq_true, beq_iff_eq, Bool.not_eq_true', beq_eq_false_iff_ne] at pass
      obtain ⟨⟨⟨hcm, -⟩, -⟩, hrm⟩ := pass
      obtain ⟨-, hr⟩ := hone m hrm k (by simp) hcm
      have first : clearClashes row (s, []) k = (markRow s r, [r]) := by
        rw [clearClashes, hm]
        show (markRow s (slotRow m), [slotRow m]) = _
        rw [hr]
      rw [first]
      refine clearClashes_none (markRow_tablesOk h r) row [r] fun d hd j hj hcj => ?_
      rw [markRow_slotAt h] at hcj
      split at hcj
      · cases hcj
      · rename_i hno
        exact hno ⟨(hone j hj d (by simp [hd]) hcj).1, free d (by simp [hd]) j hcj⟩
    · have none : looseSlotWith s k (fun n => slotRow n == row) = none := by
        refine (findSlot_eq_none h).mpr fun n _ => ?_
        by_cases hn : slotRow n = row
        · simp [hn]
        · have : (slotAt s n).coilIn ≠ some k := fun hc => hk ⟨n, hn, hc⟩
          simp [this]
      rw [clearClashes, none]
      refine clearClashes_one h (fun d hd => hfree d (by simp [hd])) (fun n hn d hd => hone n hn d (by simp [hd])) ?_
      obtain ⟨d, hd, n, hn, hc⟩ := hex
      rcases List.mem_cons.mp hd with rfl | hd
      · exact absurd ⟨n, hn, hc⟩ hk
      · exact ⟨d, hd, n, hn, hc⟩

/-! ## The slots set and the entries sent -/

/-- R148: the survey's entries put in their slots. -/
def surveyed (s : State) (es : List (Nat × SlotState)) : State := es.foldl (fun t e => putSlot t e.1 (surveyRecord e.2)) s

theorem surveyed_work : ∀ (es : List (Nat × SlotState)) (s : State), StoreWork s (surveyed s es)
  | [], s => .refl s
  | e :: es, s => (putSlot_work s e.1 _).trans (surveyed_work es _)

theorem surveyed_eq : ∀ (es : List (Nat × SlotState)) (s : State), ∃ slots,
    surveyed s es = { s with store := { s.store with slots := slots } }
  | [], s => ⟨s.store.slots, rfl⟩
  | e :: es, s => by
    obtain ⟨slots, h⟩ := surveyed_eq es (putSlot s e.1 (surveyRecord e.2))
    exact ⟨slots, h⟩

theorem surveyed_tablesOk : ∀ (es : List (Nat × SlotState)) {s : State}, tablesOk s = true → tablesOk (surveyed s es) = true
  | [], _, h => h
  | e :: es, _, h => surveyed_tablesOk es (putSlot_tablesOk h e.1 _)

theorem surveyed_slotAt : ∀ {es : List (Nat × SlotState)} {s : State}, tablesOk s = true → (es.map (·.1)).Nodup →
    (∀ e ∈ es, slotAt (surveyed s es) e.1 = surveyRecord e.2) ∧
      ∀ n, n ∉ es.map (·.1) → slotAt (surveyed s es) n = slotAt s n
  | [], s, _, _ => ⟨by simp, fun _ _ => rfl⟩
  | e :: es, s, h, hd => by
    rw [List.map_cons, List.nodup_cons] at hd
    obtain ⟨written, kept⟩ := surveyed_slotAt (putSlot_tablesOk h e.1 (surveyRecord e.2)) hd.2
    refine ⟨fun f hf => ?_, fun n hn => ?_⟩
    · rcases List.mem_cons.mp hf with rfl | hf
      · refine (kept _ hd.1).trans ?_
        rw [putSlot_slotAt h, if_pos rfl]
      · exact written f hf
    · rw [List.map_cons, List.mem_cons, not_or] at hn
      refine (kept n hn.2).trans ?_
      rw [putSlot_slotAt h, if_neg hn.1]

/-- R148: entries joining the outbox in turn. -/
theorem joinEntries_keeps : ∀ (es : List (Nat × SlotState)) (s : State),
    let t := es.foldl (fun t e => joinOutbox t ⟨e.1, e.2⟩) s
    StoreWork s t ∧ t.store.slots = s.store.slots ∧ t.store.rows = s.store.rows ∧ t.store.plan = s.store.plan ∧
      t.store.outbox = s.store.outbox ++ es.map (fun e => ⟨e.1, e.2⟩) ∧ t.port = s.port
  | [], s => ⟨.refl s, rfl, rfl, rfl, by simp, rfl⟩
  | e :: es, s => by
    obtain ⟨work, slots, rows, plan, outbox, port⟩ := joinEntries_keeps es (joinOutbox s ⟨e.1, e.2⟩)
    obtain ⟨k1, k2, k3, k4, k5, -⟩ := joinOutbox_keeps s ⟨e.1, e.2⟩
    refine ⟨(joinOutbox_work s _).trans work, slots.trans k1, rows.trans k2, plan.trans k3, ?_, port.trans k5⟩
    rw [List.map_cons]
    refine outbox.trans ?_
    rw [k4, List.append_assoc]
    rfl

/-- R148: what marking the rows of coils leaves unchanged. -/
theorem clearClashes_keeps (row : Nat) : ∀ (l : List Nat) (s : State) (m : List Nat),
    let p := l.foldl (clearClashes row) (s, m)
    StoreWork s p.1 ∧ (tablesOk s = true → tablesOk p.1 = true) ∧ p.1.store.outbox = s.store.outbox
  | [], s, _ => ⟨.refl s, id, rfl⟩
  | k :: l, s, m => by
    cases hk : looseSlotWith s k (fun n => slotRow n == row) with
    | none =>
      have first : clearClashes row (s, m) k = (s, m) := by rw [clearClashes, hk]
      rw [List.foldl_cons, first]
      exact clearClashes_keeps row l s m
    | some n =>
      have first : clearClashes row (s, m) k = (markRow s (slotRow n), slotRow n :: m) := by rw [clearClashes, hk]
      obtain ⟨work, tables, outbox⟩ := clearClashes_keeps row l (markRow s (slotRow n)) (slotRow n :: m)
      rw [List.foldl_cons, first]
      exact ⟨(markRow_work s _).trans work, fun h => tables (markRow_tablesOk h _), outbox.trans rfl⟩

/-- R148: the state in which a survey's slots are set: the rows of its coils marked, with the event. -/
def clashesCleared (s : State) (q : SurveyRequest) : State :=
  let p := (q.slots.filterMap surveyCoil).foldl (clearClashes q.row) (s, [])
  if p.2.isEmpty then p.1 else suspect p.1 .coilClash p.2.getLast? p.2.length none

theorem clashesCleared_keeps (s : State) (q : SurveyRequest) : StoreWork s (clashesCleared s q) ∧
    (tablesOk s = true → tablesOk (clashesCleared s q) = true) ∧ (clashesCleared s q).store.outbox = s.store.outbox := by
  obtain ⟨work, tables, outbox⟩ := clearClashes_keeps q.row (q.slots.filterMap surveyCoil) s []
  unfold clashesCleared
  dsimp only
  split
  · exact ⟨work, tables, outbox⟩
  · exact ⟨work.trans (raiseEvent_work _ _), tables, outbox⟩

theorem clashesCleared_none {q : SurveyRequest} (h : tablesOk s = true)
    (hn : ∀ k ∈ q.slots.filterMap surveyCoil, ∀ n, slotRow n ≠ q.row → (slotAt s n).coilIn ≠ some k) :
    clashesCleared s q = s := by
  unfold clashesCleared
  rw [clearClashes_none h q.row [] hn]
  rfl

theorem clashesCleared_one {q : SurveyRequest} (h : tablesOk s = true) {r : Nat}
    (hfree : ∀ k ∈ q.slots.filterMap surveyCoil, inHeldSlot s k = false)
    (hone : ∀ n, slotRow n ≠ q.row → ∀ k ∈ q.slots.filterMap surveyCoil, (slotAt s n).coilIn = some k →
      n ∈ rowSlots s.conf r ∧ slotRow n = r)
    (hex : ∃ k ∈ q.slots.filterMap surveyCoil, ∃ n, slotRow n ≠ q.row ∧ (slotAt s n).coilIn = some k) :
    clashesCleared s q = markSuspect s r .coilClash none := by
  unfold clashesCleared
  rw [clearClashes_one h hfree hone hex]
  rfl

/-- R148: the survey's entries with their slots. -/
def surveyPairs (c : StartRecord) (q : SurveyRequest) : List (Nat × SlotState) := (rowSlots c q.row).zip q.slots

theorem applySurvey_eq (s : State) (q : SurveyRequest) : applySurvey s q =
    (surveyOrder s.conf.lowers (surveyPairs s.conf q)).foldl (fun t e => joinOutbox t ⟨e.1, e.2⟩)
      (settleRow (surveyed (clashesCleared s q) (surveyPairs s.conf q)) q.row) := rfl

theorem rowSlots_length {c : StartRecord} (h : 2 ≤ c.lowers) (row : Nat) : (rowSlots c row).length = 2 * c.lowers - 1 := by
  simp only [rowSlots, lowerSlots, upperSlots, List.length_append, List.length_map, List.length_range]
  omega

theorem surveyPairs_keys {c : StartRecord} (h : 2 ≤ c.lowers) {q : SurveyRequest} (hq : q.slots.length = 2 * c.lowers - 1) :
    (surveyPairs c q).map (·.1) = rowSlots c q.row :=
  List.map_fst_zip (by rw [rowSlots_length h, hq])

/-- R148: a survey applied, given the state with its clashes cleared. -/
theorem applySurvey_keeps {q : SurveyRequest} (hc : 2 ≤ s.conf.lowers ∧ s.conf.lowers ≤ 8)
    (hq : q.slots.length = 2 * s.conf.lowers - 1) (hv : clashesCleared s q = v) (htv : tablesOk v = true)
    (hvc : v.conf = s.conf) (ho : v.store.outbox = s.store.outbox) :
    let t := applySurvey s q
    StoreWork v t ∧ (∀ e ∈ surveyPairs s.conf q, slotAt t e.1 = surveyRecord e.2) ∧
      (∀ n, n ∉ rowSlots s.conf q.row → slotAt t n = slotAt v n) ∧ rowAt t q.row = ⟨true, false⟩ ∧
      (∀ r, r ≠ q.row → rowAt t r = rowAt v r) ∧ t.store.plan = v.store.plan ∧ tablesOk t = true ∧
      t.store.outbox = s.store.outbox ++ (surveyOrder s.conf.lowers (surveyPairs s.conf q)).map (fun e => ⟨e.1, e.2⟩) ∧
      t.port = v.port := by
  intro t
  let es := surveyPairs s.conf q
  let x := surveyed v es
  obtain ⟨slots, ex⟩ := surveyed_eq es v
  have ex : x = { v with store := { v.store with slots := slots } } := ex
  have tx : tablesOk x = true := surveyed_tablesOk es htv
  have keys : es.map (·.1) = rowSlots s.conf q.row := surveyPairs_keys hc.1 hq
  have xconf : x.conf = s.conf := (surveyed_work es v).conf.trans hvc
  obtain ⟨written, kept⟩ := surveyed_slotAt (es := es) htv (by rw [keys]; exact rowSlots_nodup hc _)
  obtain ⟨known, -, others⟩ := settleRow_rowAt tx q.row
  have rowKnown : rowAt (settleRow x q.row) q.row = ⟨true, false⟩ := by
    refine known fun n hn => ?_
    rw [xconf, ← keys] at hn
    obtain ⟨e, he, rfl⟩ := List.mem_map.mp hn
    rw [written e he]
    cases e.2 <;> simp [surveyRecord]
  have state : t = (surveyOrder s.conf.lowers es).foldl (fun t e => joinOutbox t ⟨e.1, e.2⟩) (settleRow x q.row) := by
    show applySurvey s q = _
    rw [applySurvey_eq, hv]
  obtain ⟨work, tslots, trows, tplan, toutbox, tport⟩ := joinEntries_keeps (surveyOrder s.conf.lowers es) (settleRow x q.row)
  rw [← state] at work tslots trows tplan toutbox tport
  obtain ⟨r1, r2, r3, r4, -, -⟩ := settleRow_keeps x q.row
  have tables : tablesOk t = true := by
    have := (settleRow_kept (k := untracked) (s := x) q.row).tables tx
    rw [tablesOk_iff] at *
    rwa [tslots, trows]
  refine ⟨((surveyed_work es v).trans (settleRow_work x q.row)).trans work, fun e he => ?_, fun n hn => ?_, ?_, fun r hr => ?_,
    ?_, tables, ?_, ?_⟩
  · rw [slotAt_of_slots tslots, settleRow_slotAt]
    exact written e he
  · rw [slotAt_of_slots tslots, settleRow_slotAt]
    exact kept n (by rwa [keys])
  · rw [rowAt_of_rows trows, rowKnown]
  · rw [rowAt_of_rows trows, others r hr, ex]
    rfl
  · rw [tplan, r3, ex]
  · rw [toutbox, r2, ex]
    exact congrArg (· ++ _) ho
  · rw [tport, r4, ex]

/-- R147: what a survey that is not refused has. -/
theorem surveyRefusal_none {q : SurveyRequest} (h : surveyRefusal s q = none) : q.slots.length = 2 * s.conf.lowers - 1 ∧
    ∀ k ∈ q.slots.filterMap surveyCoil, inHeldSlot s k = false := by
  unfold surveyRefusal at h
  simp only [ite_eq_right_iff, reduceCtorEq, imp_false, ite_eq_iff, and_false, false_or] at h
  obtain ⟨-, -, -, -, entries, -, coils, -⟩ := h
  simp only [Bool.not_eq_true', Bool.not_eq_false, Bool.and_eq_true, beq_iff_eq] at entries
  simp only [List.any_eq_true, holds_iff] at coils
  push Not at coils
  exact ⟨entries.1.1, fun k hk => by simpa using (coils k hk).2.1⟩

theorem slotRecord_named {n : Nat} (h : tablesOk s = true) {k : Nat} (hn : (slotAt s n).coilIn = some k) :
    (n, slotAt s n) ∈ s.store.slots := by
  refine (mem_table ((tablesOk_iff s).mp h).1 n _).mpr ⟨?_, rfl⟩
  intro e
  rw [e] at hn
  cases hn

theorem slotAt_of_mem (h : tablesOk s = true) {e : Nat × SlotRecord} (he : e ∈ s.store.slots) : slotAt s e.1 = e.2 :=
  ((mem_table ((tablesOk_iff s).mp h).1 e.1 e.2).mp he).2

end Sys2Proof.Machine

namespace Sys2Proof.Proofs

open Machine

/-- Settles O40: the checks in order along the chain of refusals, and the survey applied (`applySurvey_keeps`) with no row
marked or with one. -/
theorem surveyRow : Obligations.SurveyRow := by
  intro s tag q hr hs hconf ht hc c es uppers coils coilAt classed names answer
  have hl := lowers_of_configured hconf hc
  let w := Machine.taken s 14 tag
  have work : StoreWork s w := taken_work s 14 tag
  have store : w.store = s.store := taken_store s 14 tag
  have ran : exec (.surveyRow tag (.fields q)) s = .next (request 14 tag false .none (.fields q) handleSurveyRow s) := rfl
  have refused {st : Status} (h : surveyRefusal s q = some st) : answer (some (st, .none)) :=
    ran.trans (next_eq (request_refused (own := handleSurveyRow) hr hs hc rfl ((taken_surveyRefusal 14 tag q).trans h)))
  have decided : answer (plainly (surveyRefusal s q)) := by
    cases h : surveyRefusal s q with
    | some st => exact refused h
    | none =>
      have passed : surveyRefusal w q = none := (taken_surveyRefusal 14 tag q).trans h
      obtain ⟨lengthOk, free⟩ := surveyRefusal_none h
      have wconf : w.conf = c := work.conf
      have wtables : tablesOk w = true := by rwa [tablesOk_iff, store, ← tablesOk_iff]
      have wslot (n : Nat) : slotAt w n = slotAt s n := slotAt_of_store store n
      have wheld (n : Nat) : heldSlot w n = heldSlot s n := heldSlot_congr work.conf (fun m => by rw [slotAt_of_store store]) n
      have wfree (k : Nat) (hk : k ∈ coils) : inHeldSlot w k = false := by
        rw [← Bool.not_eq_true, inHeldSlot_iff wtables]
        rintro ⟨n, hn, hh⟩
        rw [wslot] at hn
        rw [wheld] at hh
        have := free k hk
        rw [← Bool.not_eq_true, inHeldSlot_iff ht] at this
        exact this ⟨n, hn, hh⟩
      have hlw : 2 ≤ w.conf.lowers ∧ w.conf.lowers ≤ 8 := by rw [wconf]; exact hl
      obtain ⟨vwork, vtables, voutbox⟩ := clashesCleared_keeps w q
      have rule := applySurvey_keeps (s := w) hlw (by rw [wconf]; exact lengthOk) rfl (vtables wtables) vwork.conf voutbox
      simp only [wconf] at rule
      let u := applySurvey w q
      obtain ⟨uwork, written, kept, known, others, plan, utables, outbox, port⟩ := rule
      let r : Reply := accept u
      obtain ⟨k1, k2, k3, k4, k5, k6⟩ := respond_keeps 14 tag r
      let t := respond 14 tag r
      have plan' : t.store.plan = u.store.plan := by simp [t, respond, r, accept]
      have tslot (n : Nat) : slotAt t n = slotAt u n := slotAt_of_slots k4 n
      have trow (m : Nat) (hm : (rowAt u m).spent = false) : rowAt t m = rowAt u m := (finish_rowAt utables m).2 hm
      have tevent (n : Nat) : eventAt t.port n = eventAt (clashesCleared w q).port n := by
        show tableGet _ t.port.events n = _
        rw [k6]
        exact congrArg (fun p : Port => eventAt p n) port
      refine ⟨t, ran.trans (next_eq ?_), fun e he => ?_, ?_, ?_, ?_, fun quietCoils => ?_,
        fun f hf other named one => ?_, ?_, respond_storeOnly 14 tag (r := r) ((work.trans vwork).trans uwork)⟩
      · rw [request_fields hr (.inr hc)]
        show respond 14 tag (handleSurveyRow q w) = _
        rw [handleSurveyRow, passed]
        rfl
      · rw [tslot]
        exact written e he
      · show (List.zip _ _).length = _
        rw [List.length_zip, rowSlots_length hl.1, lengthOk, Nat.min_self]
      · rw [trow _ (by rw [known]), known]
      · refine k5.trans (outbox.trans ?_)
        rw [store]
        rfl
      · have idle : clashesCleared w q = w := by
          refine clashesCleared_none wtables fun k hk n hn hcoil => ?_
          rw [wslot] at hcoil
          exact quietCoils _ (slotRecord_named ht hcoil) hn ⟨k, hk, hcoil⟩
        refine ⟨fun n hn => ?_, ?_⟩
        · rw [tslot, kept n hn, idle, wslot]
        · refine k6.trans ((congrArg Port.events port).trans ?_)
          rw [idle, taken_events]
      · obtain ⟨k, hk, hcoil⟩ := named
        have marked : clashesCleared w q = markSuspect w (slotRow f.1) .coilClash none := by
          refine clashesCleared_one wtables wfree (fun n hn d hd hcd => ?_) ⟨k, hk, f.1, other, ?_⟩
          · rw [wslot] at hcd
            have := one _ (slotRecord_named ht hcd) hn ⟨d, hd, hcd⟩
            exact ⟨by rw [wconf]; exact this, ((mem_rowSlots hl _ n).mp this).1⟩
          · rw [wslot, slotAt_of_mem ht hf]
            exact hcoil
        have rowOf {n m : Nat} (h : n ∈ rowSlots c m) : n / 16 = m := ((mem_rowSlots hl m n).mp h).1
        have vslot (n : Nat) : slotAt (clashesCleared w q) n =
            if n ∈ rowSlots c (slotRow f.1) ∧ heldSlot s n = false then .unknown else slotAt s n := by
          rw [marked, markSuspect_slotAt, markRow_slotAt wtables, wconf, wheld, wslot]
        have rowMark : rowAt u (slotRow f.1) = ⟨false, false⟩ := by
          rw [others _ other, marked]
          refine (markRow_rowAt wtables _ _).trans (if_pos rfl)
        refine ⟨fun n hn => ?_, fun n hn hq => ?_, ?_, ?_, ?_⟩
        · have : n ∉ rowSlots c q.row := fun h => other ((rowOf hn).symm.trans (rowOf h))
          rw [tslot, kept n this, vslot]
          cases heldSlot s n <;> simp [hn]
        · rw [tslot, kept n hq, vslot, if_neg (fun h => hn h.1)]
        · rw [trow _ (by rw [rowMark]), rowMark]
        · refine plan'.trans ?_
          rw [plan, marked]
          exact (markRow_plan w _).trans (by rw [store])
        · rw [tevent, marked, markSuspect_events, if_pos rfl, taken_eventAt]
      · refine k1.trans (congrArg (· ++ _) (uwork.transmit.trans (vwork.transmit.trans work.transmit)))
  unfold surveyRefusal at decided
  simp only [plainly_ite] at decided
  refine inOrder_step (by simp) decided fun decided => inOrder_step (by simp [c]) decided fun decided =>
    inOrder_step (by simp) decided fun decided => inOrder_step (by simp [c]) decided fun decided =>
    inOrder_step_two ?_ decided fun decided => inOrder_step ?_ decided fun decided =>
    inOrder_step ?_ decided fun decided => inOrder_step ?_ decided id
  · rw [Bool.not_eq_true', Bool.eq_false_iff, not_iff_not]
    simp only [Bool.and_eq_true, beq_iff_eq, decide_eq_true_eq, surveyEntries_ok]
    constructor
    · rintro ⟨⟨h1, h2, h3⟩, h4⟩
      exact ⟨h1, h2, h4, fun e he => (by have := h3 e he; cases e <;> exact this)⟩
    · rintro ⟨h1, h2, h4, h3⟩
      exact ⟨⟨h1, h2, fun e he => (by have := h3 e he; cases e <;> exact this)⟩, h4⟩
  · rw [Bool.not_eq_true', Bool.eq_false_iff, not_iff_not]
    exact surveyStacks_iff _ _
  · simp only [List.any_eq_true, holds_iff]
    push Not
    refine exists_congr fun k => and_congr_right fun _ => ?_
    cases s.tasks.hookCoil <;> cases inHeldSlot s k <;> cases onTrailer s k <;> simp
  · rw [not_le]
    rfl

end Sys2Proof.Proofs

/-! SUPPORT. Begin Task (R154 to R157): its checks in order, the number given, and what an accepted Begin reserves. -/

namespace Sys2Proof.Machine

variable {s t u v w : State}

/-! ## Checks in order -/

section

variable {answer : Option (Status × Result) → Prop} {l m : List Check} {rest : Option (Status × Result)} {r : Status × Result}

/-- A test of a chain of refusals is the check it makes; what passes it may be used from there on. -/
theorem inOrder_test {p b : Prop} [Decidable b] (hp : b ↔ ¬ p) (h : answer (if b then some r else rest))
    (k : p → answer rest → inOrder answer l) : inOrder answer ((p, r) :: l) := by
  by_cases hb : b
  · rw [if_pos hb] at h
    exact ⟨fun _ => h, fun hq => absurd hq (hp.mp hb)⟩
  · rw [if_neg hb] at h
    exact ⟨fun hq => absurd (hp.mpr hq) hb, fun q => k q h⟩

/-- A part of a chain of refusals is the checks it makes. -/
theorem inOrder_or {o : Option (Status × Result)} (h : answer (o.or rest))
    (first : ∀ {answer : Option (Status × Result) → Prop}, answer o → inOrder answer l)
    (k : answer rest → inOrder answer m) : inOrder answer (l ++ m) := by
  refine (inOrder_append m l).mpr (first ?_)
  cases o with
  | none => exact k h
  | some r => exact h

/-- Checks of which none refuses all hold. -/
theorem inOrder_none : ∀ {l : List Check}, inOrder (· = none) l → ∀ c ∈ l, c.1
  | [], _, _, hc => nomatch hc
  | ⟨p, r⟩ :: l, ⟨no, yes⟩, c, hc => by
    have holds : p := by
      by_contra hp
      cases no hp
    rcases List.mem_cons.mp hc with rfl | hc
    · exact holds
    · exact inOrder_none (yes holds) c hc

end

theorem ite_or {α : Type} (a b : Prop) [Decidable a] [Decidable b] (x y : α) :
    (if a then x else if b then x else y) = if a ∨ b then x else y := by
  by_cases ha : a <;> simp [ha]

/-! ## The checks of a Begin Task (R154 to R156) -/

/-- R134: the checks of a source as the chain of its refusals makes them. -/
theorem sourceCheck_inOrder {answer : Option (Status × Result) → Prop} (q : BeginRequest) (h : answer (sourceCheck s q)) :
    inOrder answer (sourceChecks s (s.tasks.nest.length + 1) q.source) := by
  unfold sourceCheck at h
  cases hp : q.source with
  | slot n =>
    simp only [hp, sourceRefusal, plainly_ite] at h
    have lower : isUpper n = false ↔ n % 16 < 8 := by
      rw [isUpper, slotIndex, decide_eq_false_iff_not, not_le]
    have upper (hn : ¬ n % 16 < 8) : isUpper n = true := by simpa using mt lower.mp hn
    refine inOrder_test (by simp) h fun _ h => inOrder_test ?_ h fun _ h =>
      inOrder_test (by simp [slotRow]) h fun _ h => inOrder_test ?_ h fun _ h => inOrder_test ?_ h fun _ h => h
    · rw [Bool.not_eq_true', Bool.eq_false_iff, ne_eq, Bool.and_eq_true]
      rfl
    · by_cases hn : n % 16 < 8
      · simp [lower.mpr hn, hn]
      · simp [hn, upper hn]
    · by_cases hn : n % 16 < 8
      · simp [lower.mpr hn, hn]
        exact ⟨fun ⟨⟨u, hu, hx⟩, hd⟩ => ⟨u, hu, hx, hd⟩, fun ⟨u, hu, hx, hd⟩ => ⟨⟨u, hu, hx⟩, hd⟩⟩
      · simp [hn, upper hn]
  | intake i =>
    simp only [hp] at h
    refine ⟨fun hc => ?_, fun hc => ?_⟩
    · rwa [if_neg hc] at h
    · rwa [if_pos hc] at h
  | cradle b i =>
    rw [hp] at h
    exact h
  | hook =>
    rw [hp] at h
    exact h

theorem stackingOk_iff (s : State) (n cls : Nat) (weight : Option Int) : stackingOk s n cls weight = true ↔
    stacksOn s n cls weight := by
  unfold stackingOk stacksOn supports worstCase
  dsimp only
  have fails : false = true ↔ False := iff_of_false Bool.false_ne_true not_false
  generalize slotAt s (n - 8) = left
  generalize slotAt s (n - 7) = right
  match left with
  | .unknown | .free | .blocked | .reservedOut .. | .reservedIn .. | .occupied _ none _ => exact fails
  | .occupied _ (some w1) k1 =>
    match right with
    | .unknown | .free | .blocked | .reservedOut .. | .reservedIn .. | .occupied _ none _ => exact fails
    | .occupied _ (some w2) k2 =>
      cases weight with
      | none => exact fails
      | some w => simp only [Bool.and_eq_true, decide_eq_true_eq, and_assoc]

/-- R180 step 9: the loads against their limits. -/
theorem overloadOf_inOrder {answer : Option (Status × Result) → Prop} (t : Trailer) (k : Loads)
    (h : answer ((overloadOf t k).map (Status.axle, ·))) : inOrder answer [
      (k.axle ≤ t.axleLimit, .axle, .overload .axle k.axle t.axleLimit),
      (k.kingpin ≤ t.kingpinLimit, .axle, .overload .kingpin k.kingpin t.kingpinLimit),
      (k.payload ≤ t.payloadLimit, .axle, .overload .payload k.payload t.payloadLimit)] := by
  unfold overloadOf at h
  simp only [apply_ite (Option.map (Status.axle, ·)), Option.map_some, Option.map_none] at h
  exact inOrder_test (by omega) h fun _ h => inOrder_test (by omega) h fun _ h => inOrder_test (by omega) h fun _ h => h

/-- R180: the checks of a cradle as the chain of its refusals makes them. -/
theorem cradleRefusal_inOrder {answer : Option (Status × Result) → Prop} (b i : Nat) (weight : Option Int)
    (h : answer (cradleRefusal s b i weight)) : inOrder answer (cradleChecks s b i weight) := by
  unfold cradleRefusal at h
  unfold cradleChecks
  dsimp only at h ⊢
  cases hl : (s.bay b).load with
  | none =>
    simp only [hl] at h ⊢
    exact ⟨fun _ => h, False.elim⟩
  | some l =>
    have cradles : (s.bay b).cradles = l.cradles := by simp [BayRecord.cradles, hl]
    simp only [hl] at h ⊢
    refine inOrder_test (by simp) h fun _ h => inOrder_test ?_ h fun _ h => inOrder_test (by simp) h fun _ h =>
      inOrder_test ?_ h fun _ h => inOrder_test (by simp) h fun _ h => inOrder_test ?_ h fun _ h =>
      inOrder_test (by simp) h fun _ h => ?_
    · rw [Bool.not_eq_true', Bool.eq_false_iff, ne_eq, Bool.and_eq_true, decide_eq_true_eq, decide_eq_true_eq]
    · simp only [Bool.or_eq_true, decide_eq_true_eq, ne_eq, not_and, Bool.not_eq_false]
      tauto
    · rw [cradles, List.any_eq_true]
      push Not
      refine exists_congr fun k => and_congr_right fun _ => ?_
      cases k with
      | reserved o => cases o <;> simp [CradleRecord.isForeign]
      | _ => simp [CradleRecord.isForeign]
    · cases weight with
      | none => exact ⟨fun _ => h, fun hw => nomatch hw⟩
      | some w => exact ⟨fun hw => absurd rfl hw, fun _ => overloadOf_inOrder _ _ h⟩

/-- R151, R155: the coil of the task a Begin asks for, where its places fit its kind. -/
def beginCoil (s : State) (q : BeginRequest) : Nat × Nat × Option Int :=
  let lying : Option (Nat × Nat × Option Int) := match q.source with
    | .slot n => match slotAt s n with
      | .occupied c w k => some (c, k, w)
      | _ => none
    | .intake _ | .cradle _ _ | .hook => none
  let found : Option (Nat × Nat × Option Int) := match q.kind with
    | .store => q.coil.map fun k => (k.coil, k.cls, k.weight)
    | .shift | .dispatch => lying
    | .ret => s.tasks.hookCoil.map fun k => (k.coil, k.cls, some k.weight)
  found.getD (0, 0, none)

theorem taskCoil_eq {q : BeginRequest} (hk : storeCoilOk q = true) :
    taskCoil s q = beginCoil s q := by
  unfold taskCoil beginCoil
  cases hq : q.kind with
  | store =>
    cases hc : q.coil with
    | some k => rfl
    | none =>
      rw [storeCoilOk, hq, hc] at hk
      cases hk
  | ret => cases s.tasks.hookCoil <;> rfl
  | _ =>
    cases hs : q.source with
    | slot n => dsimp only; cases slotAt s n <;> rfl
    | _ => rfl

/-- R156: the slots that a Begin reserves. -/
def beginSlots (q : BeginRequest) : Int := ([q.source, q.dest].filter fun p => match p with
  | .slot _ => true
  | .intake _ | .cradle _ _ | .hook => false).length

theorem slotsToReserve_eq {q : BeginRequest} (h : placesFit q.kind q.source q.dest = true) :
    slotsToReserve q = beginSlots q := by
  unfold slotsToReserve beginSlots
  unfold placesFit at h
  cases hq : q.kind <;> cases hs : q.source <;> cases hd : q.dest <;> simp_all

/-- R154 to R156: the checks of a Begin Task. -/
def beginChecks (s : State) (q : BeginRequest) : List Check :=
  let nest := s.tasks.nest
  let coil := beginCoil s q
  [check (s.node = .active) .state,
    check (placesFit q.kind q.source q.dest = true ∧ placeInRange s.conf q.source = true ∧
      placeInRange s.conf q.dest = true ∧ storeCoilOk q = true) .range,
    check (s.tasks.loose = false) .state,
    check (if q.kind = .ret then s.tasks.hookCoil.isSome ∧ nest = [] else s.tasks.hookCoil = none) .state,
    check (∀ t ∈ nest.getLast?, t.carrying = false) .state,
    check (nest.length < 3) .depth,
    check (q.kind = .store → recordedAnywhere s coil.1 = false) .state] ++
    sourceChecks s (nest.length + 1) q.source ++ [check (q.kind = .dispatch → coil.2.2.isSome) .weight] ++
    destinationChecks s coil.2.1 coil.2.2 q.dest ++
    [check (beginSlots q ≤ 24 - s.store.outbox.length - reservedSlots s) .full]

theorem destinationCheck_inOrder {answer : Option (Status × Result) → Prop} {q : BeginRequest}
    (hk : taskCoil s q = beginCoil s q) (h : answer (destinationCheck s q)) :
    inOrder answer (destinationChecks s (beginCoil s q).2.1 (beginCoil s q).2.2 q.dest) := by
  unfold destinationCheck at h
  rw [hk] at h
  cases hp : q.dest with
  | slot n =>
    simp only [hp, destinationRefusal, plainly_ite] at h
    refine inOrder_test (by simp) h fun _ h => inOrder_test (by simp [slotRow]) h fun _ h =>
      inOrder_test (by simp [slotRow]) h fun _ h => inOrder_test (by simp) h fun _ h =>
      inOrder_test ?_ h fun _ h => h
    rw [Bool.and_eq_true, Bool.not_eq_true', Bool.eq_false_iff, ne_eq, stackingOk_iff, isUpper, slotIndex, decide_eq_true_eq]
    exact (Classical.not_imp).symm
  | intake i =>
    rw [hp] at h
    exact h
  | cradle b i =>
    simp only [hp] at h
    exact cradleRefusal_inOrder b i _ h
  | hook =>
    rw [hp] at h
    exact h

/-- R154 to R156: the checks of a Begin Task as the chain of its refusals makes them. -/
theorem beginRefusal_inOrder {answer : Option (Status × Result) → Prop} (q : BeginRequest) (h : answer (beginRefusal s q)) :
    inOrder answer (beginChecks s q) := by
  unfold beginRefusal at h
  simp only [beginChecks, List.append_assoc, List.cons_append, List.nil_append]
  dsimp only at h
  refine inOrder_test (by simp) h fun _ h => inOrder_test ?_ h fun ⟨fit, _, _, coilOk⟩ h => ?_
  · rw [Bool.not_eq_true', Bool.eq_false_iff, ne_eq, Bool.and_eq_true, Bool.and_eq_true, Bool.and_eq_true, and_assoc, and_assoc]
  have coil := taskCoil_eq (s := s) coilOk
  rw [coil, slotsToReserve_eq fit] at h
  refine inOrder_test (by simp) h fun _ h => ?_
  rw [ite_or] at h
  refine inOrder_test ?_ h fun _ h => inOrder_test ?_ h fun _ h => inOrder_test ?_ h fun _ h => inOrder_test ?_ h fun _ h =>
    inOrder_or h (sourceCheck_inOrder q) fun h => ?_
  · cases hk : q.kind <;> cases hh : s.tasks.hookCoil <;> simp
  · cases s.tasks.nest.getLast? <;> simp
  · exact not_lt.symm
  · simp
  · refine inOrder_or (l := [check _ _]) h (fun h => inOrder_test ?_ h fun _ h => h) fun h =>
      inOrder_or h (destinationCheck_inOrder coil) fun h => inOrder_test ?_ h fun _ h => h
    · simp
    · exact not_le.symm

/-! ## An accepted Begin Task (R152, R157) -/

/-- R152: with room in the nest, the number given is held by no open task. -/
theorem freeNumber_unused (l : List Task) (h : l.length < 3) (n : Nat) : ∀ k ∈ l, k.number ≠ freeNumber Config.nestCapacity l n := by
  show ∀ k ∈ l, k.number ≠ freeNumber 3 l n
  have next : nextNumber n ≠ n ∧ nextNumber (nextNumber n) ≠ n ∧ nextNumber (nextNumber n) ≠ nextNumber n := by
    unfold nextNumber
    grind
  obtain ⟨h1, h2, h3⟩ := next
  rcases l with - | ⟨a, - | ⟨b, - | ⟨c, l⟩⟩⟩
  · simp
  · simp [freeNumber]
    grind
  · simp [freeNumber]
    grind
  · simp only [List.length_cons] at h
    omega

theorem reserveTheSource_keeps (h : tablesOk s = true) (q : BeginRequest) (number : Nat) :
    let p := reserveTheSource s q number
    StoreWork s p.1 ∧ tablesOk p.1 = true ∧ p.1.store.outbox = s.store.outbox ∧ p.1.port = s.port ∧
      (∀ n, q.source ≠ .slot n → slotAt p.1 n = slotAt s n) ∧
      (∀ n, q.source = .slot n → p.2 = [.slot n (slotAt s n) false]) ∧
      ∀ n c w k, q.source = .slot n → slotAt s n = .occupied c w k → slotAt p.1 n = .reservedOut c w k number := by
  unfold reserveTheSource
  cases hq : q.source with
  | slot n =>
    dsimp only
    cases hn : slotAt s n with
    | occupied c w k =>
      simp only [reserveSource, hn]
      refine ⟨changeSlot_work s n _, changeSlot_tablesOk h n _, (changeSlot_keeps s n _).1, (changeSlot_keeps s n _).2.2.1,
        fun m hm => changeSlot_other (by grind) _, ?_, ?_⟩
      · rintro m ⟨⟩
        rw [hn]
      · rintro m c' w' k' ⟨⟩ hm
        rw [changeSlot_same h]
        rw [hn] at hm
        cases hm
        rfl
    | _ =>
      have kept : reserveSource s n number = s := by simp only [reserveSource, hn]
      rw [kept]
      refine ⟨.refl s, h, rfl, rfl, fun _ _ => rfl, ?_, ?_⟩
      · rintro m ⟨⟩
        rw [hn]
      · rintro m c' w' k' ⟨⟩ hm
        rw [hn] at hm
        cases hm
  | _ => exact ⟨.refl s, h, rfl, rfl, fun _ _ => rfl, nofun, nofun⟩

theorem reserveTheDestination_keeps (h : tablesOk s = true) (q : BeginRequest) (number : Nat) (k : Nat × Nat × Option Int) :
    let p := reserveTheDestination s q number k
    YardWork s p.1 ∧ p.1.tasks = s.tasks ∧ p.1.store.outbox = s.store.outbox ∧ p.1.port = s.port ∧
      (∀ n, q.dest ≠ .slot n → slotAt p.1 n = slotAt s n) ∧
      (∀ n, q.dest = .slot n → slotAt p.1 n = .reservedIn k.1 k.2.2 k.2.1 number ∧ p.2 = [.slot n (slotAt s n) false]) ∧
      ∀ b i, q.dest = .cradle b i → p.2 = [.cradle b i (cradleAt (s.bay b) i) false] ∧
        ∀ w, k.2.2 = some w → b ≤ 3 → 1 ≤ i → i ≤ (s.bay b).cradles.length →
          cradleAt (p.1.bay b) i = .reserved (.own number k.1 w) := by
  unfold reserveTheDestination
  cases hq : q.dest with
  | slot n =>
    refine ⟨(changeSlot_work s n _).toYardWork, (changeSlot_work s n _).tasks, (changeSlot_keeps s n _).1,
      (changeSlot_keeps s n _).2.2.1, fun m hm => changeSlot_other (by grind) _, ?_, nofun⟩
    rintro m ⟨⟩
    exact ⟨changeSlot_same h n _, rfl⟩
  | cradle b i =>
    obtain ⟨store, tasks, port, -⟩ := ownBayChange_keeps s b
      { putCradle (s.bay b) i (.reserved (.own number k.1 (k.2.2.getD 0))) with
        state := if (putCradle (s.bay b) i (.reserved (.own number k.1 (k.2.2.getD 0)))).state = .docked then .loading
          else (putCradle (s.bay b) i (.reserved (.own number k.1 (k.2.2.getD 0)))).state }
    refine ⟨ownBayChange_work s b _, tasks, congrArg Store.outbox store, port, fun m _ => slotAt_of_store store m, nofun, ?_⟩
    rintro b i ⟨⟩
    refine ⟨rfl, fun w hw hb hi hlen => ?_⟩
    show cradleAt ((reserveCradle s b i number k.1 (k.2.2.getD 0)).bay b) i = _
    rw [reserveCradle, ownBayChange_same, if_pos hb]
    refine (cradleAt_put (s.bay b) i i _).trans ?_
    rw [if_pos ⟨rfl, by omega⟩, hw]
    rfl
  | _ => exact ⟨.refl s, rfl, rfl, rfl, fun _ _ => rfl, nofun, nofun⟩

/-- R151 to R156: the places of a Begin Task that is not refused. -/
theorem beginRefusal_none {q : BeginRequest} (h : beginRefusal s q = none) :
    taskCoil s q = beginCoil s q ∧ s.tasks.nest.length < 3 ∧
      (∀ n, q.source = .slot n → ∃ c w k, slotAt s n = .occupied c w k ∧ beginCoil s q = (c, k, w)) ∧
      (∀ n, q.dest = .slot n → slotAt s n = .free) ∧
      ∀ b i, q.dest = .cradle b i → cradleAt (s.bay b) i = .empty ∧
        ∃ l, (s.bay b).load = some l ∧ 1 ≤ i ∧ i ≤ l.trailer.count := by
  have all := inOrder_none (beginRefusal_inOrder (answer := (· = none)) q h)
  simp only [beginChecks, List.forall_mem_append, List.forall_mem_cons, check] at all
  obtain ⟨⟨⟨⟨⟨-, ⟨fit, -, -, coilOk⟩, -, -, -, depth, -⟩, source⟩, -⟩, dest⟩, -⟩ := all
  refine ⟨taskCoil_eq coilOk, depth, fun n hn => ?_, fun n hn => ?_, fun b i hd => ?_⟩
  · rw [hn] at source fit
    simp only [sourceChecks, List.forall_mem_cons, check] at source
    obtain ⟨-, ⟨occupied, -⟩, -⟩ := source
    cases hs : slotAt s n with
    | occupied c w k =>
      refine ⟨c, w, k, rfl, ?_⟩
      unfold beginCoil
      cases hk : q.kind with
      | store =>
        rw [hk] at fit
        cases fit
      | ret =>
        rw [hk] at fit
        cases fit
      | _ => simp only [hn, hs, Option.getD_some]
    | _ =>
      rw [hs] at occupied
      cases occupied
  · rw [hn] at dest
    simp only [destinationChecks, List.forall_mem_cons, check] at dest
    exact dest.2.2.2.1
  · rw [hd] at dest
    unfold destinationChecks cradleChecks at dest
    cases hl : (s.bay b).load with
    | none => simp [hl, check] at dest
    | some l =>
      simp only [hl, List.forall_mem_cons, check] at dest
      obtain ⟨-, inRange, -, -, empty, -⟩ := dest
      exact ⟨empty, l, rfl, inRange⟩

/-- R157: what an accepted Begin Task reserves. -/
theorem beginTheTask_keeps (h : tablesOk s = true) (q : BeginRequest) :
    let number := numberToGive s.tasks
    let k := taskCoil s q
    let t := beginTheTask s q
    (∃ x : Task, t.tasks = { s.tasks with nest := s.tasks.nest ++ [x], counter := nextNumber number } ∧
      x.number = number ∧ x.kind = q.kind ∧ x.source = q.source ∧ x.dest = q.dest ∧ x.carrying = (q.kind == .ret) ∧
      x.coil = k.1 ∧ x.cls = k.2.1 ∧ x.expected = (if q.kind = .ret then none else k.2.2) ∧
      (∀ n, q.source = .slot n → .slot n (slotAt s n) false ∈ x.journal) ∧
      (∀ n, q.dest = .slot n → q.source ≠ .slot n → .slot n (slotAt s n) false ∈ x.journal) ∧
      ∀ b i, q.dest = .cradle b i → .cradle b i (cradleAt (s.bay b) i) false ∈ x.journal) ∧
    YardWork s t ∧ t.store.outbox = s.store.outbox ∧ t.port = s.port ∧
    (∀ n, q.source ≠ .slot n → q.dest ≠ .slot n → slotAt t n = slotAt s n) ∧
    (∀ n c w j, q.source = .slot n → q.dest ≠ .slot n → slotAt s n = .occupied c w j →
      slotAt t n = .reservedOut c w j number) ∧
    (∀ n, q.dest = .slot n → slotAt t n = .reservedIn k.1 k.2.2 k.2.1 number) ∧
    ∀ b i w, q.dest = .cradle b i → k.2.2 = some w → b ≤ 3 → 1 ≤ i → i ≤ (s.bay b).cradles.length →
      cradleAt (t.bay b) i = .reserved (.own number k.1 w) := by
  intro number k t
  let a := reserveTheSource s q number
  let b := reserveTheDestination a.1 q number k
  obtain ⟨work, tables, outbox, port, other, journal, reserved⟩ := reserveTheSource_keeps h q number
  obtain ⟨work', tasks', outbox', port', other', slot, cradle⟩ := reserveTheDestination_keeps tables q number k
  have bays (c : Nat) : a.1.bay c = s.bay c := by rw [State.bay, work.bays, State.bay]
  have journals {e : JournalEntry} (he : e ∈ a.2 ∨ e ∈ b.2) : e ∈ a.2 ++ b.2 := List.mem_append.mpr he
  have last : YardWork b.1 t := ⟨rfl, rfl, rfl, rfl, rfl, rfl, rfl, rfl, rfl, rfl, rfl⟩
  refine ⟨⟨{ number := number, kind := q.kind, source := q.source, dest := q.dest, coil := k.1, cls := k.2.1
             expected := if q.kind = .ret then none else k.2.2
             carrying := q.kind == .ret, journal := a.2 ++ b.2 }, ?_, rfl, rfl, rfl, rfl, rfl, rfl, rfl, rfl,
    fun n hn => journals (.inl ?_), fun n hn hs => journals (.inr ?_), fun c i hc => journals (.inr ?_)⟩,
    (work.toYardWork.trans work').trans last, outbox'.trans outbox, port'.trans port, fun n hs hd => (other' n hd).trans (other n hs),
    fun n c w j hs hd hn => (other' n hd).trans (reserved n c w j hs hn), fun n hd => (slot n hd).1,
    fun c i w hd hw hc hi hlen => (cradle c i hd).2 w hw hc hi (by rwa [bays])⟩
  · have : b.1.tasks = s.tasks := tasks'.trans work.tasks
    show Tasks.mk (b.1.tasks.nest ++ [_]) b.1.tasks.hookCoil b.1.tasks.loose b.1.tasks.unplaced b.1.tasks.outcomes _ = _
    rw [this] <;> rfl
  · rw [journal n hn]
    simp
  · rw [(slot n hn).2, other n hs]
    simp
  · rw [(cradle c i hc).1, bays]
    simp

end Sys2Proof.Machine

namespace Sys2Proof.Proofs

open Machine

/-- Settles O43: the checks in order along the chain of refusals (`beginRefusal_inOrder`); of a Begin that passes them all,
the source lies OCCUPIED and the destination FREE or EMPTY, so that what it reserves (`beginTheTask_keeps`) is as asked. -/
theorem beginTask : Obligations.BeginTask := by
  intro s tag q hr hs hc ht hb nest depth placed hookOk lying found coil weight slots answer
  let w := Machine.taken s 10 tag
  have work : StoreWork s w := taken_work s 10 tag
  have store : w.store = s.store := taken_store s 10 tag
  have wtasks : w.tasks = s.tasks := work.tasks
  have same : beginRefusal w q = beginRefusal s q := by
    obtain ⟨p, h⟩ := taken_withPort s 10 tag
    show beginRefusal (Machine.taken s 10 tag) q = _
    rw [h]
    rfl
  have ran : exec (.beginTask tag (.fields q)) s =
    .next (respond 10 tag (handleBeginTask q w)) := next_eq (request_fields hr (early := false) (unfit := .none) (.inr hc) 10 tag q handleBeginTask)
  refine beginRefusal_inOrder (answer := answer) q ?_
  cases h : beginRefusal s q with
  | some r =>
    refine ran.trans (next_eq ?_)
    rw [handleBeginTask, same, h]
    exact respond_unscanned (r := ⟨w, r.1, r.2⟩) ((taken_scanDue s 10 tag).trans (not_scanDue hs)) 10 tag
  | none =>
    obtain ⟨coilOf, depthOk, source, dest, cradle⟩ := beginRefusal_none h
    have wtables : tablesOk w = true := by rwa [tablesOk_iff, store, ← tablesOk_iff]
    have wslot (n : Nat) : slotAt w n = slotAt s n := slotAt_of_store store n
    have wbay (b : Nat) : w.bay b = s.bay b := taken_bay 10 tag b
    have coilSame : taskCoil w q = coil := by
      rw [← show taskCoil s q = coil from coilOf]
      unfold taskCoil
      simp only [wtasks, wslot]
    obtain ⟨⟨x, tasks, number, kind, src, dst, carrying, xcoil, cls, expected, fromSlot, toSlot, toCradle⟩, yard, outbox,
      port, other, reservedOut, reservedIn, reserved⟩ := beginTheTask_keeps wtables q
    rw [coilSame] at xcoil cls expected reservedIn reserved
    rw [wtasks] at tasks number reservedOut reservedIn reserved
    obtain ⟨k1, k2, k3, k4, k5, k6⟩ := respond_keeps 10 tag (handleBeginTask q w)
    have handled : handleBeginTask q w = ⟨beginTheTask w q, .ok, .begun (numberToGive s.tasks) depth⟩ := by
      rw [handleBeginTask, same, h, wtasks]
    let t := respond 10 tag (handleBeginTask q w)
    have tslot (n : Nat) : slotAt t n = slotAt (beginTheTask w q) n := slotAt_of_slots (k4.trans (by rw [handled])) n
    have tbay (b : Nat) : t.bay b = (beginTheTask w q).bay b := by rw [State.bay, k3, handled, State.bay]
    have left : YardWork { s with port := t.port } t :=
      respond_work (s := s) (r := handleBeginTask q w) (by rw [handled]; exact work.toYardWork.trans yard) 10 tag
    refine ⟨t, ran, ⟨x, k2.trans ?_, number, kind, src, dst, carrying, xcoil, cls, expected, fun n hn => ?_, fun n hn => ?_,
      fun b i hd => ?_⟩, freeNumber_unused nest depthOk _, fun n hs hd => ?_, k5.trans ?_, k6.trans ?_, k1.trans ?_,
      left.travel, left.halt, left.weigher, left.claim, left.peers, left.node⟩
    · rw [handled]
      exact tasks
    · obtain ⟨c, g, k, lies, is⟩ := source n hn
      have is : coil = (c, k, g) := is
      refine ⟨?_, by simpa only [wslot] using fromSlot n hn⟩
      have away : q.dest ≠ .slot n := fun hd => by
        rw [dest n hd] at lies
        cases lies
      rw [tslot, reservedOut n c g k hn away (by rw [wslot, lies])]
      simp only [weight, is]
    · refine ⟨(tslot n).trans (reservedIn n hn), ?_⟩
      have free := dest n hn
      have away : q.source ≠ .slot n := fun hs => by
        obtain ⟨c, g, k, lies, -⟩ := source n hs
        rw [free] at lies
        cases lies
      have entry := toSlot n hn away
      rwa [wslot, free] at entry
    · obtain ⟨empty, l, load, low, high⟩ := cradle b i hd
      have entry := toCradle b i hd
      rw [wbay, empty] at entry
      refine ⟨entry, fun g hg => ?_⟩
      have within : b ≤ 3 := by
        by_contra hb
        rw [bay_beyond (by omega) s] at load
        cases load
      have fits : i ≤ (s.bay b).cradles.length := by
        have := (bayOk_of_load load).mp ((baysOk_iff s).mp hb b)
        simp only [BayRecord.cradles, load, Option.map_some, Option.getD_some]
        omega
      rw [tbay]
      exact reserved b i g hd hg within low (by rwa [wbay])
    · rw [tslot, other n hs hd, wslot]
    · rw [handled]
      exact outbox.trans (by rw [store])
    · rw [handled]
      exact (congrArg Port.events port).trans (taken_events s 10 tag)
    · rw [handled]
      exact congrArg (· ++ _) ((congrArg Port.transmit port).trans (taken_transmit s 10 tag))

end Sys2Proof.Proofs

/-! SUPPORT. The extension attempt (R64) and the shrink (R74): the neighbour test, the gap edge and the limiting peer as the
rules word them, and what each leaves. -/

namespace Sys2Proof.Machine

variable {s t u v w : State}

/-! ## The least and the greatest of edges -/

theorem foldl_min {α : Type} (f : α → Int) : ∀ (l : List α) (b : Int),
    l.foldl (fun e g => min e (f g)) b ≤ b ∧ (∀ g ∈ l, l.foldl (fun e g => min e (f g)) b ≤ f g) ∧
      (l.foldl (fun e g => min e (f g)) b = b ∨ ∃ g ∈ l, l.foldl (fun e g => min e (f g)) b = f g)
  | [], b => by simp
  | x :: l, b => by
    obtain ⟨low, all, some⟩ := foldl_min f l (min b (f x))
    rw [List.foldl_cons]
    refine ⟨low.trans (min_le_left ..), fun g hg => ?_, ?_⟩
    · rcases List.mem_cons.mp hg with rfl | hg
      · exact low.trans (min_le_right ..)
      · exact all g hg
    · rcases some with h | ⟨g, hg, h⟩
      · rcases min_choice b (f x) with hb | hb
        · exact .inl (h.trans hb)
        · exact .inr ⟨x, by simp, h.trans hb⟩
      · exact .inr ⟨g, by simp [hg], h⟩

theorem foldl_max {α : Type} (f : α → Int) : ∀ (l : List α) (b : Int),
    b ≤ l.foldl (fun e g => max e (f g)) b ∧ (∀ g ∈ l, f g ≤ l.foldl (fun e g => max e (f g)) b) ∧
      (l.foldl (fun e g => max e (f g)) b = b ∨ ∃ g ∈ l, l.foldl (fun e g => max e (f g)) b = f g)
  | [], b => by simp
  | x :: l, b => by
    obtain ⟨low, all, some⟩ := foldl_max f l (max b (f x))
    rw [List.foldl_cons]
    refine ⟨(le_max_left ..).trans low, fun g hg => ?_, ?_⟩
    · rcases List.mem_cons.mp hg with rfl | hg
      · exact (le_max_right ..).trans low
      · exact all g hg
    · rcases some with h | ⟨g, hg, h⟩
      · rcases max_choice b (f x) with hb | hb
        · exact .inl (h.trans hb)
        · exact .inr ⟨x, by simp, h.trans hb⟩
      · exact .inr ⟨g, by simp [hg], h⟩

/-! ## The gap edge (R64 step 2) -/

theorem limitingRank_none {k : Interval} {d : Side} (h : ∀ r ∈ peerRanks s, ¬ facesAt s k d r (gapEdge s k d)) :
    limitingRank s k d = none := by
  have empty : (gapEnds s k d).filter (·.2 == gapEdge s k d) = [] := by
    rw [List.filter_eq_nil_iff]
    rintro ⟨r, e⟩ hm
    obtain ⟨hr, hf⟩ := (mem_gapEnds ..).mp hm
    rw [beq_iff_eq]
    rintro rfl
    exact h r hr hf
  unfold limitingRank
  rw [empty]
  rfl

theorem gapEdge_high (s : State) (k : Interval) : let gap := gapEdge s k .high
    gap ≤ s.conf.runway ∧ (∀ r ∈ peerRanks s, ∀ i, peerRegion (s.peer r) = some i → k.high < i.high → gap ≤ i.low) ∧
      (gap = s.conf.runway ∨ ∃ r ∈ peerRanks s, ∃ i, peerRegion (s.peer r) = some i ∧ k.high < i.high ∧ gap = i.low) := by
  obtain ⟨low, all, some⟩ := foldl_min (·.2) (gapEnds s k .high) s.conf.runway
  refine ⟨low, fun r hr i hi hk => all (r, i.low) ((mem_gapEnds ..).mpr ⟨hr, i, hi, .inl ⟨rfl, hk, rfl⟩⟩), some.imp id ?_⟩
  rintro ⟨⟨r, e⟩, hm, he⟩
  obtain ⟨hr, i, hi, ⟨-, hk, rfl⟩ | ⟨h, -⟩⟩ := (mem_gapEnds ..).mp hm
  · exact ⟨r, hr, i, hi, hk, he⟩
  · cases h

theorem gapEdge_low (s : State) (k : Interval) : let gap := gapEdge s k .low
    0 ≤ gap ∧ (∀ r ∈ peerRanks s, ∀ i, peerRegion (s.peer r) = some i → i.low < k.low → i.high ≤ gap) ∧
      (gap = 0 ∨ ∃ r ∈ peerRanks s, ∃ i, peerRegion (s.peer r) = some i ∧ i.low < k.low ∧ gap = i.high) := by
  obtain ⟨low, all, some⟩ := foldl_max (·.2) (gapEnds s k .low) 0
  refine ⟨low, fun r hr i hi hk => all (r, i.high) ((mem_gapEnds ..).mpr ⟨hr, i, hi, .inr ⟨rfl, hk, rfl⟩⟩), some.imp id ?_⟩
  rintro ⟨⟨r, e⟩, hm, he⟩
  obtain ⟨hr, i, hi, ⟨h, -⟩ | ⟨-, hk, rfl⟩⟩ := (mem_gapEnds ..).mp hm
  · cases h
  · exact ⟨r, hr, i, hi, hk, he⟩

/-! ## The extension attempt (R64) -/

/-- R64 step 3: an edge lies beyond the claim. -/
abbrev hasRoom (k : Interval) (d : Side) (edge : Int) : Prop := (d = .high ∧ k.high < edge) ∨ (d = .low ∧ edge < k.low)

/-- R64 step 2: the lesser of wanted edge and gap edge. -/
def edgeToAsk (d : Side) (wanted gap : Int) : Int :=
  match d with
  | .high => min wanted gap
  | .low => max wanted gap

/-- R64 step 4: the view sequence of an own Extend. -/
def ownView (s : State) (d : Side) : Option Nat :=
  match d with
  | .high => if s.conf.ownRank < s.conf.craneCount then (s.peer (s.conf.ownRank + 1)).lastSeq else none
  | .low => if 1 < s.conf.ownRank then (s.peer (s.conf.ownRank - 1)).lastSeq else none

theorem ownView_eq (s : State) (d : Side) : ((viewRank s.conf d).bind fun r => (s.peer r).lastSeq) = ownView s d := by
  cases d with
  | high => simp only [viewRank, ownView]; split <;> rfl
  | low => simp only [viewRank, ownView]; split <;> rfl

theorem offer_active (hn : s.node = .active) (c : Content) : offer s c = { s with link := enqueue s.link c } := by
  rw [offer, hn, if_pos (by rfl)]

theorem beyond_iff (k : Interval) (d : Side) (e : Int) :
    beyond d e (match d with | .high => k.high | .low => k.low) = true ↔ hasRoom k d e := by
  cases d <;> simp [beyond, hasRoom]

theorem proposeEdge_room (hn : s.node = .active) {k : Interval} {d : Side} {e : Int} (h : hasRoom k d e) :
    proposeEdge s k d e = { s with
      link := enqueue s.link (.extend ⟨d, e, ownView s d⟩)
      claim := { s.claim with pending := some ⟨d, e, .queued⟩, retry := none } } := by
  unfold proposeEdge
  refine (if_pos ((beyond_iff k d e).mpr h)).trans ?_
  dsimp only
  rw [ownView_eq, offer_active hn, withClaim]

theorem proposeEdge_full {k : Interval} {d : Side} {e : Int} (h : ¬ hasRoom k d e) : proposeEdge s k d e = startRetry s := by
  unfold proposeEdge
  exact if_neg (mt (beyond_iff k d e).mp h)

theorem extensionAttempt_eq (hn : s.node = .active) {x : WantedEdge} (hx : s.claim.wanted = some x)
    (hp : s.claim.pending = none) {k : Interval} (hk : s.claim.confirmed = some k) :
    let edge := edgeToAsk x.side x.edge (gapEdge s k x.side)
    let asked := proposeEdge s k x.side edge
    (¬ neighbourFit s x.side → extensionAttempt s = startRetry s) ∧
    (neighbourFit s x.side →
      (edge = x.edge → extensionAttempt s = asked) ∧
      (edge ≠ x.edge → extensionAttempt s = match limitingRank s k x.side with
        | some r => if (s.peer r).presence = .live then offer asked (.makeWay ⟨r, x.edge⟩) else asked
        | none => asked)) := by
  intro edge asked
  have near : (if beyond x.side x.edge (gapEdge s k x.side) then gapEdge s k x.side else x.edge) = edge := by
    simp only [edge]
    cases x.side with
    | high => simp only [beyond, edgeToAsk, decide_eq_true_eq, min_def]; split <;> split <;> omega
    | low => simp only [beyond, edgeToAsk, decide_eq_true_eq, max_def]; split <;> split <;> omega
  have short : beyond x.side x.edge edge = true ↔ edge ≠ x.edge := by
    simp only [edge]
    cases x.side with
    | high => simp [beyond, edgeToAsk]
    | low => simp [beyond, edgeToAsk]
  unfold extensionAttempt
  simp only [hn, hx, hp, hk, near, ← neighbourAllows_iff]
  refine ⟨fun h => by simp [h], fun h => ⟨fun he => ?_, fun he => ?_⟩⟩
  · simp only [h, Bool.not_true, Bool.false_eq_true, if_false]
    rw [if_neg (mt short.mp (by simpa using he))]
  · simp only [h, Bool.not_true, Bool.false_eq_true, if_false]
    rw [if_pos (short.mpr he)] <;> rfl

/-! ## The shrink (R74) -/

theorem inside_iff (i j : Interval) : inside i j = true ↔ j.low ≤ i.low ∧ i.high ≤ j.high := by simp [inside]

/-- The smallest interval holding several holds each. -/
theorem foldl_hull : ∀ (l : List Interval) (i : Interval), inside i (l.foldl hull i) = true ∧
    ∀ j ∈ l, inside j (l.foldl hull i) = true
  | [], i => ⟨by simp [inside], by simp⟩
  | x :: l, i => by
    obtain ⟨first, rest⟩ := foldl_hull l (hull i x)
    rw [inside_iff] at first
    simp only [hull] at first
    refine ⟨?_, fun j hj => ?_⟩
    · rw [List.foldl_cons, inside_iff]
      simp only [hull]
      omega
    · rw [List.foldl_cons]
      rcases List.mem_cons.mp hj with rfl | hj
      · rw [inside_iff]
        simp only [hull]
        omega
      · exact rest j hj

/-- An interval that lies inside both what is clipped and what it is clipped to lies inside the clip. -/
theorem inside_clipTo {i j k : Interval} (hi : inside i j = true) (hk : inside i k = true) :
    inside i (clipTo j k) = true := by
  rw [inside_iff] at *
  simp only [clipTo, clamp]
  constructor
  · split
    · omega
    · split <;> omega
  · split
    · omega
    · split <;> omega

/-- R74: the shrink target lies within the claim. -/
theorem shrinkTarget_within {k : Interval} (h : k.low ≤ k.high) (s : State) (x : Int) :
    k.low ≤ (shrinkTarget s k x).low ∧ (shrinkTarget s k x).high ≤ k.high :=
  ⟨(clamp_bounds _ h).1, (clamp_bounds _ h).2⟩

/-- R74: the shrink target holds the envelope and every reserved place that the claim holds. -/
theorem shrinkTarget_holds {k : Interval} (h0 : 0 ≤ k.low) (hr : k.high ≤ s.conf.runway)
    (hm : 0 ≤ s.conf.restMargin) (x : Int) :
    (inside (envelopeAt s x) k = true → inside (envelopeAt s x) (shrinkTarget s k x) = true) ∧
      ∀ j ∈ reservedCoverage s, inside j k = true → inside j (shrinkTarget s k x) = true := by
  obtain ⟨first, rest⟩ := foldl_hull (reservedCoverage s)
    ⟨(envelopeAt s x).low - s.conf.restMargin, (envelopeAt s x).high + s.conf.restMargin⟩
  have whole {i : Interval} (hi : inside i k = true) : inside i (wholeRunway s.conf) = true := by
    rw [inside_iff] at *
    simp only [wholeRunway]
    omega
  constructor
  · intro hi
    refine inside_clipTo (inside_clipTo ?_ (whole hi)) hi
    rw [inside_iff] at first ⊢
    dsimp only at first
    omega
  · exact fun j hj hi => inside_clipTo (inside_clipTo (rest j hj) (whole hi)) hi

/-- R74: what a pending extension's end raises. -/
def pendingEnded (s : State) (k : Interval) : EventRecord :=
  match s.claim.pending with
  | some ⟨d, e, .window _ _⟩ => (eventAt s.port 7).next (.claimChanged (.abandoned d e) (some k))
  | _ => eventAt s.port 7

theorem abandonPending_event {k : Interval} (hk : s.claim.confirmed = some k) :
    eventAt (abandonPending s).port 7 = pendingEnded s k := by
  unfold abandonPending pendingEnded
  cases hp : s.claim.pending with
  | none => rfl
  | some p =>
    obtain ⟨d, e, ph⟩ := p
    cases ph with
    | queued => rfl
    | window w x =>
      rw [← hk]
      exact eventAt_raise_same _ _

theorem reservedCoverage_congr (hr : t.record = s.record) (hn : t.tasks = s.tasks) (hb : t.bays = s.bays) :
    reservedCoverage t = reservedCoverage s := by
  have bays (b : Nat) : bayCoverage t b = bayCoverage s b := by
    unfold bayCoverage
    rw [State.bay, hb, conf_of_record hr] <;> rfl
  unfold reservedCoverage
  rw [hn]
  refine List.filterMap_congr fun e _ => ?_
  cases e with
  | slot n r b => cases b <;> simp only [conf_of_record hr]
  | cradle b i r k => cases k <;> simp only [bays]

theorem shrinkTarget_congr {k : Interval} {x : Int} (hr : t.record = s.record) (ht : t.travel = s.travel)
    (hw : t.weigher = s.weigher) (hn : t.tasks = s.tasks) (hb : t.bays = s.bays) : shrinkTarget t k x = shrinkTarget s k x := by
  simp only [shrinkTarget, envelopeAt, stepInForce, State.axis, conf_of_record hr, ht, hw, reservedCoverage_congr hr hn hb]
  rfl

/-- R74: what a shrink does. -/
theorem shrink_effect (hn : s.node = .active ∨ s.node = .isolated) {k : Interval} (hk : s.claim.confirmed = some k) {x : Int}
    (hx : s.position .bridge = some x) :
    (shrink s).claim.confirmed = some (shrinkTarget s k x) ∧
      eventAt (shrink s).port 7 = (if shrinkTarget s k x = k then pendingEnded s k
        else (pendingEnded s k).next (.claimChanged .shrunk (some (shrinkTarget s k x)))) ∧
      (shrinkTarget s k x ≠ k → queued (shrink s) isReport = true) := by
  let v := abandonPending s
  have conf : v.conf = s.conf := by simp [v, State.conf]
  have target : shrinkTarget v k x = shrinkTarget s k x := by
    refine shrinkTarget_congr ?_ ?_ ?_ ?_ ?_ <;> simp [v]
  have hkv : v.claim.confirmed = some k := by simp [v, hk]
  have hxv : v.position .bridge = some x := by simpa [v, State.position] using hx
  have event : eventAt v.port 7 = pendingEnded s k := abandonPending_event hk
  unfold shrink
  simp only [show (abandonPending s).claim.confirmed = some k from hkv, show (abandonPending s).position .bridge = some x from hxv,
    show shrinkTarget (abandonPending s) k x = shrinkTarget s k x from target]
  by_cases ht : shrinkTarget s k x = k
  · simp only [if_pos ht]
    exact ⟨by rw [ht]; exact hkv, event, fun h => absurd ht h⟩
  · simp only [if_neg ht]
    let y := setConfirmed v (some (shrinkTarget s k x))
    have joined : queued (offer y .report) isReport = true := by
      refine offer_report_queued ?_
      show mayJoin y.node .report = true
      have : y.node = s.node := by simp [y, v]
      rw [this]
      rcases hn with hn | hn <;> rw [hn] <;> rfl
    have confirmed : (offer y .report).claim.confirmed = some (shrinkTarget s k x) := by simp [y, setConfirmed]
    refine ⟨confirmed, ?_, fun _ => joined⟩
    refine (eventAt_raise_same _ (.claimChanged .shrunk (offer y .report).claim.confirmed)).trans ?_
    rw [confirmed, ← event]
    show (eventAt (offer y .report).port 7).next _ = _
    have : (offer y .report).port = v.port := by simp [y]
    rw [this]

end Sys2Proof.Machine

namespace Sys2Proof.Proofs

open Machine

/-- Settles O57: the extension attempt with and without room (`extensionAttempt_eq`, `proposeEdge_room`, `proposeEdge_full`),
the gap edge as the least or greatest facing end, and the shrink as the claim clipped (`shrink_effect`). -/
theorem claimTimers : Obligations.ClaimTimers := by
  constructor
  · intro s hs d hd now idle again expiry
    let u : State := withClaim (elapse s d) { s.claim with retry := none }
    have ran : expiry = .next (extensionAttempt u) := by
      refine next_eq ?_
      rw [hd]
      refine expire_some _ d retryDue ?_
      simp only [settled, retryDue, extensionAttempt_keeps]
      exact hs
    constructor
    · refine fun h => ran.trans (next_eq ?_)
      show extensionAttempt u = u
      unfold extensionAttempt
      split
      · rename_i hn hw hp hk
        rcases h with h | h | h | h
        · exact absurd hn h
        · exact absurd (h.symm.trans hw) nofun
        · rw [show s.claim.pending = none from hp] at h
          cases h
        · exact absurd (h.symm.trans hk) nofun
      · rfl
    intro hn hp x hx k hk gap edge room view
    refine ⟨?_, ?_, fun h => ?_, fun h => ?_⟩
    · exact fun hw => by simp only [gap, hw]; exact gapEdge_high s k
    · exact fun hw => by simp only [gap, hw]; exact gapEdge_low s k
    · exact ran.trans (next_eq ((extensionAttempt_eq (s := u) hn hx hp hk).1 h))
    · obtain ⟨whole, short⟩ := (extensionAttempt_eq (s := u) hn hx hp hk).2 h
      have edgeIs : edgeToAsk x.side x.edge (gapEdge u k x.side) = edge := by
        show edgeToAsk x.side x.edge gap = edge
        simp only [edge]
        cases x.side <;> rfl
      have viewIs : ownView u x.side = view := by
        show ownView s x.side = view
        simp only [view]
        cases x.side <;> rfl
      rw [edgeIs] at whole short
      let asked := proposeEdge u k x.side edge
      have active : asked.node = .active := (show asked.node = u.node by simp [asked]).trans hn
      have same : (extensionAttempt u).claim = asked.claim := by
        by_cases he : edge = x.edge
        · rw [whole he]
        · rw [short he]
          cases limitingRank u k x.side with
          | none => rfl
          | some r =>
            dsimp only
            split
            · exact offer_claim ..
            · rfl
      have link : asked.link = if hasRoom k x.side edge then enqueue s.link (.extend ⟨x.side, edge, view⟩) else s.link := by
        by_cases hr : hasRoom k x.side edge
        · rw [if_pos hr, ← viewIs]
          exact congrArg State.link (proposeEdge_room (s := u) hn hr)
        · rw [if_neg hr]
          exact (congrArg State.link (proposeEdge_full (s := u) hr)).trans rfl
      refine ⟨extensionAttempt u, ran, fun hr => ⟨?_, fun he => ?_⟩, fun hr => ⟨?_, fun he => ?_⟩, fun he => ?_, ?_⟩
      · rw [same]
        exact congrArg State.claim (proposeEdge_room (s := u) hn hr)
      · rw [whole he]
        exact link.trans (if_pos hr)
      · rw [same]
        exact congrArg State.claim (proposeEdge_full (s := u) hr)
      · rw [whole he]
        exact proposeEdge_full hr
      · intro line
        have link : asked.link = line := link
        refine ⟨fun r hl => ?_, fun none => ?_⟩
        · rw [short he, limitingRank_of_limits (s := u) hl, ← link]
          show (if (s.peer r).presence = .live then _ else _ : State).link = _
          rw [apply_ite State.link, offer_active active]
        · rw [short he, limitingRank_none (s := u) none]
          exact link
      · simp only [extensionAttempt_keeps]
        exact ⟨rfl, rfl, rfl, rfl, rfl⟩
  · intro s hs d hd expiry
    let u : State := withClaim (elapse s d) { s.claim with shrink := none }
    have ran : expiry = .next (finish (shrinkIfIdle u)) := by
      refine next_eq ?_
      rw [hd]
      rfl
    refine ⟨fun h => ran.trans (next_eq ?_), fun hn hm k hk x hx => ?_⟩
    · have moving : ¬ u.travel.bridge.move.isNone = true := by
        show ¬ s.travel.bridge.move.isNone = true
        rwa [Option.isNone_iff_eq_none, ← ne_eq, ← Option.isSome_iff_ne_none]
      rw [shrinkIfIdle, if_neg moving]
      exact finish_settled u (not_scanDue hs)
    · intro c v stop low high envelope
      have idle : shrinkIfIdle u = shrink u := if_pos (Option.isNone_iff_eq_none.mpr hm)
      obtain ⟨confirmed, event, report⟩ := shrink_effect (s := u) hn hk hx
      have env : envelopeAt u x = envelope := by
        have low' : x - reach c - (if v < 0 then stop else 0) = low := by simp only [low, reach]; omega
        have high' : x + reach c + (if 0 < v then stop else 0) = high := by simp only [high, reach]; omega
        show clipTo ⟨x - reach c - (if v < 0 then stop else 0), x + reach c + (if 0 < v then stop else 0)⟩ (wholeRunway c) = _
        rw [low', high']
        rfl
      refine ⟨finish (shrinkIfIdle u), ran, ?_⟩
      rw [idle]
      refine ⟨?_, ?_, ?_, shrinkTarget u k x, ?_, fun h => shrinkTarget_within h u x, fun h0 h1 h2 h3 => ?_, fun h => ?_, ?_,
        fun h => finish_keeps_report (report h), ?_, ?_, ?_, ?_, ?_⟩
      · simp only [finish_keeps]
        exact shrink_pending u
      · simp only [finish_keeps, shrink_keeps]
        rfl
      · simp only [finish_keeps, shrink_keeps]
        rfl
      · simp only [finish_keeps]
        exact confirmed
      · rw [← env]
        exact shrinkTarget_holds (s := u) h0 h2 h3 x
      · have none : reservedCoverage u = [] := h
        rw [← env, shrinkTarget, none]
        exact ⟨rfl, rfl⟩
      · intro ended
        simp only [finish_keeps]
        exact event
      all_goals
        simp only [finish_keeps, shrink_keeps]
        rfl

end Sys2Proof.Proofs

/-! SUPPORT. Work on axes and claim at a change of node state (R76 to R78): what the end of a move, a stop and a shrink leave
of the queue and of the own claim record. -/

namespace Sys2Proof.Machine

variable {s t u v w : State}

/-! ## What waits in the queue -/

/-- R28: a withdrawal leaves what it does not name. -/
theorem withdraw_queued_other {p q : Content → Bool} (h : ∀ c, p c = true → q c = false) (s : State) :
    queued (withdraw s p) q = queued s q := by
  unfold queued withdraw withdrawEntries
  rw [List.any_filterMap]
  refine congrArg (List.any _) (funext fun e => ?_)
  cases hp : p e.content <;> cases hw : e.withdrawn <;> cases ho : e.offered <;> simp [h, hp, hw]

/-- R28: what a withdrawal names waits no more. -/
theorem withdraw_queued (s : State) (p : Content → Bool) : queued (withdraw s p) p = false := by
  unfold queued withdraw withdrawEntries
  rw [List.any_filterMap, List.any_eq_false]
  intro e _
  cases hp : p e.content <;> cases hw : e.withdrawn <;> cases ho : e.offered <;> simp [hp, hw]

/-! ## Moves and claim -/

/-- What work on the axes leaves of the queue and of the own claim: a Position Report waits still, a cleared wish stays clear,
the claim is held as before, and without a wish the claim record is as it was where no shrink is made. -/
structure Motion (s t : State) : Prop where
  report : queued s isReport = true → queued t isReport = true
  wish : s.claim.wanted = none → s.claim.retry = none → t.claim.wanted = none ∧ t.claim.retry = none
  held : t.claim.confirmed.isSome = s.claim.confirmed.isSome
  still : shrinks s = false → s.claim.wanted = none → s.claim.retry = none → t.claim = s.claim
  shrinks : shrinks t = shrinks s

namespace Motion

theorem refl (s : State) : Motion s s := ⟨id, fun h k => ⟨h, k⟩, rfl, fun _ _ _ => rfl, rfl⟩

theorem trans (h : Motion s t) (k : Motion t u) : Motion s u where
  report := k.report ∘ h.report
  wish a b := k.wish (h.wish a b).1 (h.wish a b).2
  held := k.held.trans h.held
  still a b c := (k.still (h.shrinks.trans a) (h.wish b c).1 (h.wish b c).2).trans (h.still a b c)
  shrinks := k.shrinks.trans h.shrinks

/-- Work that leaves the link, the claim, the node state and the start record. -/
theorem of_same (hl : t.link = s.link) (hc : t.claim = s.claim) (hn : t.node = s.node) (hr : t.record = s.record) :
    Motion s t := by
  refine ⟨fun h => ?_, fun h k => by rw [hc]; exact ⟨h, k⟩, by rw [hc], fun _ _ _ => hc, ?_⟩
  · rwa [queued, hl]
  · rw [Machine.shrinks, Machine.shrinks, hn, conf_of_record hr]

end Motion

theorem shrinks_congr (hn : t.node = s.node) (hr : t.record = s.record) : shrinks t = shrinks s := by
  rw [shrinks, shrinks, hn, conf_of_record hr]

theorem withAxis_motion (s : State) (a : Axis) (r : AxisRecord) : Motion s (s.withAxis a r) :=
  .of_same (by simp) (by simp) (by simp) (by simp)

theorem raiseEvent_motion (s : State) (d : Detail) : Motion s (raiseEvent s d) := .of_same rfl rfl rfl rfl

theorem clearWanted_motion (s : State) : Motion s (clearWanted s) := by
  refine ⟨id, fun _ _ => ⟨rfl, rfl⟩, rfl, fun _ h k => ?_, rfl⟩
  show { s.claim with wanted := none, retry := none } = _
  rw [← h, ← k]

/-- R74: the end of a pending extension leaves the Position Reports and the confirmed claim. -/
theorem abandonPending_report (h : queued s isReport = true) : queued (abandonPending s) isReport = true := by
  unfold abandonPending
  split
  · exact h
  · show queued (withdraw s isClaimFrame) isReport = true
    rw [withdraw_queued_other (by rintro (_ | _) <;> simp [isClaimFrame, isReport])]
    exact h
  · exact h

theorem shrink_report (h : queued s isReport = true) : queued (shrink s) isReport = true := by
  have first := abandonPending_report h
  unfold shrink
  dsimp only
  split
  · split
    · exact first
    · exact offer_keeps_report (s := setConfirmed (abandonPending s) _) _ first
  · exact first

theorem shrink_held (s : State) : (shrink s).claim.confirmed.isSome = s.claim.confirmed.isSome := by
  have first : (abandonPending s).claim.confirmed = s.claim.confirmed := by simp
  unfold shrink
  dsimp only
  split
  · rename_i k x hk hx
    rw [← first, hk]
    split
    · rw [hk]
    · simp [setConfirmed]
  · rw [first]

theorem shrink_motion (hs : shrinks s = true) : Motion s (shrink s) :=
  ⟨shrink_report, fun h k => by simp [h, k], shrink_held s, fun h => absurd hs (by simp [h]), shrinks_congr (by simp) (by simp)⟩

theorem reportEnd_motion (s : State) (o : MoveOutcome) : Motion s (reportEnd s o) := by
  have clear := clearWanted_motion s
  unfold reportEnd
  split
  · exact .refl s
  · dsimp only
    split
    · exact clear
    · rename_i hs
      have hs : shrinks (clearWanted s) = true := by simpa using hs
      split
      · refine clear.trans ?_
        unfold shrinkIfIdle
        split
        · exact shrink_motion hs
        · exact .refl _
      · refine clear.trans ⟨id, fun h k => ⟨h, k⟩, rfl, fun h => ?_, rfl⟩
        rw [h] at hs
        cases hs

theorem recordEnd_motion (s : State) (a : Axis) (o : MoveOutcome) (x : Int) : Motion s (recordEnd s a o x) := by
  have ended (r : AxisRecord) (d : Detail) : Motion s (if o = .replaced then s.withAxis a r else raiseEvent (s.withAxis a r) d) := by
    split
    · exact withAxis_motion s a r
    · exact (withAxis_motion s a r).trans (raiseEvent_motion _ _)
  unfold recordEnd
  cases a with
  | bridge => exact (ended _ _).trans (reportEnd_motion _ o)
  | trolley => exact ended _ _

theorem endMove_motion (s : State) (a : Axis) (o : MoveOutcome) : Motion s (endMove s a o) := by
  unfold endMove
  split
  · exact .refl s
  · exact recordEnd_motion s a o _

theorem enterStopping_motion (s : State) (a : Axis) : Motion s (enterStopping s a) := by
  unfold enterStopping
  split
  · exact withAxis_motion s a _
  · exact withAxis_motion s a _

theorem stopAxis_motion (s : State) (a : Axis) (o : MoveOutcome) : Motion s (stopAxis s a o) := by
  unfold stopAxis
  split
  · exact (enterStopping_motion s a).trans (endMove_motion _ a o)
  · exact (enterStopping_motion s a).trans (endMove_motion _ a o)
  · exact (enterStopping_motion s a).trans (endMove_motion _ a o)
  · exact (withAxis_motion s a _).trans (endMove_motion _ a o)
  · exact .refl s

theorem isolateAxis_motion (s : State) (a : Axis) : Motion s (isolateAxis s a) := by
  unfold isolateAxis orderStop
  split
  · split
    · split
      · exact .refl s
      · exact withAxis_motion s a _
    · exact .refl s
  · exact (withAxis_motion s a _).trans (endMove_motion _ a _)
  · exact (withAxis_motion s a _).trans (endMove_motion _ a _)
  · exact (withAxis_motion s a _).trans (endMove_motion _ a _)
  · exact .refl s

theorem lineEdge_motion (b s : State) : Motion s (lineEdge b s) := by
  unfold lineEdge
  split
  · exact (raiseEvent_motion s _).trans ((stopAxis_motion _ _ _).trans (stopAxis_motion _ _ _))
  · split
    · exact raiseEvent_motion s _
    · exact .refl s

theorem setReason_motion (s : State) (r : HaltReason) : Motion s (setReason s r) := by
  unfold setReason
  split
  · exact .refl s
  · let t := haltEvent (judgeLine { s with halt := { s.halt with reasons := s.halt.reasons.put true r } }) (.reason r)
    exact (Motion.of_same (s := s) (t := t) rfl rfl rfl rfl).trans (lineEdge_motion s t)

end Sys2Proof.Machine

namespace Sys2Proof.Machine

variable {s t u v w : State}

/-! ## Isolation (R76, R95) -/

/-- R142: the announcement of the outbox touches nothing but the queue. -/
theorem announceOutbox_same (s : State) : (announceOutbox s).halt = s.halt ∧ (announceOutbox s).weigher = s.weigher ∧
    (announceOutbox s).tasks = s.tasks ∧ (announceOutbox s).bays = s.bays ∧ (announceOutbox s).store = s.store ∧
    (announceOutbox s).now = s.now ∧ (announceOutbox s).inputs = s.inputs ∧ (announceOutbox s).listen = s.listen ∧
    (announceOutbox s).link.seq = s.link.seq ∧ (announceOutbox s).link.reportTimer = s.link.reportTimer ∧
    (announceOutbox s).link.attempt = s.link.attempt ∧ (announceOutbox s).scanDue = s.scanDue := by
  rcases announceOutbox_cases s with e | e <;> rw [e] <;> simp

theorem isolateAxis_other {a b : Axis} (h : b ≠ a) : (isolateAxis s a).axis b = s.axis b := by
  have held (r : AxisRecord) : (s.withAxis a r).axis b = s.axis b := withAxis_other s h r
  unfold isolateAxis orderStop
  simp only [enterParked_eq, enterHolding_eq]
  repeat' split
  all_goals simp only [endMove_other h, held]

/-- R95: what the entry to ISOLATED makes of an axis. -/
def axisIsolated (r u : AxisRecord) : Prop :=
  (r.state = .moving → ∀ m, r.move = some m → u = { r with move := some { m with stopOrder := m.stopOrder.or (some .isolated) } }) ∧
  (r.state = .settling ∨ r.state = .waiting → u.state = .holding ∧ u.last.map (·.outcome) = some .isolated) ∧
  (r.state = .releasing → u.state = .parked ∧ u.last.map (·.outcome) = some .isolated) ∧
  (r.move = none → u = r)

theorem isolateAxis_isolated {a : Axis} (ha : axisOk (s.axis a) = true) : axisIsolated (s.axis a) ((isolateAxis s a).axis a) := by
  have ended {r : AxisRecord} (hr : r.move.isSome = true) :
      ((endMove (s.withAxis a r) a .isolated).axis a).state = r.state ∧
        ((endMove (s.withAxis a r) a .isolated).axis a).last.map (·.outcome) = some .isolated := by
    obtain ⟨m, hm⟩ := Option.isSome_iff_exists.mp hr
    rw [endMove_some (by rw [withAxis_axis, hm]), recordEnd_axis, withAxis_axis]
    exact ⟨rfl, rfl⟩
  unfold axisIsolated isolateAxis
  cases h : (s.axis a).state with
  | moving =>
    refine ⟨fun _ m hm => ?_, by simp, by simp, fun hm => ?_⟩
    · simp only [orderStop, hm]
      cases ho : m.stopOrder with
      | none =>
        simp only [Option.isSome_none, Bool.false_eq_true, if_false, withAxis_axis, Option.none_or, ← h]
      | some o =>
        simp only [Option.isSome_some, if_true, Option.some_or]
        rw [← ho, ← hm, ← h]
    · have := ((axisOk_moving h).mp ha).2.2.2.2.2.2
      rw [hm] at this
      cases this
  | releasing =>
    have hm := ((axisOk_releasing h).mp ha).2.2.2.2.2.2.2
    refine ⟨by simp, by simp, fun _ => ?_, fun hn => ?_⟩
    · exact ended hm
    · rw [hn] at hm
      cases hm
  | settling =>
    have hm := ((axisOk_settling h).mp ha).2.2.2.2.2.2.2
    refine ⟨by simp, fun _ => ended hm, by simp, fun hn => ?_⟩
    rw [hn] at hm
    cases hm
  | waiting =>
    have hm := ((axisOk_waiting h).mp ha).2.2.2.2.2.2.2
    refine ⟨by simp, fun _ => ended hm, by simp, fun hn => ?_⟩
    rw [hn] at hm
    cases hm
  | _ => exact ⟨by simp, by simp, by simp, fun _ => rfl⟩

theorem isolateAxis_events (a : Axis) {n : Nat} (h0 : n ≠ 0) (h7 : n ≠ 7) :
    eventAt (isolateAxis s a).port n = eventAt s.port n := by
  unfold isolateAxis orderStop
  simp only [enterParked_eq, enterHolding_eq]
  repeat' split
  all_goals simp [endMove_events, h0, h7]

/-- R15, R32, R46, R47: the entry to ISOLATED from ACTIVE. -/
theorem enterNode_isolated (hn : s.node = .active) (hl : lineOk s = true) :
    enterNode s .isolated = announceOutbox (offer (changeNode s .isolated) .report) := by
  have hl' : lineOk (changeNode s .isolated) = true := by
    simpa [lineOk, lineDue, driveDue, drivingState, changeNode, hn] using hl
  rw [enterNode, refreshLine_of_lineOk _ hl']

/-- R76: what isolation does. -/
theorem isolateNode_effect (hn : s.node = .active) (hl : lineOk s = true) (hx : axesOk s = true) :
    let t := isolateNode s
    t.node = .isolated ∧ t.peers = { s.peers with isolation := none, table := clearArmings s.peers.table } ∧
      t.claim.wanted = none ∧ t.claim.retry = none ∧ t.claim.pending = none ∧
      t.claim.confirmed.isSome = s.claim.confirmed.isSome ∧ (∀ a, axisIsolated (s.axis a) (t.axis a)) ∧
      eventAt t.port 14 = (eventAt s.port 14).next (.nodeState .isolated .active) ∧ queued t isReport = true ∧
      t.halt = s.halt ∧ t.tasks = s.tasks ∧ t.weigher = s.weigher ∧ t.now = s.now := by
  intro t
  let x := enterNode s .isolated
  have entered : x = announceOutbox (offer (changeNode s .isolated) .report) := enterNode_isolated hn hl
  have axis (a : Axis) : x.axis a = s.axis a := axis_of_travel (by rw [entered]; simp [changeNode]) a
  have claim : x.claim = s.claim := by rw [entered]; simp [changeNode]
  let y := clearWanted x
  let z := isolateAxis (isolateAxis y .bridge) .trolley
  have motion : Motion y z := (isolateAxis_motion y .bridge).trans (isolateAxis_motion _ .trolley)
  have report : queued x isReport = true := by
    rw [entered]
    exact announceOutbox_keeps_report (offer_report_queued (by rfl))
  have ok (a : Axis) : axisOk (x.axis a) = true := by
    rw [axis]
    exact ((axesOk_iff s).mp hx a).1
  obtain ⟨wanted, retry⟩ := motion.wish rfl rfl
  have event : eventAt x.port 14 = (eventAt s.port 14).next (.nodeState .isolated .active) := by
    rw [entered, ← hn]
    simp only [announceOutbox_keeps, offer_port]
    exact eventAt_raise_same _ (.nodeState .isolated s.node)
  have last : t = shrink z := rfl
  refine ⟨?_, ?_, by simp [last, wanted], by simp [last, retry], shrink_pending z, (shrink_held z).trans (motion.held.trans ?_),
    fun a => ?_, ?_, shrink_report (motion.report report), ?_, ?_, ?_, ?_⟩
  · simp [t, isolateNode]
  · have : t.peers = x.peers := by simp [t, isolateNode, x]
    rw [this, enterNode_peers]
    exact if_pos hn
  · simp [y, claim]
  · have last : t.axis a = z.axis a := axis_of_travel (by simp [t, isolateNode, z, y, x]) a
    rw [last]
    have yaxis (b : Axis) : y.axis b = x.axis b := axis_of_travel (by simp [y]) b
    cases a with
    | bridge =>
      rw [show z.axis .bridge = _ from isolateAxis_other (by simp), ← axis]
      exact yaxis .bridge ▸ isolateAxis_isolated (s := y) (by rw [yaxis]; exact ok .bridge)
    | trolley =>
      have same : (isolateAxis y .bridge).axis .trolley = s.axis .trolley :=
        (isolateAxis_other (by simp)).trans ((yaxis _).trans (axis _))
      rw [← same]
      exact isolateAxis_isolated (by rw [same, ← axis]; exact ok .trolley)
  · refine (shrink_events z (by simp)).trans ((isolateAxis_events _ (by simp) (by simp)).trans
      ((isolateAxis_events _ (by simp) (by simp)).trans ?_))
    rw [← event]
    simp [y]
  all_goals
    simp [t, isolateNode, enterNode_isolated hn hl, changeNode, announceOutbox_same]

end Sys2Proof.Machine

namespace Sys2Proof.Machine

variable {s t u v w : State}

/-! ## The void (R45, R77) -/

/-- R106: a change between two driving states, or two that are none, leaves drive and line. -/
theorem changeNode_lineOk {m : NodeState} (hl : lineOk s = true) (hd : drivingState m = drivingState s.node) :
    lineOk (changeNode s m) = true := by
  simpa [lineOk, lineDue, driveDue, changeNode, hd] using hl

theorem unwind_reportTimer (s : State) (c : AbortCause) (d : Nat) : (unwind s c d).link.reportTimer = s.link.reportTimer := by
  have entry (t : State) (e : JournalEntry) : (restoreEntry t e).link.reportTimer = t.link.reportTimer := by
    unfold restoreEntry
    split
    · exact congrArg Link.reportTimer (changeSlot_keeps t _ _).2.2.2.1
    · exact (offer_keeps (s := t.withBay _ _) _).2.2.2
    · rfl
  have entries (l : List JournalEntry) : ∀ t : State, (l.foldl restoreEntry t).link.reportTimer = t.link.reportTimer := by
    induction l with
    | nil => exact fun _ => rfl
    | cons e l ih => exact fun t => (ih _).trans (entry t e)
  have tasks (l : List Task) : ∀ t : State, (l.foldl (unwindTask c d) t).link.reportTimer = t.link.reportTimer := by
    induction l with
    | nil => exact fun _ => rfl
    | cons k l ih => exact fun t => (ih _).trans (entries _ t)
  exact tasks _ s

/-- R172: the nest is gone when the node is voided. -/
theorem taskVoided_nest (s : State) : (taskVoided s).tasks.nest = [] := by
  unfold taskVoided abortAtTop
  cases h : s.tasks.nest.getLast? with
  | none => exact List.getLast?_eq_none_iff.mp h
  | some k =>
    show (unwind s _ _).tasks.nest = []
    rw [unwind, (unwindTasks_keeps _ _ _ s).1]
    simp

theorem taskVoided_reportTimer (s : State) : (taskVoided s).link.reportTimer = s.link.reportTimer := by
  unfold taskVoided abortAtTop
  split
  · rfl
  · exact unwind_reportTimer s _ _

/-- R108: a reason that is set moves no axis without a move in hand. -/
theorem setReason_axis_idle (hx : ∀ b, axisOk (s.axis b) = true) (hm : ∀ b, (s.axis b).move = none) (r : HaltReason) (a : Axis) :
    (setReason s r).axis a = s.axis a := by
  unfold setReason
  split
  · rfl
  · dsimp only
    let t := haltEvent (judgeLine { s with halt := { s.halt with reasons := s.halt.reasons.put true r } }) (.reason r)
    have found (b : Axis) : t.axis b = s.axis b := haltEvent_axis _ _
    show (lineEdge s t).axis a = _
    unfold lineEdge
    split
    · have found' (b : Axis) : (haltEvent t .lineAsserted).axis b = s.axis b := (haltEvent_axis _ _).trans (found b)
      rw [stopAxis_idle (a := .bridge) (by rw [found']; exact hx _) (by rw [found']; exact hm _),
        stopAxis_idle (a := .trolley) (by rw [found']; exact hx _) (by rw [found']; exact hm _), found']
    · split
      · exact (haltEvent_axis _ _).trans (found a)
      · exact found a

/-- R45, R77: what the void does to a node in ACTIVE. -/
theorem voidNode_effect (hn : s.node = .active) (hl : lineOk s = true) (hr : s.record.isSome = true) (hx : axesOk s = true) :
    let t := voidNode s
    t.node = .voided ∧ t.claim = .reset ∧ t.halt.reasons.void = true ∧ t.tasks.nest = [] ∧
      (∀ a, axisStopped s t a .voided) ∧ t.halt.drives = true ∧ t.halt.asserted = true ∧ t.store.query = none ∧
      (eventAt t.port 7).detail = some (.claimChanged .removed none) ∧
      eventAt t.port 14 = (eventAt s.port 14).next (.nodeState .voided .active) ∧ queued t isReport = true ∧
      t.link.reportTimer = s.link.reportTimer ∧ t.peers.isolation = none ∧ t.weigher = s.weigher := by
  intro t
  let a := taskVoided s
  let b := removeClaim a
  let y := enterNode b .voided
  let z := stopAxis (stopAxis y .bridge .voided) .trolley .voided
  let q := setReason z .void
  have work : TaskWork s a := abortAtTop_taskWork s _ _ writesHook_id
  have bn : b.node = .active := work.node.trans hn
  have bl : lineOk b = true := by
    refine (lineOk_congr work.halt work.node work.record work.inputs).trans hl
  have entered : y = announceOutbox (closeQuery (offer (changeNode b .voided) .report)) := by
    show enterNode b .voided = _
    rw [enterNode, refreshLine_of_lineOk _ (changeNode_lineOk bl (by rw [bn]; rfl))]
  have travel : y.travel = s.travel := by
    rw [entered]
    simp [changeNode, b, removeClaim, withdrawClaimFrame, work.travel]
  have inputs : y.inputs = s.inputs := by
    rw [entered]
    simp [announceOutbox_same, changeNode, b, removeClaim, withdrawClaimFrame, work.inputs]
  have axis (c : Axis) : y.axis c = s.axis c := axis_of_travel travel c
  have good (c : Axis) : axisGood y c := by
    rw [axisGood, axis]
    exact (axesOk_iff s).mp hx c
  have keptZ (c : Axis) : axisGood z c :=
    ((stopAxis_kept (k := ⟨True, True, True, fun _ => True, fun _ => True⟩) (s := y) .bridge .voided).trans
      (stopAxis_kept .trolley .voided)).axis c trivial (good c)
  have trolley : (stopAxis y .bridge .voided).axis .trolley = s.axis .trolley := (stopAxis_other (by simp) _).trans (axis _)
  have stopped (c : Axis) : axisStopped s z c .voided := by
    cases c with
    | bridge =>
      exact axisStopped_congr (axis .bridge) (position_of_inputs inputs _) (stopAxis_other (by simp) _)
        (stopAxis_stopped (good .bridge).1 .voided)
    | trolley =>
      refine axisStopped_congr trolley (position_of_inputs ?_ _) rfl (stopAxis_stopped (by rw [trolley, ← axis]; exact (good .trolley).1) .voided)
      simp [inputs]
  have idle (c : Axis) : (z.axis c).move = none := by
    obtain ⟨rest, move⟩ := stopped c
    cases hm : (s.axis c).move with
    | none => rw [rest hm, hm]
    | some m => exact (move m hm).1
  have motion : Motion y t := (stopAxis_motion y _ _).trans ((stopAxis_motion _ _ _).trans ((setReason_motion z _).trans
    (raiseEvent_motion q _)))
  have claimY : y.claim = .reset := by
    rw [entered]
    simp [changeNode, b, removeClaim]
  have claim : t.claim = .reset :=
    (motion.still (by simp [shrinks, y]) (by rw [claimY]; rfl) (by rw [claimY]; rfl)).trans claimY
  have node : t.node = .voided := by simp [t, voidNode]
  have reasons : t.halt.reasons.void = true := by
    have : t.halt = q.halt := by simp [t, voidNode, q, z, y, b, a]
    rw [this, setReason_reasons]
    simp [HaltReasons.put]
  have line : lineOk t = true := by
    have lz : lineOk z = true := by
      refine (lineOk_congr ?_ ?_ ?_ ?_).trans (enterNode_lineOk (s := b) .voided) <;> simp [z, y]
    have lq : lineOk q = true := by
      cases h : z.halt.reasons.get .void with
      | true =>
        have : q = z := setReason_again h
        rwa [this]
      | false => exact setReason_lineOk h
    refine (lineOk_congr ?_ ?_ ?_ ?_).trans lq <;> simp [t, voidNode, q, z, y, b, a]
  obtain ⟨drives, asserted, -⟩ := lineOk_iff.mp line
  have driven : t.halt.drives = true := by
    rw [drives, driveDue, node]
    simp [HaltReasons.any, reasons, drivingState]
  refine ⟨node, claim, reasons, ?_, fun c => ?_, driven, ?_, ?_, ?_, ?_, motion.report ?_, ?_, ?_, ?_⟩
  · rw [← taskVoided_nest s]
    refine congrArg Tasks.nest ?_
    show (claimEvent q .removed).tasks = a.tasks
    rw [show (claimEvent q .removed).tasks = y.tasks by simp [q, z], entered]
    simp [announceOutbox_same, changeNode, b, removeClaim, withdrawClaimFrame]
  · have : t.axis c = z.axis c := setReason_axis_idle (fun d => (keptZ d).1) idle .void c
    exact axisStopped_congr rfl rfl this (stopped c)
  · have due : t.record.isSome = true := by
      have : t.record = s.record := by simp [t, voidNode, work.record, removeClaim, withdrawClaimFrame, a]
      rwa [this]
    rw [asserted, lineDue, ← drives, driven]
    simp [due]
  · show (claimEvent q .removed).store.query = none
    rw [show (claimEvent q .removed).store = y.store by simp [q, z], entered]
    simp [announceOutbox_same, closeQuery]
  · have : q.claim.confirmed = none := by
      have : q.claim = .reset := claim
      rw [this]
      rfl
    show (eventAt (claimEvent q .removed).port 7).detail = _
    rw [claimEvent, this]
    rw [show eventAt (raiseEvent q (.claimChanged .removed none)).port 7 = _ from eventAt_raise_same _ (.claimChanged .removed none)]
    rfl
  · have first : eventAt t.port 14 = eventAt y.port 14 :=
      (eventAt_raise_other q _ (by simp [Detail.number])).trans ((setReason_events _ (by simp) (by simp) (by simp)).trans
        ((stopAxis_events _ _ _ (by simp) (by simp)).trans (stopAxis_events _ _ _ (by simp) (by simp))))
    rw [first, entered, ← work.events 14 (by simp), ← bn]
    simp only [announceOutbox_keeps]
    show eventAt (offer (changeNode b .voided) .report).port 14 = _
    rw [offer_port]
    exact eventAt_raise_same _ (.nodeState .voided b.node)
  · rw [entered]
    exact announceOutbox_keeps_report (offer_report_queued (s := changeNode b .voided) (by rfl))
  · show (claimEvent q .removed).link.reportTimer = _
    rw [show (claimEvent q .removed).link.reportTimer = y.link.reportTimer by simp [q, z], entered, ← taskVoided_reportTimer s]
    simp [announceOutbox_same, changeNode, reportTimerAtEntry, closeQuery, b, removeClaim, withdrawClaimFrame, withdraw, a]
  · have : t.peers = y.peers := by
      show (claimEvent q .removed).peers = _
      simp [q, z]
    rw [this, enterNode_peers]
    simp [peersAtEntry, bn]
  · show (claimEvent q .removed).weigher = _
    rw [show (claimEvent q .removed).weigher = y.weigher by simp [q, z], entered, ← work.weigher]
    simp [announceOutbox_same, changeNode, b, removeClaim, withdrawClaimFrame, a]

end Sys2Proof.Machine

namespace Sys2Proof.Machine

variable {s t u v w : State}

/-! ## Rejoin (R78) -/

/-- R106, R107: the entry to LISTENING lets the drive go, so that the line can be released and never asserted. -/
theorem refreshLine_listening (h : (changeNode s .listening).halt.asserted = false → lineDue (changeNode s .listening) = false) :
    refreshLine (changeNode s .listening) = judgeLine (changeNode s .listening) ∨
      refreshLine (changeNode s .listening) = haltEvent (judgeLine (changeNode s .listening)) .lineReleased := by
  let x := changeNode s .listening
  show lineEdge x (judgeLine x) = judgeLine x ∨ lineEdge x (judgeLine x) = _
  have due : (judgeLine x).halt.asserted = lineDue x := rfl
  cases hb : x.halt.asserted with
  | false => exact .inl (lineEdge_same (by rw [due, h hb, hb]))
  | true =>
    cases hd : lineDue x with
    | true => exact .inl (lineEdge_same (by rw [due, hd, hb]))
    | false => exact .inr (lineEdge_released hb (by rw [due, hd]))

theorem enterNode_listening (hd : s.halt.asserted = false → (s.record.isSome && s.inputs.haltLine) = false) :
    let t := enterNode s .listening
    t.halt = ⟨s.halt.reasons, s.record.isSome && s.inputs.haltLine, false, false⟩ ∧ t.travel = s.travel ∧ t.claim = s.claim ∧
      t.peers = peersAtEntry s .listening ∧ t.link = { s.link with reportTimer := none } ∧ t.listen = s.listen ∧
      t.store = { s.store with query := none } ∧ t.tasks = s.tasks ∧ t.bays = s.bays ∧ t.port.transmit = s.port.transmit ∧
      t.scanDue = s.scanDue ∧ t.record = s.record ∧ t.inputs = s.inputs ∧ t.weigher = s.weigher ∧ t.now = s.now ∧
      eventAt t.port 14 = (eventAt s.port 14).next (.nodeState .listening s.node) ∧
      (∀ n, n ≠ 5 → n ≠ 14 → eventAt t.port n = eventAt s.port n) := by
  intro t
  let x := changeNode s .listening
  have due : lineDue x = (s.record.isSome && s.inputs.haltLine) := by
    simp [lineDue, driveDue, drivingState, x, changeNode]
  have less : x.halt.asserted = false → lineDue x = false := fun h => due.trans (hd h)
  have event14 : eventAt x.port 14 = (eventAt s.port 14).next (.nodeState .listening s.node) :=
    eventAt_raise_same _ (.nodeState .listening s.node)
  have events {n : Nat} (h : n ≠ 14) : eventAt x.port n = eventAt s.port n := eventAt_raise_other _ _ h
  have halt : (judgeLine x).halt = ⟨s.halt.reasons, s.record.isSome && s.inputs.haltLine, false, false⟩ := by
    have drive : driveDue x = false := by simp [driveDue, drivingState, x, changeNode]
    rw [← due]
    show (⟨s.halt.reasons, lineDue x, driveDue x, driveDue x && !s.inputs.haltLine⟩ : HaltUnit) = _
    rw [drive, Bool.false_and]
  have entered : t = closeQuery (refreshLine x) := rfl
  rcases refreshLine_listening less with e | e
  · rw [entered, e]
    exact ⟨halt, rfl, rfl, rfl, rfl, rfl, rfl, rfl, rfl, rfl, rfl, rfl, rfl, rfl, rfl, event14, fun n _ h => events h⟩
  · rw [entered, e]
    refine ⟨halt, rfl, rfl, rfl, rfl, rfl, rfl, rfl, rfl, rfl, rfl, rfl, rfl, rfl, rfl, ?_, fun n h5 h => ?_⟩
    · exact (haltEvent_events _ (by simp)).trans event14
    · exact (haltEvent_events _ h5).trans (events h)

/-- R143: without a claim a query scan asks for no row. -/
theorem finish_query_none (hq : s.store.query = none) (hk : s.claim.confirmed = none) : (finish s).store.query = none := by
  unfold finish
  split
  · let u : State := { s with scanDue := false }
    have query : (clearSpent u).store.query = none := by simpa [u] using hq
    have none : rowToAsk (clearSpent u) = none := by
      refine List.find?_eq_none.mpr fun r _ => ?_
      have : rowCovered (clearSpent u) r = false := by
        rw [rowCovered, covers, coversInterval, show (clearSpent u).claim.confirmed = none by simpa [u] using hk]
        rfl
      simp [this]
    show (queryScan u).store.query = _
    unfold queryScan
    simp only [query, none]
    exact query
  · exact hq

/-- R30, R49, R78: what an accepted Rejoin does. -/
theorem rejoinNode_effect (hl : lineOk s = true) (hr : s.record.isSome = true) :
    let t := rejoinNode s
    t.node = .listening ∧ t.listen = some (s.now + silenceTimeoutOf s.conf) ∧ t.claim = .reset ∧
      t.halt.reasons = { s.halt.reasons with void := false } ∧ t.halt.drives = false ∧ t.halt.asserted = s.inputs.haltLine ∧
      t.link.queue = withdrawEntries (fun _ => true) s.link.queue ∧ t.link.reportTimer = none ∧
      t.link.attempt = s.link.attempt ∧ (s.node ≠ .active → t.peers.table = s.peers.table) ∧
      (∀ g, s.peers.inFlight = some g →
        (g.taken = true → t.peers.inFlight = some g ∧ eventAt t.port 15 = eventAt s.port 15) ∧
        (g.taken = false → t.peers.inFlight = none ∧
          eventAt t.port 15 = (eventAt s.port 15).next (.releaseOutcome g.rank .withdrawn none))) ∧
      eventAt t.port 14 = (eventAt s.port 14).next (.nodeState .listening s.node) ∧ t.port.transmit = s.port.transmit ∧
      t.travel = s.travel ∧ t.store.slots = s.store.slots ∧ t.tasks = s.tasks ∧ t.bays = s.bays ∧ t.scanDue = s.scanDue := by
  intro t
  let a := withdraw (withClaim (clearReason s .void) ClaimRecord.reset) fun _ => true
  let b := if a.peers.inFlight.any (!·.taken) then endFlight a .withdrawn none else a
  have flight : (∃ p q, b = { a with peers := p, port := q }) ∧ b.peers.table = s.peers.table ∧
      b.port.transmit = s.port.transmit ∧ eventAt b.port 14 = eventAt s.port 14 ∧ ∀ g, s.peers.inFlight = some g →
        (g.taken = true → b.peers.inFlight = some g ∧ eventAt b.port 15 = eventAt s.port 15) ∧
        (g.taken = false → b.peers.inFlight = none ∧
          eventAt b.port 15 = (eventAt s.port 15).next (.releaseOutcome g.rank .withdrawn none)) := by
    have peers : a.peers = s.peers := rfl
    cases h : s.peers.inFlight with
    | none =>
      have : b = a := if_neg (by simp [peers, h])
      rw [this]
      exact ⟨⟨_, _, rfl⟩, rfl, rfl, rfl, nofun⟩
    | some f =>
      cases hf : f.taken with
      | true =>
        have : b = a := if_neg (by simp [peers, h, hf])
        rw [this]
        refine ⟨⟨_, _, rfl⟩, rfl, rfl, rfl, ?_⟩
        rintro g ⟨⟩
        exact ⟨fun _ => ⟨h, rfl⟩, fun hg => absurd (hf.symm.trans hg) (by simp)⟩
      | false =>
        have : b = raiseEvent { a with peers := { a.peers with inFlight := none } } (.releaseOutcome f.rank .withdrawn none) := by
          refine (if_pos (by simp [peers, h, hf])).trans ?_
          simp only [endFlight, peers, h]
        rw [this]
        refine ⟨⟨_, _, rfl⟩, rfl, rfl, eventAt_raise_other _ _ (by simp [Detail.number]), ?_⟩
        rintro g ⟨⟩
        exact ⟨fun hg => absurd (hf.symm.trans hg) (by simp),
          fun _ => ⟨rfl, eventAt_raise_same _ (.releaseOutcome f.rank .withdrawn none)⟩⟩
  obtain ⟨⟨p, q, same⟩, table, transmit, event14, flown⟩ := flight
  have final : t = startListening b := rfl
  rw [final]
  clear_value b
  subst same
  have asserted : s.halt.asserted = false → (s.record.isSome && s.inputs.haltLine) = false := by
    intro h
    have := (lineOk_iff.mp hl).2.1
    rw [h, lineDue, hr, Bool.true_and] at this
    rw [(Bool.or_eq_false_iff.mp this.symm).1, Bool.and_false]
  let y : State := { a with peers := p, port := q, listen := some (s.now + silenceTimeoutOf s.conf) }
  obtain ⟨halt, travel, claim, peers, link, listen, store, tasks, bays, port, scan, -, -, -, -, entered, events⟩ :=
    enterNode_listening (s := y) asserted
  show (enterNode y .listening).node = _ ∧ _
  have inFlight : (enterNode y .listening).peers.inFlight = p.inFlight := by
    rw [peers]
    simp only [peersAtEntry]
    split <;> rfl
  have rest : (enterNode y .listening).peers.inFlight = p.inFlight ∧
      eventAt (enterNode y .listening).port 15 = eventAt q 15 := ⟨inFlight, events 15 (by simp) (by simp)⟩
  refine ⟨enterNode_node _ _, listen, claim, ?_, ?_, ?_, ?_, ?_, ?_, fun hn => ?_, fun g hg => ?_, ?_, port.trans transmit, travel,
    ?_, tasks, bays, scan⟩
  · exact (congrArg HaltUnit.reasons halt).trans rfl
  · exact (congrArg HaltUnit.drives halt).trans rfl
  · refine (congrArg HaltUnit.asserted halt).trans ?_
    show (s.record.isSome && s.inputs.haltLine) = _
    rw [hr, Bool.true_and]
  · exact (congrArg Link.queue link).trans rfl
  · exact (congrArg Link.reportTimer link).trans rfl
  · exact (congrArg Link.attempt link).trans rfl
  · refine (congrArg Peers.table peers).trans ?_
    exact (congrArg Peers.table (if_neg hn)).trans table
  · show (_ → (enterNode y .listening).peers.inFlight = _ ∧ eventAt (enterNode y .listening).port 15 = _) ∧
      (_ → (enterNode y .listening).peers.inFlight = _ ∧ eventAt (enterNode y .listening).port 15 = _)
    rw [rest.1, rest.2]
    exact flown g hg
  · exact entered.trans (congrArg (fun e : EventRecord => e.next (.nodeState .listening s.node)) event14)
  · exact (congrArg Store.slots store).trans rfl

end Sys2Proof.Machine

namespace Sys2Proof.Proofs

open Machine

/-- Settles O58: isolation (`isolateNode_effect`), the void (`voidNode_effect`), whose last reason finds no move to stop, and
Rejoin (`rejoinNode_effect`), whose entry to LISTENING can only release the line. -/
theorem isolationVoidAndRejoin : Obligations.IsolationVoidAndRejoin := by
  refine ⟨fun s hs hr hl hx d hd => ?_, fun s r seq n byRelease hq hl hx => ?_, fun s tag hr hs hc hl hx => ?_⟩
  · have ran : exec .isolationTimeout s = .next (finish (isolationDue (elapse s d))) := by
      refine next_eq ?_
      rw [hd]
      rfl
    let u : State := { elapse s d with peers := { s.peers with isolation := none } }
    refine ⟨fun hn => ran.trans (next_eq ?_), fun hn => ?_⟩
    · have : isolationDue (elapse s d) = u := if_neg hn
      rw [this]
      exact finish_settled u (not_scanDue hs)
    · have due : isolationDue (elapse s d) = isolateNode u := if_pos hn
      have same (a : Axis) : u.axis a = s.axis a := rfl
      obtain ⟨node, peers, wanted, retry, pending, held, axes, event, report, halt, tasks, weigher, now⟩ :=
        isolateNode_effect (s := u) hn hl hx
      have peer (r : Nat) : (finish (isolateNode u)).peer r = { s.peer r with arming := none } := by
        simp only [State.peer, finish_keeps, peers]
        exact peerAt_clearArmings _ _
      have port : (finish (isolateNode u)).port = (isolateNode u).port := by simp only [finish_keeps]
      refine ⟨_, ran, ?_⟩
      rw [due]
      refine ⟨?_, ?_, ?_, ?_, ?_, ?_, fun r => ?_, fun a => ?_, ?_, finish_keeps_report report, ?_, ?_, ?_, ?_⟩
      · simp only [finish_keeps, node]
      · simp only [finish_keeps, peers]
      · simp only [finish_keeps, wanted]
      · simp only [finish_keeps, retry]
      · simp only [finish_keeps, pending]
      · simp only [finish_keeps, held]
        rfl
      · rw [peer]
        exact ⟨rfl, rfl, rfl⟩
      · rw [show (finish (isolateNode u)).axis a = (isolateNode u).axis a from axis_of_travel (by simp only [finish_keeps]) a]
        exact axes a
      · rw [port, event]
        rfl
      · simp only [finish_keeps, halt]
        rfl
      · simp only [finish_keeps, tasks]
        rfl
      · simp only [finish_keeps, weigher]
        rfl
      · simp only [finish_keeps, now]
        rfl
  · intro c
    obtain ⟨hr, hn, -, -, -, -, -, -⟩ := quiet_parts s hq
    let h := heard s r seq
    have void : reportVoid h = voidNode h := by
      have : h.node = .active := hn
      simp only [reportVoid, this]
    have ran : exec c s = .next (finish (voidNode h)) := by
      rw [← void]
      cases byRelease with
      | true =>
        have own : peerRelease r seq ⟨s.conf.ownRank, n⟩ h = reportVoid h := if_pos rfl
        exact next_eq ((receive_quiet s hq false _).trans (congrArg finish own))
      | false =>
        have own : objectionTaken r ⟨s.conf.ownRank, n, .void⟩ h = reportVoid h := if_pos rfl
        exact next_eq ((receive_quiet s hq false _).trans (congrArg finish own))
    obtain ⟨node, claim, void, nest, stopped, drives, asserted, query, detail, event, report, timer, isolation, weigher⟩ :=
      voidNode_effect (s := h) hn hl hr hx
    have port : (finish (voidNode h)).port = (voidNode h).port := by simp only [finish_keeps]
    refine ⟨_, ran, ?_, ?_, ?_, ?_, fun a => ?_, ?_, ?_, ?_, ?_, ?_, finish_keeps_report report, ?_, ?_, ?_⟩
    · simp only [finish_keeps, node]
    · simp only [finish_keeps, claim]
    · simp only [finish_keeps, void]
    · simp only [finish_keeps, nest]
    · exact axisStopped_congr (u := h) (t := voidNode h) rfl rfl (axis_of_travel (by simp only [finish_keeps]) a) (stopped a)
    · simp only [finish_keeps, drives]
    · simp only [finish_keeps, asserted]
    · exact finish_query_none query (by rw [claim]; rfl)
    · rw [port, detail]
    · rw [port, event]
      rfl
    · simp only [finish_keeps, timer]
      rfl
    · simp only [finish_keeps, isolation]
    · simp only [finish_keeps, weigher]
      rfl
  · intro standing may
    let w := Machine.taken s 24 tag
    have stood (a : Axis) : stands (s.axis a) = true ↔ standing a := by simp [stands, standing]
    have iff : mayRejoin w = true ↔ may := by
      have : mayRejoin w = mayRejoin s := by simp [mayRejoin, w]
      rw [this, mayRejoin]
      simp only [Bool.or_eq_true, Bool.and_eq_true, beq_iff_eq, and_assoc]
      exact or_congr Iff.rfl (and_congr Iff.rfl (and_congr (stood .bridge) (stood .trolley)))
    have ran : exec (.rejoin tag (.fields ())) s = .next (respond 24 tag (handleRejoin () w)) :=
      next_eq (request_fields hr (early := false) (unfit := .none) (.inr hc) 24 tag () handleRejoin)
    refine ⟨fun h => ran.trans (next_eq ?_), fun h hq => ?_⟩
    · rw [handleRejoin, if_neg (mt iff.mp h)]
      exact respond_unscanned ((taken_scanDue s 24 tag).trans (not_scanDue hs)) 24 tag
    · have wl : lineOk w = true := (lineOk_congr (by simp [w]) (by simp [w]) (by simp [w]) (by simp [w])).trans hl
      obtain ⟨node, listen, claim, reasons, drives, asserted, queue, timer, attempt, table, flight, event, transmit, travel,
        slots, tasks, bays, scan⟩ := rejoinNode_effect (s := w) wl (by simpa [w] using hc)
      have done : respond 24 tag (handleRejoin () w) = answered (rejoinNode w) 24 tag .ok .none := by
        rw [handleRejoin, if_pos (iff.mpr h)]
        exact respond_unscanned (r := accept (rejoinNode w)) (scan.trans ((taken_scanDue s 24 tag).trans (not_scanDue hs))) 24 tag
      rw [done] at ran
      have idle : w.node ≠ .active := by
        rw [show w.node = s.node by simp [w]]
        rcases h with h | ⟨h, -⟩ <;> rw [h] <;> simp
      refine ⟨_, ran, node, ?_, claim, ?_, drives, ?_, fun e he => ?_, timer, ?_, ?_, fun g hg => ?_, ?_, ?_, ?_, ?_, ?_, ?_⟩
      · refine listen.trans ?_
        simp [w, silenceTimeoutOf]
      · refine reasons.trans ?_
        rw [show w.halt = s.halt by simp [w]]
      · exact asserted.trans (by simp [w])
      · have he : e ∈ withdrawEntries (fun _ => true) s.link.queue := by
          have : (answered (rejoinNode w) 24 tag .ok .none).link.queue = withdrawEntries (fun _ => true) s.link.queue :=
            queue.trans (by simp [w])
          rwa [this] at he
        obtain ⟨f, hf, hm⟩ := List.mem_filterMap.mp he
        have marks := ((queueOk_iff s.link).mp hq).marks f hf
        cases hw : f.withdrawn with
        | true =>
          simp only [hw, Bool.not_true, Bool.and_false, Bool.false_eq_true, if_false, Option.some.injEq] at hm
          rw [← hm]
          exact ⟨marks.1 hw, hw⟩
        | false =>
          cases ho : f.offered with
          | true =>
            simp only [hw, ho, Bool.not_false, Bool.and_true, if_true, Option.some.injEq] at hm
            rw [← hm]
            exact ⟨rfl, rfl⟩
          | false => simp [hw, ho] at hm
      · exact attempt.trans (by simp [w])
      · exact (table idle).trans (by simp [w])
      · obtain ⟨yes, no⟩ := flight g (by simpa [w] using hg)
        have event : eventAt w.port 15 = eventAt s.port 15 := taken_eventAt 24 tag 15
        rw [event] at yes no
        exact ⟨yes, no⟩
      · refine event.trans ?_
        rw [taken_eventAt, taken_node]
      · refine (congrArg (· ++ _) transmit).trans ?_
        rw [taken_transmit]
      · exact travel.trans (by simp [w])
      · exact slots.trans (by simp [w])
      · exact tasks.trans (by simp [w])
      · exact bays.trans (by simp [w])

end Sys2Proof.Proofs

/-! SUPPORT. The own Join and Extend and their windows (R14, R60, R61, R66, R70). -/

namespace Sys2Proof.Machine

variable {s t u v w : State}

/-! ## The entry to a node state (R15, R31, R32) -/

theorem refreshLine_motion (s : State) : Motion s (refreshLine s) :=
  (Motion.of_same (s := s) (t := judgeLine s) rfl rfl rfl rfl).trans (lineEdge_motion s (judgeLine s))

theorem enterNode_same (s : State) (m : NodeState) : (enterNode s m).tasks = s.tasks ∧ (enterNode s m).weigher = s.weigher ∧
    (enterNode s m).now = s.now ∧ (enterNode s m).inputs = s.inputs ∧ (enterNode s m).bays = s.bays ∧
    (enterNode s m).listen = listenAtEntry s m ∧ (enterNode s m).link.reportTimer = reportTimerAtEntry s m ∧
    (enterNode s m).link.seq = s.link.seq ∧ (enterNode s m).link.attempt = s.link.attempt ∧
    (enterNode s m).travel.hoist = s.travel.hoist := by
  cases m <;> simp [enterNode, changeNode, announceOutbox_same, withdraw, closeQuery]

theorem enterNode_event (s : State) (m : NodeState) :
    eventAt (enterNode s m).port 14 = (eventAt s.port 14).next (.nodeState m s.node) := by
  rw [(enterNode_after_line s m).2.2, refreshLine, lineEdge_events _ _ (by simp) (by simp) (by simp)]
  exact eventAt_raise_same _ (.nodeState m s.node)

/-- R32: an entry that queues a Position Report. -/
theorem enterNode_report (s : State) {m : NodeState} (hm : reportable m = true) : queued (enterNode s m) isReport = true := by
  have joined : mayJoin (refreshLine (changeNode s m)).node .report = true := by
    have : (refreshLine (changeNode s m)).node = m := by simp [changeNode]
    rw [this]
    cases m <;> first | rfl | cases hm
  have announced := announceOutbox_keeps_report (offer_report_queued joined)
  cases m with
  | joining => exact announced
  | active => exact announced
  | isolated => exact announced
  | voided => exact announceOutbox_keeps_report (s := closeQuery _) (offer_report_queued joined)
  | _ => cases hm

/-- R63: without a wish, and where no shrink follows, an entry leaves the claim record. -/
theorem enterNode_claim (s : State) {m : NodeState} (hm : (m = .active ∨ m = .isolated) → s.conf.craneCount = 1)
    (hw : s.claim.wanted = none) (hr : s.claim.retry = none) : (enterNode s m).claim = s.claim := by
  have shrunk : shrinks (changeNode s m) = false := by
    show ((m == .active || m == .isolated) && s.conf.craneCount != 1) = false
    cases m <;> simp [hm]
  have line : (refreshLine (changeNode s m)).claim = s.claim := (refreshLine_motion _).still shrunk hw hr
  rw [← line]
  cases m <;> simp [enterNode, closeQuery]

/-- R54, R61: what entry to JOIN_BLOCKED leaves. -/
theorem blockJoin_effect (s : State) : (blockJoin s).node = .joinBlocked ∧ (blockJoin s).claim = .reset ∧
    (blockJoin s).listen = none ∧ (blockJoin s).link.reportTimer = none ∧ (blockJoin s).link.seq = s.link.seq ∧
    eventAt (blockJoin s).port 14 = (eventAt s.port 14).next (.nodeState .joinBlocked s.node) := by
  let u : State := scanLater (withClaim s ClaimRecord.reset)
  obtain ⟨-, -, -, -, -, listen, timer, seq, -, -⟩ := enterNode_same u .joinBlocked
  exact ⟨enterNode_node _ .joinBlocked, enterNode_claim u (by simp) rfl rfl, listen, timer, seq, enterNode_event u .joinBlocked⟩

/-- R105, R106: an entry that lets the node drive as before moves no line. -/
theorem enterNode_still {m : NodeState} (hl : lineOk s = true) (hd : drivingState m = drivingState s.node) :
    (enterNode s m).halt = s.halt ∧ (enterNode s m).travel = s.travel ∧ (enterNode s m).claim = s.claim := by
  have line : refreshLine (changeNode s m) = changeNode s m := refreshLine_of_lineOk _ (changeNode_lineOk hl hd)
  have entered : (enterNode s m).halt = (changeNode s m).halt ∧ (enterNode s m).travel = (changeNode s m).travel ∧
      (enterNode s m).claim = (changeNode s m).claim := by
    rw [← line]
    cases m <;> simp [enterNode, announceOutbox_same, closeQuery, withdraw]
  exact entered

/-- R59: the set an own interval is tested against is that of the peers' regions. -/
theorem overlapsTested_own (hr : t.record = s.record) (hp : t.peers.table = s.peers.table) (i : Interval) :
    overlapsTested t t.conf.ownRank i = overlapsTested s s.conf.ownRank i := by
  have conf : t.conf = s.conf := by simp only [State.conf, hr]
  have peer : t.peer = s.peer := by
    funext r
    simp only [State.peer, hp]
  simp only [overlapsTested, testedSet, peerRanks, conf, peer, if_true]

theorem claim_listening (hc : claimOk s = true) (hn : claimless s.node = true) : s.claim = .reset := by
  simpa [claimOk, hn] using hc

/-! ## The listen window (R14, R22, R60) -/

theorem endListening_single (hn : s.node = .listening) (hc : s.claim = .reset) (h1 : s.conf.craneCount = 1) :
    let t := finish (endListening s)
    t.node = .active ∧ t.listen = none ∧ t.claim = { s.claim with confirmed := some ⟨0, s.conf.runway⟩ } ∧
      t.peers.isolation = none ∧
      (s.link.reportTimer = none → t.link.reportTimer = some (s.now + s.conf.reportInterval)) ∧
      eventAt t.port 14 = (eventAt s.port 14).next (.nodeState .active .listening) ∧ t.link.seq = s.link.seq ∧
      queued t isReport = true ∧ t.tasks = s.tasks ∧ t.weigher = s.weigher := by
  let u : State := setConfirmed { s with listen := none } (some (wholeRunway s.conf))
  have due : endListening s = enterNode u .active := by
    rw [endListening, if_neg (by simp [hn]), if_pos h1]
  intro t
  have port : t.port = (enterNode u .active).port := by simp only [t, finish_keeps, due]
  have event : eventAt (enterNode u .active).port 14 = (eventAt s.port 14).next (.nodeState .active s.node) :=
    enterNode_event u .active
  have claim : (enterNode u .active).claim = u.claim :=
    enterNode_claim u (fun _ => h1) (by simp [u, setConfirmed, withClaim, hc, ClaimRecord.reset])
      (by simp [u, setConfirmed, withClaim, hc, ClaimRecord.reset])
  obtain ⟨tasks, weigher, -, -, -, listen, timer, seq, -, -⟩ := enterNode_same u .active
  refine ⟨?_, ?_, ?_, ?_, fun hn => ?_, ?_, ?_, ?_, ?_, ?_⟩
  · simp only [t, finish_keeps, due, enterNode_node]
  · simp only [t, finish_keeps, due, listen]
    rfl
  · simp only [t, finish_keeps, due, claim]
    rfl
  · simp only [t, finish_keeps, due, enterNode_peers]
    exact if_pos h1
  · simp only [t, finish_keeps, due, timer]
    show (match s.link.reportTimer with | some t => some t | none => some (s.now + s.conf.reportInterval)) = _
    rw [hn]
  · rw [port, event, hn]
  · simp only [t, finish_keeps, due, seq]
    rfl
  · rw [show t = finish (enterNode u .active) from congrArg finish due]
    exact finish_keeps_report (enterNode_report u rfl)
  · simp only [t, finish_keeps, due, tasks]
    rfl
  · simp only [t, finish_keeps, due, weigher]
    rfl

/-- R14: the coverage of the bridge at a position, clipped to the runway. -/
theorem coverage_clipped (c : StartRecord) (x : Int) : clipTo (coverageOf c x) (wholeRunway c) =
    ⟨clamp 0 c.runway (x - c.halfLength - c.margin), clamp 0 c.runway (x + c.halfLength + c.margin)⟩ := by
  simp only [clipTo, coverageOf, wholeRunway, reach]
  congr 2 <;> omega

theorem endListening_join {x : Int} (hn : s.node = .listening) (h1 : s.conf.craneCount ≠ 1) (hx : s.position .bridge = some x) :
    endListening s = formJoin { s with listen := none } (clipTo (coverageOf s.conf x) (wholeRunway s.conf)) := by
  rw [endListening, if_neg (by simp [hn]), if_neg h1, hx]

theorem endListening_again (hn : s.node = .listening) (h1 : s.conf.craneCount ≠ 1) (hx : s.position .bridge = none) :
    endListening s = { s with listen := some (s.now + silenceTimeoutOf s.conf) } := by
  rw [endListening, if_neg (by simp [hn]), if_neg h1, hx]

/-! ## The own Join and Extend are taken (R61, R66) -/

/-- R21: a frame of the node's own that is taken goes to its owning block. -/
theorem exec_taken {a : Attempt} (ha : s.link.attempt = some a) : exec .taken s =
    .next (finish (deliverOwn (closeAttempt s a) a (s.link.queue.any fun e => e.offered && e.withdrawn))) := by
  refine next_eq ?_
  show takeAttempt s = _
  rw [takeAttempt, ha]

theorem ownJoinTaken_recorded {i : Interval} (hn : s.node = .listening) (hc : s.claim = .reset)
    (ho : overlapsTested s s.conf.ownRank i = false) :
    let t := finish (ownJoinTaken s i false)
    t.node = .joining ∧
      t.claim = { s.claim with confirmed := some i, joinWindow := some (s.now + 2 * s.conf.reportInterval) } ∧
      t.link.reportTimer = some (s.now + s.conf.reportInterval) ∧ queued t isReport = true ∧
      eventAt t.port 14 = (eventAt s.port 14).next (.nodeState .joining .listening) ∧ t.link.seq = s.link.seq := by
  let u := enterNode s .joining
  have peers : u.peers.table = s.peers.table := by
    simp [u, enterNode_peers, peersAtEntry, hn]
  have fits : overlapsTested u u.conf.ownRank i = false := (overlapsTested_own (by simp [u]) peers i).trans ho
  have due : ownJoinTaken s i false =
      setConfirmed (withClaim u { u.claim with joinWindow := some (u.now + objectionWindowOf u.conf) }) (some i) :=
    if_neg (Bool.eq_false_iff.mp ((Bool.false_or _).trans fits))
  have claim : u.claim = s.claim := enterNode_claim s (by simp) (by rw [hc]; rfl) (by rw [hc]; rfl)
  have event : eventAt u.port 14 = _ := enterNode_event s .joining
  obtain ⟨-, -, now, -, -, -, timer, seq, -, -⟩ := enterNode_same s .joining
  have conf : u.conf = s.conf := by simp [u, State.conf]
  intro t
  have port : t.port = u.port := by simp only [t, finish_keeps, due]; rfl
  refine ⟨?_, ?_, ?_, ?_, ?_, ?_⟩
  · simp only [t, finish_keeps, due]
    exact enterNode_node _ .joining
  · simp only [t, finish_keeps, due, setConfirmed, scanLater_claim, withClaim_claim, claim, conf]
    rw [show u.now = s.now from now]
    rfl
  · simp only [t, finish_keeps, due]
    exact timer
  · show queued (finish (ownJoinTaken s i false)) isReport = true
    rw [due]
    exact finish_keeps_report (enterNode_report s rfl)
  · rw [port, event, hn]
  · simp only [t, finish_keeps, due]
    exact seq

theorem ownJoinTaken_blocked {i : Interval} {w : Bool} (hn : s.node = .listening)
    (ho : w = true ∨ overlapsTested s s.conf.ownRank i = true) :
    let t := finish (ownJoinTaken s i w)
    t.node = .joinBlocked ∧ t.claim = .reset ∧ t.link.reportTimer = none ∧ t.link.seq = s.link.seq ∧
      eventAt t.port 14 =
        ((eventAt s.port 14).next (.nodeState .joining .listening)).next (.nodeState .joinBlocked .joining) := by
  let u := enterNode s .joining
  have peers : u.peers.table = s.peers.table := by
    simp [u, enterNode_peers, peersAtEntry, hn]
  have due : ownJoinTaken s i w = blockJoin u := by
    refine if_pos ?_
    rw [Bool.or_eq_true]
    exact ho.imp_right (overlapsTested_own (s := s) (t := u) (by simp [u]) peers i).trans
  have event : eventAt u.port 14 = _ := enterNode_event s .joining
  have entered : u.node = .joining := enterNode_node _ .joining
  obtain ⟨-, -, -, -, -, -, -, seq, -, -⟩ := enterNode_same s .joining
  obtain ⟨node, claim, -, timer, kept, blocked⟩ := blockJoin_effect u
  intro t
  have port : t.port = (blockJoin u).port := by simp only [t, finish_keeps, due]
  refine ⟨?_, ?_, ?_, ?_, ?_⟩
  · simp only [t, finish_keeps, due, node]
  · simp only [t, finish_keeps, due, claim]
  · simp only [t, finish_keeps, due, timer]
  · simp only [t, finish_keeps, due, kept]
    exact seq
  · rw [port, blocked, event, entered, hn]

/-- R66, R69: what the own Extend that is taken leaves. -/
theorem ownExtendTaken_effect (s : State) (f : ExtendFrame) (seq : Nat) (w : Bool) :
    let t := ownExtendTaken s f seq w
    t.scanDue = s.scanDue ∧ t.link = s.link ∧ t.node = s.node ∧ t.travel = s.travel ∧
      t.claim.confirmed = s.claim.confirmed ∧ t.peers = s.peers ∧ (w = true ∨ s.claim.pending = none → t = s) ∧
      (w = false → ∀ p, s.claim.pending = some p → ∀ k, s.claim.confirmed = some k →
        (overlapsTested s s.conf.ownRank (addedInterval k f.side f.edge) = false →
          t = withClaim s { s.claim with
            pending := some { p with phase := .window seq (s.now + 2 * s.conf.reportInterval) } }) ∧
        (overlapsTested s s.conf.ownRank (addedInterval k f.side f.edge) = true →
          t.claim = { s.claim with
            pending := none
            retry := if s.claim.wanted.isSome then some (s.now + s.conf.reportInterval) else s.claim.retry } ∧
          eventAt t.port 7 = (eventAt s.port 7).next (.claimChanged (.void p.side p.edge) (some k)))) := by
  intro t
  cases w with
  | true => exact ⟨rfl, rfl, rfl, rfl, rfl, rfl, fun _ => rfl, fun h => (nomatch h)⟩
  | false =>
    cases hp : s.claim.pending with
    | none =>
      have same : t = s := by simp only [t, ownExtendTaken, hp]
      rw [same]
      exact ⟨rfl, rfl, rfl, rfl, rfl, rfl, fun _ => rfl, fun _ _ h => (nomatch h)⟩
    | some p =>
      cases hk : s.claim.confirmed with
      | none =>
        have same : t = s := by simp only [t, ownExtendTaken, hp, hk]
        rw [same]
        exact ⟨rfl, rfl, rfl, rfl, hk, rfl, fun _ => rfl, fun _ _ _ _ h => (nomatch h)⟩
      | some k =>
        let dropped := claimEvent (withClaim s { s.claim with pending := none }) (.void p.side p.edge)
        have cases : t = if overlapsTested s s.conf.ownRank (addedInterval k f.side f.edge) then retryIfWanted dropped
            else withClaim s { s.claim with
              pending := some { p with phase := .window seq (s.now + objectionWindowOf s.conf) } } := by
          simp only [t, ownExtendTaken, dropped, hp, hk]
        cases ho : overlapsTested s s.conf.ownRank (addedInterval k f.side f.edge) with
        | false =>
          rw [ho, if_neg (by simp)] at cases
          rw [cases]
          refine ⟨rfl, rfl, rfl, rfl, hk, rfl, fun h => ?_, fun _ p' h k' h' => ?_⟩
          · rcases h with h | h <;> cases h
          · cases h
            cases h'
            exact ⟨fun _ => rfl, fun h => absurd (ho.symm.trans h) (by simp)⟩
        | true =>
          rw [ho, if_pos rfl] at cases
          rw [cases]
          refine ⟨by simp [dropped], by simp [dropped], by simp [dropped], by simp [dropped], by simp [dropped, hk],
            by simp [dropped], fun h => ?_, fun _ p' h k' h' => ?_⟩
          · rcases h with h | h <;> cases h
          · cases h
            cases h'
            refine ⟨fun h => absurd (ho.symm.trans h) (by simp), fun _ => ⟨?_, ?_⟩⟩
            · have wish : dropped.claim = { s.claim with pending := none } := by simp [dropped]
              rw [retryIfWanted, wish]
              split
              · rw [startRetry, wish]
                rfl
              · exact wish
            · have event : eventAt dropped.port 7 =
                  (eventAt s.port 7).next (.claimChanged (.void p.side p.edge) s.claim.confirmed) :=
                eventAt_raise_same _ (.claimChanged (.void p.side p.edge) s.claim.confirmed)
              rw [show (retryIfWanted dropped).port = dropped.port by simp, event, hk]

/-! ## The windows' ends (R70) -/

theorem wantedReached_iff (k : Interval) (w : WantedEdge) : wantedReached k w = true ↔
    (w.side = .high ∧ w.edge ≤ k.high) ∨ (w.side = .low ∧ k.low ≤ w.edge) := by
  obtain ⟨side, edge⟩ := w
  cases side <;> simp [wantedReached]

/-- R62, R63, R70: what the confirmation of the own extension leaves. -/
theorem confirmExtension_effect (p : PendingExtension) (k : Interval) (hn : s.node = .active) :
    let t := confirmExtension s p k
    let wider := widen k p.side p.edge
    t.claim.confirmed = some wider ∧ t.claim.pending = none ∧ t.claim.shrink = s.claim.shrink ∧
      (s.claim.wanted = none → t.claim.wanted = none ∧ t.claim.retry = s.claim.retry) ∧
      (∀ w, s.claim.wanted = some w →
        (wantedReached wider w = true → t.claim.wanted = none ∧ t.claim.retry = none) ∧
        (wantedReached wider w = false → t.claim.wanted = some w ∧ t.claim.retry = some (s.now + s.conf.reportInterval))) ∧
      eventAt t.port 7 = (eventAt s.port 7).next (.claimChanged (.confirmed p.side p.edge) (some wider)) ∧
      queued t isReport = true ∧ t.now = s.now ∧ t.travel = s.travel ∧ t.halt = s.halt ∧ t.node = s.node ∧
      t.peers = s.peers ∧ t.store.slots = s.store.slots ∧ t.tasks = s.tasks ∧ t.weigher = s.weigher := by
  intro t wider
  let held := setConfirmed (withClaim s { s.claim with pending := none }) (some wider)
  let told := claimEvent (offer held .report) (.confirmed p.side p.edge)
  have cases : t = if told.claim.wanted.any (wantedReached wider) then clearWanted told else retryIfWanted told := rfl
  have claim : told.claim = { s.claim with pending := none, confirmed := some wider } := by simp [told, held, setConfirmed]
  have confirmed : (offer held .report).claim.confirmed = some wider := by simp [held, setConfirmed]
  have port : (offer held .report).port = s.port := by simp [held, setConfirmed]
  have event : eventAt told.port 7 = (eventAt s.port 7).next (.claimChanged (.confirmed p.side p.edge) (some wider)) := by
    rw [← confirmed, ← port]
    exact eventAt_raise_same _ (.claimChanged (.confirmed p.side p.edge) (offer held .report).claim.confirmed)
  have report : queued told isReport = true := by
    have : queued (offer held .report) isReport = true :=
      offer_report_queued (by rw [show held.node = .active from hn]; rfl)
    exact this
  have wanted : told.claim.wanted = s.claim.wanted := by rw [claim]
  rw [wanted] at cases
  have rest (u : State) (hl : u.link = told.link) (hport : u.port = told.port) (h1 : u.claim.confirmed = told.claim.confirmed)
      (h2 : u.claim.pending = told.claim.pending) (h3 : u.claim.shrink = told.claim.shrink) :
      u.claim.confirmed = some wider ∧ u.claim.pending = none ∧ u.claim.shrink = s.claim.shrink ∧
        eventAt u.port 7 = (eventAt s.port 7).next (.claimChanged (.confirmed p.side p.edge) (some wider)) ∧
        queued u isReport = true := by
    refine ⟨by rw [h1, claim], by rw [h2, claim], by rw [h3, claim], by rw [hport]; exact event, ?_⟩
    simpa only [queued, hl] using report
  cases hw : s.claim.wanted with
  | none =>
    rw [hw] at cases
    have same : t = told := by rw [cases, retryIfWanted, wanted, hw]; rfl
    obtain ⟨h1, h2, h3, h7, hq⟩ := rest t (by rw [same]) (by rw [same]) (by rw [same]) (by rw [same]) (by rw [same])
    refine ⟨h1, h2, h3, fun _ => ?_, fun w h => (nomatch h), h7, hq, ?_⟩
    · rw [same, claim]
      exact ⟨hw, rfl⟩
    · rw [same]
      simp [told, held, setConfirmed]
  | some w =>
    rw [hw, Option.any_some] at cases
    cases hd : wantedReached wider w with
    | true =>
      rw [hd, if_pos rfl] at cases
      obtain ⟨h1, h2, h3, h7, hq⟩ := rest t (by simp [cases]) (by simp [cases]) (by simp [cases]) (by simp [cases]) (by simp [cases])
      refine ⟨h1, h2, h3, fun h => (nomatch h), fun w' h => ?_, h7, hq, ?_⟩
      · cases h
        rw [cases]
        exact ⟨fun _ => ⟨rfl, rfl⟩, fun h => absurd (hd.symm.trans h) (by simp)⟩
      · rw [cases]
        simp [told, held, setConfirmed]
    | false =>
      rw [hd, if_neg (by simp), retryIfWanted, wanted, hw, if_pos (by simp)] at cases
      obtain ⟨h1, h2, h3, h7, hq⟩ := rest t (by rw [cases]; rfl) (by rw [cases]; rfl) (by rw [cases]; rfl) (by rw [cases]; rfl)
        (by rw [cases]; rfl)
      refine ⟨h1, h2, h3, fun h => (nomatch h), fun w' h => ?_, h7, hq, ?_⟩
      · cases h
        rw [cases]
        refine ⟨fun h => absurd (hd.symm.trans h) (by simp), fun _ => ⟨wanted.trans hw, ?_⟩⟩
        simp [startRetry, told, held, setConfirmed, State.conf]
      · rw [cases]
        simp [startRetry, told, held, setConfirmed]

/-- R70: the end of the own join window makes the node ACTIVE, and moves no line. -/
theorem completeJoin_effect (hn : s.node = .joining) (hl : lineOk s = true) :
    let t := completeJoin s
    t.node = .active ∧ t.claim = { s.claim with joinWindow := none } ∧ queued t isReport = true ∧
      t.peers.isolation = (if s.conf.craneCount = 1 then none else some (s.now + s.conf.silenceCount * s.conf.reportInterval)) ∧
      eventAt t.port 14 = (eventAt s.port 14).next (.nodeState .active .joining) ∧ t.travel = s.travel ∧
      t.halt = s.halt ∧ t.peers.table = s.peers.table ∧ t.tasks = s.tasks ∧ t.weigher = s.weigher := by
  let u := withClaim s { s.claim with joinWindow := none }
  have lu : lineOk u = true := (lineOk_congr rfl rfl rfl rfl).trans hl
  obtain ⟨halt, travel, claim⟩ := enterNode_still (s := u) (m := .active) lu (by rw [show u.node = .joining from hn]; rfl)
  obtain ⟨tasks, weigher, -⟩ := enterNode_same u .active
  have event : eventAt (enterNode u .active).port 14 = (eventAt s.port 14).next (.nodeState .active s.node) :=
    enterNode_event u .active
  rw [hn] at event
  refine ⟨enterNode_node u .active, claim, enterNode_report u rfl, ?_, event, travel, halt, ?_, tasks, weigher⟩
  · exact (congrArg Peers.isolation (enterNode_peers (s := u) .active)).trans rfl
  · exact (congrArg Peers.table (enterNode_peers (s := u) .active)).trans rfl

end Sys2Proof.Machine

namespace Sys2Proof.Proofs

open Machine

/-- Settles O56: the listen window (`endListening_single`, `endListening_join`), the own Join (`ownJoinTaken_recorded`,
`ownJoinTaken_blocked`), and the windows' ends, which move no line. -/
theorem ownClaimWindows : Obligations.OwnClaimWindows := by
  intro s hs hr hl hx hk c own
  have scan := not_scanDue hs
  refine ⟨fun hn d hd => ?_, fun a ha => ?_, fun d hd hn => ?_, fun hn p hp n d hw k hc => ?_⟩
  · intro now
    let u := elapse s d
    have ran : exec .listenWindowEnd s = .next (finish (endListening u)) := by
      refine next_eq ?_
      rw [hd]
      rfl
    have reset : s.claim = .reset := claim_listening hk (by rw [hn]; rfl)
    refine ⟨fun h1 => ⟨_, ran, endListening_single (s := u) hn reset h1⟩, fun h1 hb => ran.trans (next_eq ?_), fun h1 x hb => ?_⟩
    · rw [endListening_again (s := u) hn h1 hb]
      exact finish_settled _ scan
    · intro i
      have formed : endListening u = formJoin { u with listen := none } i :=
        (endListening_join (s := u) hn h1 hb).trans (congrArg _ (coverage_clipped c x))
      rw [formed] at ran
      refine ⟨fun ho => ran.trans (next_eq ?_), fun ho => ⟨_, ran, ?_⟩⟩
      · have joined : formJoin { u with listen := none } i =
            { u with listen := none, link := { enqueue s.link (.join i) with seq := 0 } } := by
          let v : State := { u with listen := none }
          have fits : overlapsTested v v.conf.ownRank i = false := (overlapsTested_own (s := s) rfl rfl i).trans ho
          have node : v.node = .listening := hn
          show formJoin v i = _
          rw [formJoin, if_neg (Bool.eq_false_iff.mp fits), offer, if_pos (by rw [node]; rfl)]
          rfl
        rw [joined]
        exact finish_settled _ scan
      · have blocked : formJoin { u with listen := none } i = blockJoin { u with listen := none } :=
          if_pos ((overlapsTested_own (s := s) rfl rfl i).trans ho)
        obtain ⟨node, claim, listen, timer, -, event⟩ := blockJoin_effect { u with listen := none }
        rw [blocked]
        have port : (finish (blockJoin { u with listen := none })).port = (blockJoin { u with listen := none }).port := by
          simp only [finish_keeps]
        simp only [finish_keeps]
        refine ⟨node, claim, listen, timer, event.trans ?_⟩
        rw [show ({ u with listen := none } : State).node = .listening from hn]
        rfl
  · intro withdrawn
    have ran := exec_taken ha
    refine ⟨fun hn i hf => ⟨_, ran, ?_⟩, fun f hf => ⟨_, ran, ?_⟩⟩
    · have reset : s.claim = .reset := claim_listening hk (by rw [hn]; rfl)
      have own : deliverOwn (closeAttempt s a) a withdrawn = ownJoinTaken (closeAttempt s a) i withdrawn := by
        rw [deliverOwn, hf]
      rw [own]
      have same : overlapsTested (closeAttempt s a) (closeAttempt s a).conf.ownRank i = overlapsTested s s.conf.ownRank i :=
        overlapsTested_own rfl rfl i
      have seq : (finish (ownJoinTaken (closeAttempt s a) i withdrawn)).link.seq = (closeAttempt s a).link.seq := by
        cases hv : withdrawn with
        | true => exact (ownJoinTaken_blocked (s := closeAttempt s a) hn (.inl rfl)).2.2.2.1
        | false =>
          cases ho : overlapsTested s s.conf.ownRank i with
          | true => exact (ownJoinTaken_blocked (s := closeAttempt s a) hn (.inr (same.trans ho))).2.2.2.1
          | false => exact (ownJoinTaken_recorded (s := closeAttempt s a) hn reset (same.trans ho)).2.2.2.2.2
      refine ⟨fun hv ho => ?_, fun h => ?_, seq⟩
      · rw [hv]
        obtain ⟨node, claim, timer, report, event, -⟩ :=
          ownJoinTaken_recorded (s := closeAttempt s a) hn reset (same.trans ho)
        exact ⟨node, claim, timer, report, event⟩
      · obtain ⟨node, claim, timer, -, event⟩ :=
          ownJoinTaken_blocked (s := closeAttempt s a) (i := i) hn (h.imp_right same.trans)
        exact ⟨node, claim, timer, event⟩
    · have own : deliverOwn (closeAttempt s a) a withdrawn = ownExtendTaken (closeAttempt s a) f a.seq withdrawn := by
        rw [deliverOwn, hf]
      obtain ⟨due, link, node, travel, confirmed, peers, none, done⟩ :=
        ownExtendTaken_effect (closeAttempt s a) f a.seq withdrawn
      rw [own, finish_settled _ (due.trans scan)]
      have same : overlapsTested (closeAttempt s a) (closeAttempt s a).conf.ownRank = overlapsTested s c.ownRank := by
        funext i
        exact overlapsTested_own rfl rfl i
      refine ⟨congrArg Link.seq link, node, travel, confirmed, peers, fun h => ?_, fun hv p hp k hk' => ?_⟩
      · rw [none h]
        exact ⟨rfl, rfl⟩
      · obtain ⟨fits, void⟩ := done hv p hp k hk'
        rw [same] at fits void
        refine ⟨fun ho => ?_, fun ho => void ho⟩
        rw [fits ho]
        exact ⟨rfl, rfl⟩
  · let u := elapse s d
    have ran : exec .joinWindowExpiry s = .next (finish (completeJoin u)) := by
      refine next_eq ?_
      rw [hd]
      exact congrArg finish (if_pos hn)
    obtain ⟨node, claim, report, isolation, event, travel, halt, table, tasks, weigher⟩ :=
      completeJoin_effect (s := u) hn ((lineOk_congr rfl rfl rfl rfl).trans hl)
    refine ⟨_, ran, ?_⟩
    have kept := finish_keeps_report report
    simp only [finish_keeps]
    exact ⟨node, claim, kept, isolation, event, travel, halt, table, tasks, weigher⟩
  · let u := elapse s d
    have deadline : extensionDeadline s = some d := by
      obtain ⟨side, edge, phase⟩ := p
      cases hw
      rw [extensionDeadline, hp]
    have ran : exec .extensionWindowExpiry s = .next (finish (confirmExtension u p k)) := by
      refine next_eq ?_
      rw [deadline]
      refine congrArg finish ?_
      rw [extensionDue, show (elapse s d).claim = s.claim from rfl, hp, hc]
    refine ⟨_, ran, ?_⟩
    intro now wider
    have widened : widen k p.side p.edge = wider := rfl
    obtain ⟨confirmed, pending, shrink, wishless, wish, event, report, time, travel, halt, node, peers, slots, tasks, weigher⟩ :=
      confirmExtension_effect (s := u) p k hn
    rw [widened] at confirmed wish event
    have kept := finish_keeps_report report
    simp only [finish_keeps]
    refine ⟨confirmed, pending, shrink, wishless, fun w hw => ?_, event, kept, time, travel, halt, node, peers, slots, tasks, weigher⟩
    obtain ⟨yes, no⟩ := wish w hw
    have iff := wantedReached_iff wider w
    exact ⟨fun h => yes (iff.mpr h), fun h => no (by simpa using mt iff.mp h)⟩

end Sys2Proof.Proofs

/-! SUPPORT. What stands in the transmit queue, and the numbers of the sender, through a handling (R16 to R33). -/

namespace Sys2Proof.Machine

variable {s t u : State}

/-! ## The numbers of the sender -/

/-- R18, R22, R33: from s to t the attempt, the sequence due, the line counters and the outbox stay. -/
structure Sending (s t : State) : Prop where
  attempt : t.link.attempt = s.link.attempt
  seq : t.link.seq = s.link.seq
  counters : t.link.counters = s.link.counters
  outbox : t.store.outbox = s.store.outbox

namespace Sending

theorem refl (s : State) : Sending s s := ⟨rfl, rfl, rfl, rfl⟩

theorem trans (h : Sending s t) (k : Sending t u) : Sending s u :=
  ⟨k.attempt.trans h.attempt, k.seq.trans h.seq, k.counters.trans h.counters, k.outbox.trans h.outbox⟩

theorem foldl {α : Type} {f : State → α → State} (hf : ∀ t a, Sending t (f t a)) (l : List α) (s : State) :
    Sending s (l.foldl f s) := by
  induction l generalizing s with
  | nil => exact refl s
  | cons a l ih => exact (hf s a).trans (ih _)

theorem offer (s : State) (c : Content) : Sending s (offer s c) := by
  constructor <;> simp

theorem finish (s : State) : Sending s (finish s) := by
  constructor <;> simp

/-! ### Node states -/

theorem setReason (s : State) (r : HaltReason) : Sending s (setReason s r) := by
  constructor <;> simp

theorem enterNode (s : State) (m : NodeState) : Sending s (enterNode s m) := by
  have announced (v : State) : Sending v (announceOutbox v) := by
    rcases announceOutbox_cases v with e | e <;> rw [e]
    · exact refl v
    · exact offer v _
  have line : Sending s (refreshLine (changeNode s m)) := by
    constructor <;> simp [changeNode]
  have closed (v : State) : Sending v (closeQuery v) := ⟨rfl, rfl, rfl, rfl⟩
  cases m with
  | joining => exact line.trans ((offer _ _).trans (announced _))
  | isolated => exact line.trans ((offer _ _).trans (announced _))
  | active => exact (line.trans ((offer _ _).trans (announced _))).trans ⟨rfl, rfl, rfl, rfl⟩
  | voided => exact line.trans ((offer _ _).trans ((closed _).trans (announced _)))
  | joinBlocked =>
    let x := refreshLine (changeNode s .joinBlocked)
    have withdrawn : Sending x (withdraw x isReport) := ⟨rfl, rfl, rfl, rfl⟩
    exact line.trans (withdrawn.trans ((closed _).trans (announced _)))
  | listening => exact line.trans (closed _)
  | unconfigured => exact line

theorem blockJoin (s : State) : Sending s (blockJoin s) :=
  trans (t := scanLater (withClaim s ClaimRecord.reset)) ⟨rfl, rfl, rfl, rfl⟩ (enterNode _ _)

/-- R168: unwinding a nest sends nothing. -/
theorem unwind (s : State) (c : AbortCause) (d : Nat) : Sending s (unwind s c d) := by
  have entry (t : State) (e : JournalEntry) : Sending t (restoreEntry t e) := by
    have outbox := (restoreEntry_keeps t e).2.2
    unfold restoreEntry at *
    split
    · constructor <;> simp [restoreSlot]
    · exact (show Sending t (t.withBay _ _) by constructor <;> simp).trans (offer _ _)
    · exact refl t
  refine foldl (fun t k => ?_) _ s
  exact (foldl entry _ t).trans ⟨rfl, rfl, rfl, rfl⟩

theorem voidNode (s : State) : Sending s (voidNode s) := by
  have aborted : Sending s (taskVoided s) := by
    unfold taskVoided abortAtTop
    split
    · exact refl s
    · exact (unwind s _ _).trans ⟨rfl, rfl, rfl, rfl⟩
  have removed : Sending s (removeClaim (taskVoided s)) := aborted.trans ⟨rfl, rfl, rfl, rfl⟩
  have stopped (v : State) (a : Axis) : Sending v (stopAxis v a .voided) := by
    constructor <;> simp
  exact (removed.trans ((enterNode _ _).trans ((stopped _ _).trans ((stopped _ _).trans (setReason _ _))))).trans
    ⟨rfl, rfl, rfl, rfl⟩

/-! ### Peers -/

theorem endFlight (s : State) (o : ReleaseOutcome) (d : Option Nat) : Sending s (endFlight s o d) := by
  unfold Machine.endFlight
  split
  · exact refl s
  · exact ⟨rfl, rfl, rfl, rfl⟩

theorem endFlightOf (s : State) (r : Nat) (o : ReleaseOutcome) (d : Option Nat) : Sending s (endFlightOf s r o d) := by
  unfold Machine.endFlightOf
  split
  · split
    · refine trans ?_ (endFlight _ o d)
      split
      · exact refl s
      · exact ⟨rfl, rfl, rfl, rfl⟩
    · exact refl s
  · exact refl s

theorem denyAt (denier target seq : Nat) (s : State) (rank : Nat) : Sending s (denyAt denier target seq s rank) := by
  unfold Machine.denyAt
  split
  · exact trans (t := s.mapPeer rank _) ⟨rfl, rfl, rfl, rfl⟩ (endFlightOf _ _ _ _)
  · exact refl s

theorem retest (s : State) : Sending s (retest s) := by
  have join : Sending s (retestJoin s) := by
    unfold retestJoin
    split
    · split
      · split
        · exact trans (t := withdrawClaimFrame s) ⟨rfl, rfl, rfl, rfl⟩ (blockJoin _)
        · exact refl s
      · exact refl s
    · exact refl s
  refine join.trans ?_
  unfold Machine.retest retestExtend
  split
  · split
    · constructor <;> simp [withdrawClaimFrame, withdraw]
    · exact refl _
  · exact refl _

theorem handRegion (s : State) (region : Option Interval) (rank : Nat) : Sending s (handRegion s region rank) := by
  cases region with
  | none => exact refl s
  | some i =>
    refine trans (t := markRegion s i rank) ?_ ?_
    · exact (foldl (f := markRow) (fun _ _ => ⟨rfl, rfl, rfl, rfl⟩) _ s).trans ⟨rfl, rfl, rfl, rfl⟩
    · refine foldl (fun t b => ?_) _ _
      split
      · constructor <;> simp
      · exact refl t

theorem overlapOwn (s : State) (sender seq : Nat) : Sending s (overlapOwn s sender seq) := by
  unfold Machine.overlapOwn
  split
  · exact blockJoin s
  · split
    · split
      · constructor <;> simp
      · exact refl s
    · exact refl s

theorem overlapPeer (s : State) (rank seq : Nat) : Sending s (overlapPeer s rank seq) := by
  unfold Machine.overlapPeer
  dsimp only
  split
  · exact trans (t := s.mapPeer rank _) ⟨rfl, rfl, rfl, rfl⟩ (retest _)
  · split
    · exact trans (t := s.mapPeer rank _) ⟨rfl, rfl, rfl, rfl⟩ (retest _)
    · exact refl s

theorem objectionTaken (sender : Nat) (f : ObjectionFrame) (s : State) : Sending s (objectionTaken sender f s) := by
  unfold Machine.objectionTaken
  split
  · split
    · exact overlapOwn s _ _
    · exact overlapPeer s _ _
  · split
    · unfold reportVoid
      split <;> first | exact voidNode s | exact refl s
    · exact refl s
  · exact foldl (fun t r => denyAt _ _ _ t r) _ s

theorem holdPending (s : State) (sender seq : Nat) (f : ReleaseFrame) : Sending s (holdPending s sender seq f) := by
  unfold Machine.holdPending
  dsimp only
  split
  · exact ⟨rfl, rfl, rfl, rfl⟩
  · exact (handRegion s _ _).trans ⟨rfl, rfl, rfl, rfl⟩

theorem ownReleaseTaken (s : State) (seq : Nat) (f : ReleaseFrame) : Sending s (ownReleaseTaken s seq f) := by
  unfold Machine.ownReleaseTaken
  dsimp only
  split
  · split
    · exact (holdPending s s.conf.ownRank seq f).trans ⟨rfl, rfl, rfl, rfl⟩
    · exact holdPending s s.conf.ownRank seq f
  · split
    · exact endFlight s _ _
    · exact refl s

theorem ownJoinTaken (s : State) (i : Interval) (w : Bool) : Sending s (ownJoinTaken s i w) := by
  refine (enterNode s .joining).trans ?_
  unfold Machine.ownJoinTaken
  dsimp only
  split
  · exact blockJoin _
  · exact ⟨rfl, rfl, rfl, rfl⟩

theorem ownExtendTaken (s : State) (f : ExtendFrame) (seq : Nat) (w : Bool) : Sending s (ownExtendTaken s f seq w) := by
  unfold Machine.ownExtendTaken
  split
  · split
    · constructor <;> simp
    · exact ⟨rfl, rfl, rfl, rfl⟩
  · exact refl s

/-- R21: what the owning block does with the node's own frame. -/
theorem deliverOwn (s : State) (a : Attempt) (w : Bool) : Sending s (deliverOwn s a w) := by
  unfold Machine.deliverOwn
  split
  · exact ownJoinTaken s _ w
  · exact ownExtendTaken s _ _ w
  · exact objectionTaken _ _ s
  · exact ownReleaseTaken s _ _
  · unfold ownQueryTaken
    split
    · split <;> exact ⟨rfl, rfl, rfl, rfl⟩
    · exact refl s
  all_goals exact refl s

end Sending

end Sys2Proof.Machine

/-! SUPPORT. What stands in the transmit queue through a handling (R24 to R28), and the denials of a release (R52). -/

namespace Sys2Proof.Machine

variable {s t u : State} {p : Content → Bool}

/-! ## The entries of a kind -/

/-- From s to t the entries of the queue that a predicate names stay as they are, in their order. -/
def SameEntries (p : Content → Bool) (s t : State) : Prop :=
  (t.link.queue.filter fun e => p e.content) = s.link.queue.filter fun e => p e.content

/-- R25: a predicate names all the entries that one merges with, or none of them. -/
def Kindly (p : Content → Bool) : Prop := ∀ c d, c.merges d = true → p c = p d

theorem insertEntry_filter {e : Entry} (he : p e.content = false) (q : List Entry) :
    (insertEntry e q).filter (fun e => p e.content) = q.filter fun e => p e.content := by
  induction q with
  | nil => simp [insertEntry, he]
  | cons x q ih =>
    unfold insertEntry
    split
    · rw [List.filter_cons, List.filter_cons, ih]
    · rw [List.filter_cons, if_neg (by simp [he])]

theorem mergeInto_filter (hp : Kindly p) {c : Content} (hc : p c = false) {stamp : Nat} {q q' : List Entry}
    (h : mergeInto c stamp q = some q') : (q'.filter fun e => p e.content) = q.filter fun e => p e.content := by
  obtain ⟨as, e, bs, rfl, rfl, -, hm⟩ := mergeInto_mem h
  have before : p e.content = false := (hp c _ hm).symm.trans hc
  have after : p (mergeEntry c stamp e).content = false := by
    unfold mergeEntry
    repeat' split
    all_goals first | exact before | exact hc
  simp [List.filter_append, before, after]

theorem enqueue_filter (hp : Kindly p) {c : Content} (hc : p c = false) (l : Link) :
    ((enqueue l c).queue.filter fun e => p e.content) = l.queue.filter fun e => p e.content := by
  unfold enqueue
  split
  · exact mergeInto_filter hp hc ‹_›
  · exact insertEntry_filter hc _

namespace SameEntries

theorem refl (s : State) : SameEntries p s s := rfl

theorem trans (h : SameEntries p s t) (k : SameEntries p t u) : SameEntries p s u := Eq.trans k h

theorem of_queue (h : t.link.queue = s.link.queue) : SameEntries p s t := by rw [SameEntries, h]

theorem offer (hp : Kindly p) {c : Content} (hc : p c = false) (s : State) : SameEntries p s (offer s c) := by
  unfold Machine.offer
  split
  · exact enqueue_filter hp hc s.link
  · exact refl s

/-- R28: a withdrawal leaves the entries that it does not name. -/
theorem withdraw {r : Content → Bool} (h : ∀ c, r c = true → p c = false) (s : State) :
    SameEntries p s (withdraw s r) := by
  show (withdrawEntries r s.link.queue).filter _ = _
  induction s.link.queue with
  | nil => rfl
  | cons e q ih =>
    unfold withdrawEntries at *
    rw [List.filterMap_cons]
    cases hr : r e.content with
    | false =>
      simp only [Bool.false_and, Bool.false_eq_true, if_false]
      rw [List.filter_cons, List.filter_cons, ih]
    | true =>
      have other : p e.content = false := h _ hr
      have dropped : ((e :: q).filter fun e => p e.content) = q.filter fun e => p e.content := by simp [other]
      rw [dropped, ← ih]
      cases hw : e.withdrawn <;> cases ho : e.offered <;> simp [other]

theorem announceOutbox (hp : Kindly p) (hs : p .storeNotice = false) (s : State) : SameEntries p s (announceOutbox s) := by
  rcases announceOutbox_cases s with e | e <;> rw [e]
  · exact refl s
  · exact offer hp hs s

theorem finish (hp : Kindly p) (hq : ∀ f, p (.slotQuery f) = false) (s : State) : SameEntries p s (finish s) := by
  have cleared : SameEntries p s (clearSpent { s with scanDue := false }) := of_queue (by simp)
  unfold Machine.finish queryScan
  dsimp only
  repeat' split
  · exact cleared
  · exact cleared
  · exact cleared.trans (t := { clearSpent { s with scanDue := false } with store := _ }) (offer hp (hq _) _)
  · exact refl s

end SameEntries

/-! ## The queue after a taken attempt (R18) -/

/-- R18: what a predicate names of a queue is what waited, in its order, with what stays of the entry that was offered, in
order of class and age. -/
def QueueLeft (waiting stays q : List Entry) (p : Content → Bool) : Prop :=
  let now := q.filter fun e => p e.content
  (waiting.filter fun e => p e.content).Sublist now ∧ ordered now = true ∧
    now.Perm ((waiting ++ stays).filter fun e => p e.content)

theorem QueueLeft.of_same {waiting stays : List Entry} (h : SameEntries p s t) (k : QueueLeft waiting stays s.link.queue p) :
    QueueLeft waiting stays t.link.queue p := by
  unfold QueueLeft at *
  rw [show (t.link.queue.filter fun e => p e.content) = _ from h]
  exact k

theorem insertEntry_sublist (e : Entry) (q : List Entry) : q.Sublist (insertEntry e q) := by
  induction q with
  | nil => exact List.nil_sublist _
  | cons x q ih =>
    unfold insertEntry
    split
    · exact ih.cons_cons x
    · exact List.sublist_cons_self e _

theorem foldl_insertEntry_sublist (xs q : List Entry) : q.Sublist (xs.foldl (fun t e => insertEntry e t) q) := by
  induction xs generalizing q with
  | nil => exact .refl q
  | cons x xs ih => exact (insertEntry_sublist x q).trans (ih _)

theorem queueLeft_taken {q : List Entry} (h : ordered q = true) (b : Bool) (stamp : Nat) (p : Content → Bool) :
    QueueLeft (q.filter fun e => !e.offered) ((q.filter (·.offered)).filterMap fun e => remainder e b stamp)
      (queueAfterTaken q b stamp) p := by
  have sorted := (ordered_iff q).mp h
  refine ⟨(foldl_insertEntry_sublist _ _).filter _, ?_, ((foldl_insertEntry_perm _ _).trans List.perm_append_comm).filter _⟩
  exact (ordered_iff _).mpr ((foldl_insertEntry_ordered _ (sorted.filter _)).filter _)

/-! ## Entries where no shrink is made -/

/-- R73, R104: the end of a move queues something only where it shrinks the claim. -/
theorem reportEnd_link (h : shrinks s = false) (o : MoveOutcome) : (reportEnd s o).link = s.link := by
  have clear : shrinks (clearWanted s) = false := ((clearWanted_motion s).shrinks).trans h
  unfold reportEnd
  split
  · rfl
  · dsimp only
    rw [clear]
    rfl

theorem recordEnd_link (h : shrinks s = false) (a : Axis) (o : MoveOutcome) (x : Int) : (recordEnd s a o x).link = s.link := by
  have ended (r : AxisRecord) (d : Detail) (v : State) (hv : v = if o = .replaced then s.withAxis a r else
      raiseEvent (s.withAxis a r) d) : v.link = s.link ∧ shrinks v = shrinks s := by
    subst hv
    split
    · exact ⟨by simp, (withAxis_motion s a r).shrinks⟩
    · exact ⟨by simp, ((withAxis_motion s a r).trans (raiseEvent_motion _ _)).shrinks⟩
  unfold recordEnd
  cases a with
  | bridge =>
    obtain ⟨link, same⟩ := ended _ _ _ rfl
    exact (reportEnd_link (same.trans h) o).trans link
  | trolley => exact (ended _ _ _ rfl).1

theorem endMove_link (h : shrinks s = false) (a : Axis) (o : MoveOutcome) : (endMove s a o).link = s.link := by
  unfold endMove
  split
  · rfl
  · exact recordEnd_link h a o _

theorem stopAxis_link (h : shrinks s = false) (a : Axis) (o : MoveOutcome) : (stopAxis s a o).link = s.link := by
  have through {v : State} (m : Motion s v) (hl : v.link = s.link) : (endMove v a o).link = s.link :=
    (endMove_link (m.shrinks.trans h) a o).trans hl
  unfold stopAxis
  split
  · exact through (enterStopping_motion s a) (by simp)
  · exact through (enterStopping_motion s a) (by simp)
  · exact through (enterStopping_motion s a) (by simp)
  · exact through (withAxis_motion s a _) (by simp)
  · rfl

theorem lineEdge_link {b : State} (h : shrinks s = false) : (lineEdge b s).link = s.link := by
  unfold lineEdge
  split
  · let e := haltEvent s .lineAsserted
    have he : shrinks e = false := (raiseEvent_motion s _).shrinks.trans h
    exact (stopAxis_link ((stopAxis_motion e .bridge _).shrinks.trans he) .trolley _).trans (stopAxis_link he .bridge _)
  · split <;> rfl

theorem refreshLine_link (h : shrinks s = false) : (refreshLine s).link = s.link :=
  lineEdge_link (s := judgeLine s) h

/-! ## The own Join (R61) -/

/-- The kinds of entry that the taking of the own Join leaves alone. -/
def besideJoin : Content → Bool
  | .report | .storeNotice | .slotQuery _ => false
  | _ => true

theorem besideJoin_kindly : Kindly besideJoin := fun c d h => by cases c <;> cases d <;> first | rfl | cases h

theorem isRelease_kindly : Kindly fun c => !isRelease c := fun c d h => by cases c <;> cases d <;> first | rfl | cases h

theorem enterNode_entries {m : NodeState} (hm : m = .joining ∨ m = .joinBlocked) : SameEntries besideJoin s (enterNode s m) := by
  have line : SameEntries besideJoin s (refreshLine (changeNode s m)) := by
    refine .of_queue ((congrArg Link.queue (refreshLine_link (s := changeNode s m) ?_)).trans rfl)
    show ((m == .active || m == .isolated) && s.conf.craneCount != 1) = false
    rcases hm with rfl | rfl <;> rfl
  have announced (v : State) : SameEntries besideJoin v (announceOutbox v) := .announceOutbox besideJoin_kindly rfl v
  rcases hm with rfl | rfl
  · exact line.trans ((SameEntries.offer besideJoin_kindly rfl _).trans (announced _))
  · have withdrawn : SameEntries besideJoin _ (closeQuery (withdraw (refreshLine (changeNode s .joinBlocked)) isReport)) :=
      SameEntries.withdraw (by rintro (_ | _) h <;> first | rfl | cases h) _
    exact line.trans (withdrawn.trans (announced _))

theorem ownJoinTaken_entries (i : Interval) (w : Bool) : SameEntries besideJoin s (ownJoinTaken s i w) := by
  refine (enterNode_entries (.inl rfl)).trans ?_
  unfold ownJoinTaken
  dsimp only
  split
  · exact enterNode_entries (s := scanLater (withClaim _ ClaimRecord.reset)) (.inr rfl)
  · exact .refl _

/-! ## Denials (R52) -/

/-- R52: a Release stands in the list of a record's release pending. -/
def deniedAt (s : State) (target seq k : Nat) : Prop :=
  ∃ p, (s.peer k).releasePending = some p ∧ (target, seq) ∈ p.releases

theorem deniedAt_iff (target seq k : Nat) : deniedAt s target seq k ↔
    ((s.peer k).releasePending.any fun p => p.releases.contains (target, seq)) = true := by
  rw [deniedAt]
  cases (s.peer k).releasePending with
  | none => simp
  | some p => simp

theorem endFlightOf_other {k : Nat} (h : ∀ g, s.peers.inFlight = some g → g.rank ≠ k) (o : ReleaseOutcome) (d : Option Nat) :
    endFlightOf s k o d = s := by
  unfold endFlightOf
  split
  · rename_i r taken hf
    exact if_neg (h _ hf)
  · rfl

theorem endFlightOf_ends {g : ReleaseInFlight} (h : s.peers.inFlight = some g) (o : ReleaseOutcome) (d : Option Nat) :
    endFlightOf s g.rank o d = raiseEvent
      { (if g.taken then s else withdraw s isRelease) with peers := { s.peers with inFlight := none } }
      (.releaseOutcome g.rank o d) := by
  obtain ⟨k, taken⟩ := g
  simp only [endFlightOf, h, if_true]
  cases taken with
  | true => simp only [if_true, endFlight, h]
  | false =>
    have : (withdraw s isRelease).peers.inFlight = some ⟨k, false⟩ := h
    simp only [Bool.false_eq_true, if_false, endFlight, this]
    rfl

theorem endFlightOf_peer (k : Nat) (o : ReleaseOutcome) (d : Option Nat) (n : Nat) : (endFlightOf s k o d).peer n = s.peer n := by
  unfold endFlightOf
  split
  · split
    · refine (endFlight_peer o d).trans ?_
      split <;> rfl
    · rfl
  · rfl

theorem endFlightOf_keeps (s : State) (k : Nat) (o : ReleaseOutcome) (d : Option Nat) :
    (endFlightOf s k o d).claim = s.claim ∧ (endFlightOf s k o d).store = s.store ∧
    (endFlightOf s k o d).travel = s.travel ∧ (endFlightOf s k o d).halt = s.halt ∧
    (endFlightOf s k o d).node = s.node ∧ (endFlightOf s k o d).scanDue = s.scanDue := by
  have ends (v : State) : (endFlight v o d).claim = v.claim ∧ (endFlight v o d).store = v.store ∧
      (endFlight v o d).travel = v.travel ∧ (endFlight v o d).halt = v.halt ∧ (endFlight v o d).node = v.node ∧
      (endFlight v o d).scanDue = v.scanDue := by
    unfold endFlight
    split <;> exact ⟨rfl, rfl, rfl, rfl, rfl, rfl⟩
  unfold endFlightOf
  split
  · split
    · split <;> exact ends _
    · exact ⟨rfl, rfl, rfl, rfl, rfl, rfl⟩
  · exact ⟨rfl, rfl, rfl, rfl, rfl, rfl⟩

/-- R52: what a denial leaves of every record, of the release in flight and of the queue. -/
structure Denials (denier target seq : Nat) (ranks : List Nat) (s t : State) : Prop where
  rest : t.claim = s.claim ∧ t.store = s.store ∧ t.travel = s.travel ∧ t.halt = s.halt ∧ t.node = s.node ∧ t.scanDue = s.scanDue
  other : ∀ k, k ∉ ranks → t.peer k = s.peer k
  named : ∀ k ∈ ranks, t.peer k = { s.peer k with
    releasePending := (s.peer k).releasePending.filter fun p => !p.releases.contains (target, seq) }
  still : (∀ g, s.peers.inFlight = some g → ¬ (g.rank ∈ ranks ∧ deniedAt s target seq g.rank)) →
    t.peers.inFlight = s.peers.inFlight ∧ t.link = s.link ∧ t.port = s.port
  ended : ∀ g, s.peers.inFlight = some g → g.rank ∈ ranks ∧ deniedAt s target seq g.rank →
    t.peers.inFlight = none ∧ eventAt t.port 15 = (eventAt s.port 15).next (.releaseOutcome g.rank .denied (some denier)) ∧
      t.link = if g.taken then s.link else { s.link with queue := withdrawEntries isRelease s.link.queue }

theorem denyAt_undenied {denier target seq k : Nat} (h : ¬ deniedAt s target seq k) : denyAt denier target seq s k = s :=
  if_neg (mt (deniedAt_iff target seq k).mpr h)

theorem filter_undenied {target seq k : Nat} (h : ¬ deniedAt s target seq k) :
    ((s.peer k).releasePending.filter fun p => !p.releases.contains (target, seq)) = (s.peer k).releasePending := by
  cases hp : (s.peer k).releasePending with
  | none => rfl
  | some p =>
    have : (target, seq) ∉ p.releases := fun hm => h ⟨p, hp, hm⟩
    simp [Option.filter, this]

theorem filter_denied {target seq k : Nat} (h : deniedAt s target seq k) :
    ((s.peer k).releasePending.filter fun p => !p.releases.contains (target, seq)) = none := by
  obtain ⟨p, hp, hm⟩ := h
  simp [hp, Option.filter, hm]

/-- A rank with a release pending has a record. -/
theorem rank_of_denied {target seq k : Nat} (h : deniedAt s target seq k) : 1 ≤ k ∧ k ≤ 8 := by
  by_contra hk
  obtain ⟨p, hp, -⟩ := h
  rw [peer_of_no_rank hk] at hp
  cases hp

theorem denials (denier target seq : Nat) : ∀ (ranks : List Nat), ranks.Nodup → ∀ s,
    Denials denier target seq ranks s (ranks.foldl (denyAt denier target seq) s)
  | [], _, s => ⟨⟨rfl, rfl, rfl, rfl, rfl, rfl⟩, fun _ _ => rfl, fun _ h => (nomatch h), fun _ => ⟨rfl, rfl, rfl⟩,
      fun _ _ h => (nomatch h.1)⟩
  | k :: ranks, hd, s => by
    obtain ⟨hk, hd⟩ := List.nodup_cons.mp hd
    rw [List.foldl_cons]
    by_cases hden : deniedAt s target seq k
    · have hr := rank_of_denied hden
      let v := s.mapPeer k fun q => { q with releasePending := none }
      have due : denyAt denier target seq s k = endFlightOf v k .denied (some denier) := if_pos ((deniedAt_iff target seq k).mp hden)
      have self : v.peer k = { s.peer k with releasePending := none } := mapPeer_peer hr _
      have others {n : Nat} (hn : n ≠ k) : v.peer n = s.peer n := mapPeer_other hn _
      have ih := denials denier target seq ranks hd (endFlightOf v k .denied (some denier))
      rw [due]
      have records : ∀ n, (endFlightOf v k .denied (some denier)).peer n = v.peer n := endFlightOf_peer _ _ _
      have other (n : Nat) (hn : n ∉ k :: ranks) :
          (ranks.foldl (denyAt denier target seq) (endFlightOf v k .denied (some denier))).peer n = s.peer n := by
        rw [ih.other n (fun h => hn (List.mem_cons_of_mem k h)), records, others (fun h => hn (h ▸ List.mem_cons_self))]
      have named (n : Nat) (hn : n ∈ k :: ranks) :
          (ranks.foldl (denyAt denier target seq) (endFlightOf v k .denied (some denier))).peer n = { s.peer n with
            releasePending := (s.peer n).releasePending.filter fun p => !p.releases.contains (target, seq) } := by
        rcases List.mem_cons.mp hn with rfl | hm
        · rw [ih.other n hk, records, self, filter_denied hden]
        · have ne : n ≠ k := fun h => hk (h ▸ hm)
          rw [ih.named n hm, records, others ne]
      by_cases hf : ∃ g, s.peers.inFlight = some g ∧ g.rank = k
      · obtain ⟨g, hg, rfl⟩ := hf
        have ends := endFlightOf_ends (s := v) hg .denied (some denier)
        have gone : (endFlightOf v g.rank .denied (some denier)).peers.inFlight = none := by rw [ends]; rfl
        obtain ⟨flight, link, port⟩ := ih.still fun g' h => nomatch gone.symm.trans h
        have kept := endFlightOf_keeps v g.rank .denied (some denier)
        obtain ⟨h1, h2, h3, h4, h5, h6⟩ := ih.rest
        obtain ⟨k1, k2, k3, k4, k5, k6⟩ := kept
        refine ⟨⟨h1.trans k1, h2.trans k2, h3.trans k3, h4.trans k4, h5.trans k5, h6.trans k6⟩, other, named,
          fun h => absurd ⟨List.mem_cons_self, hden⟩ (h g hg), fun g' hg' _ => ?_⟩
        cases hg.symm.trans hg'
        refine ⟨flight.trans gone, ?_, ?_⟩
        · rw [port, ends]
          refine (eventAt_raise_same _ (.releaseOutcome g.rank .denied (some denier))).trans ?_
          cases g.taken <;> rfl
        · rw [link, ends]
          cases g.taken <;> rfl
      · have stays : endFlightOf v k .denied (some denier) = v :=
          endFlightOf_other (s := v) (fun g hg hk => hf ⟨g, hg, hk⟩) _ _
        rw [stays] at ih other named ⊢
        have iff (g : ReleaseInFlight) (hg : s.peers.inFlight = some g) :
            (g.rank ∈ k :: ranks ∧ deniedAt s target seq g.rank) ↔ (g.rank ∈ ranks ∧ deniedAt v target seq g.rank) := by
          have ne : g.rank ≠ k := fun h => hf ⟨g, hg, h⟩
          rw [List.mem_cons, or_iff_right ne, deniedAt, deniedAt, others ne]
        exact ⟨ih.rest, other, named, fun h => ih.still fun g hg => mt (iff g hg).mpr (h g hg),
          fun g hg h => ih.ended g hg ((iff g hg).mp h)⟩
    · rw [denyAt_undenied hden]
      have ih := denials denier target seq ranks hd s
      have iff (g : ReleaseInFlight) : (g.rank ∈ k :: ranks ∧ deniedAt s target seq g.rank) ↔
          (g.rank ∈ ranks ∧ deniedAt s target seq g.rank) := by
        refine and_congr_left fun h => ?_
        rw [List.mem_cons, or_iff_right]
        rintro rfl
        exact hden h
      refine ⟨ih.rest, fun n hn => ih.other n (by simp_all), fun n hn => ?_, ?_, ?_⟩
      · rcases List.mem_cons.mp hn with rfl | hn
        · rw [ih.other n hk, filter_undenied hden]
        · exact ih.named n hn
      · exact fun h => ih.still fun g hg => mt (iff g).mpr (h g hg)
      · exact fun g hg h => ih.ended g hg ((iff g).mp h)

end Sys2Proof.Machine

/-! SUPPORT. The attempt, its loss and its taking (R16 to R18), and what an Objection does with a peer's Join or Extend (R69). -/

namespace Sys2Proof.Machine

variable {s t u : State} {p : Content → Bool}

/-! ## Begin and loss (R16, R17, R33) -/

/-- R33: a Store Notice carries the first entries of the outbox. -/
theorem carried_take (s : State) : s.store.outbox.take (carriedCount s) = s.store.outbox.take 6 := by
  rw [carriedCount, Config.noticeEntries]
  rcases Nat.le_total 6 s.store.outbox.length with h | h
  · rw [Nat.min_eq_left h]
  · rw [Nat.min_eq_right h, List.take_length, List.take_of_length_le h]

theorem mayOffer_iff (n : NodeState) (c : Content) :
    mayOffer n c = true ↔ n ≠ .unconfigured ∧ (n = .listening → isJoin c = true) := by
  cases n <;> simp [mayOffer]

theorem beginAttempt_busy (h : s.link.attempt.isSome = true ∨ s.link.queue = []) : beginAttempt s = s := by
  unfold beginAttempt
  split
  · rename_i ha hq
    rcases h with h | h
    · rw [ha] at h
      cases h
    · rw [h] at hq
      cases hq
  · rfl

theorem beginAttempt_head {e : Entry} {q : List Entry} (ha : s.link.attempt = none) (hq : s.link.queue = e :: q) :
    beginAttempt s = if mayOffer s.node e.content then
      { s with link := { s.link with
          queue := { e with offered := true } :: q
          attempt := some ⟨frameOf s e.content, s.link.seq, if e.content = .storeNotice then carriedCount s else 0⟩ } }
      else s := by
  unfold beginAttempt
  rw [ha, hq]

/-- R17, R27, R28: the link after a lost attempt. -/
def lostLink (l : Link) : Link :=
  { l with queue := l.queue.filterMap lostEntry, attempt := none, counters := countLoss l.counters }

theorem loseAttempt_some {a : Attempt} (ha : s.link.attempt = some a) : loseAttempt s =
    if offersWithdrawnRelease s && s.peers.inFlight.any (!·.taken) then
      endFlight { s with link := lostLink s.link } .withdrawn none else { s with link := lostLink s.link } := by
  simp only [loseAttempt, ha]
  rfl

theorem lostEntry_eq (e : Entry) : lostEntry e =
    if e.offered = false then some e
    else if e.withdrawn then none
    else some ⟨match e.successor with
      | some c => c.1
      | none => e.content, e.age, false, false, false, none⟩ := by
  unfold lostEntry
  cases ho : e.offered <;> cases hw : e.withdrawn <;> cases hs : e.successor <;> simp

theorem offersWithdrawnRelease_iff (s : State) : offersWithdrawnRelease s = true ↔
    (∃ e ∈ s.link.queue, e.offered = true ∧ e.withdrawn = true ∧ isRelease e.content = true) ∧ queued s isRelease = false := by
  simp [offersWithdrawnRelease, and_assoc]

theorem countLoss_eq {n : Nat} (h : n ≤ 65535) : (n + 1) % (Config.counterTop + 1) = if n < 65535 then n + 1 else 0 := by
  show (n + 1) % 65536 = _
  split <;> omega

theorem countUp_eq (n : Nat) : countUp n = if n < 65535 then n + 1 else n := rfl

/-! ## Taking (R18) -/

/-- A rank whose record is not as after reset is one of the table. -/
theorem rank_of_record {k : Nat} (h : s.peer k ≠ .reset) : 1 ≤ k ∧ k ≤ 8 := by
  by_contra hk
  exact h (peer_of_no_rank hk s)

/-- R69: a re-test follows a change of a peer's record only where an own Join or Extend waits. -/
theorem retest_mapPeer (hn : s.node ≠ .listening) (hp : ∀ x, s.claim.pending = some x → x.phase ≠ .queued) (k : Nat)
    (f : PeerRecord → PeerRecord) : retest (s.mapPeer k f) = s.withPeer k (f (s.peer k)) :=
  retest_idle (s := s.mapPeer k f) hn hp

theorem overlapPeer_joined {k n : Nat} (hn : s.node ≠ .listening) (hp : ∀ x, s.claim.pending = some x → x.phase ≠ .queued)
    (h : n = 0 ∧ ∃ w, (s.peer k).joinWindow = some w ∧ w.valid = true) :
    overlapPeer s k n = s.withPeer k { s.peer k with claim := none, joinWindow := none } := by
  obtain ⟨h0, w, hw, hv⟩ := h
  have named : (n = 0 && (s.peer k).joinWindow.any (·.valid)) = true := by simp [h0, hw, hv]
  exact (if_pos named).trans (retest_mapPeer hn hp k _)

theorem overlapPeer_unjoined {k n : Nat} (h : ¬ (n = 0 ∧ ∃ w, (s.peer k).joinWindow = some w ∧ w.valid = true)) :
    overlapPeer s k n = if (s.peer k).extension.any fun e => e.seq == n && !windowExpired s e.expiry then
      retest (s.mapPeer k fun q => { q with extension := none }) else s := by
  refine if_neg fun hj => h ?_
  simpa [Option.any_eq_true] using hj

theorem overlapPeer_plain {k n : Nat} (h : ¬ (n = 0 ∧ ∃ w, (s.peer k).joinWindow = some w ∧ w.valid = true))
    (he : (s.peer k).extension = none) : overlapPeer s k n = s := by
  rw [overlapPeer_unjoined h, he]
  rfl

theorem overlapPeer_extended {k n : Nat} (hn : s.node ≠ .listening) (hp : ∀ x, s.claim.pending = some x → x.phase ≠ .queued)
    (h : ¬ (n = 0 ∧ ∃ w, (s.peer k).joinWindow = some w ∧ w.valid = true)) {x : PeerExtension}
    (he : (s.peer k).extension = some x) :
    (x.seq = n → s.now < x.expiry → overlapPeer s k n = s.withPeer k { s.peer k with extension := none }) ∧
    (x.seq ≠ n ∨ x.expiry < s.now → overlapPeer s k n = s) := by
  rw [overlapPeer_unjoined h, he, Option.any_some]
  refine ⟨fun hs hx => ?_, fun hx => if_neg ?_⟩
  · have runs : windowExpired s x.expiry = false := by
      simp [windowExpired, Nat.not_lt.mpr hx.le, hx.ne']
    rw [if_pos (by simp [hs, runs])]
    exact retest_mapPeer hn hp k _
  · rcases hx with hx | hx
    · simp [hx]
    · simp [windowExpired, hx]

theorem foldl_link {α : Type} {f : State → α → State} (hf : ∀ t a, (f t a).link = t.link) (l : List α) (s : State) :
    (l.foldl f s).link = s.link := by
  induction l generalizing s with
  | nil => rfl
  | cons a l ih => exact (ih _).trans (hf s a)

/-- R50: the region handed over at a Release leaves the link, the Peer Table and the clock. -/
theorem handRegion_beside (s : State) (region : Option Interval) (rank : Nat) :
    (handRegion s region rank).link = s.link ∧ (handRegion s region rank).peers = s.peers ∧
    (handRegion s region rank).now = s.now ∧ (handRegion s region rank).record = s.record := by
  have work := PeerWork.handRegion s region rank
  refine ⟨?_, handRegion_peers region rank, work.now, work.record⟩
  cases region with
  | none => rfl
  | some i =>
    refine (foldl_link (fun t b => ?_) _ _).trans (foldl_link (f := markRow) (fun _ _ => rfl) _ s)
    split
    · simp
    · rfl

/-- R50: a Release joins the list of the released rank's record. -/
theorem holdPending_effect (sender seq : Nat) (f : ReleaseFrame) :
    let p := s.peer f.rank
    let t := holdPending s sender seq f
    t.link = s.link ∧ t.peers = { s.peers with table := putPeer s.peers.table f.rank { p with
      releasePending := some (joinPending s p sender seq) } } ∧ (p.lastSeq = some f.lastSeq → t.scanDue = s.scanDue) := by
  intro p t
  have cases : t = if p.lastSeq = some f.lastSeq then s.mapPeer f.rank fun q => { q with releasePending := some (joinPending s p sender seq) }
      else (handRegion s (handedRegion p) f.rank).mapPeer f.rank fun q =>
        { q with releasePending := some (joinPending (handRegion s (handedRegion p) f.rank) p sender seq) } := by
    show holdPending s sender seq f = _
    unfold holdPending
    dsimp only
    split <;> rfl
  split at cases
  · rw [cases]
    exact ⟨rfl, rfl, fun _ => rfl⟩
  · rename_i h
    obtain ⟨link, peers, now, record⟩ := handRegion_beside s (handedRegion p) f.rank
    have joined : joinPending (handRegion s (handedRegion p) f.rank) p sender seq = joinPending s p sender seq := by
      simp only [joinPending, now, State.conf, record]
    rw [joined] at cases
    rw [cases]
    refine ⟨link, ?_, fun h' => absurd h' h⟩
    simp only [State.mapPeer, State.withPeer, State.peer, peers]
    rfl

end Sys2Proof.Machine

/-! SUPPORT. The taking of the own frames (R18, R49, R50, R144), and the Runway Link's attempts. -/

namespace Sys2Proof.Machine

variable {s t u : State} {p : Content → Bool}

/-- R144: the own Slot Query taken leaves all but the open query. -/
theorem ownQueryTaken_effect (s : State) (f : SlotQueryFrame) : ownQueryTaken s f = { s with store := { s.store with
    query := s.store.query.map fun q =>
      if q.row = f.row ∧ q.tag = f.tag then { q with expiry := some (s.now + 4 * s.conf.reportInterval) } else q } } := by
  unfold ownQueryTaken
  split
  · rename_i q hq
    by_cases h : q.row = f.row ∧ q.tag = f.tag
    · rw [if_pos (by simpa using h), hq, Option.map_some, if_pos h]
    · rw [if_neg (by simpa using h), hq, Option.map_some, if_neg h, ← hq]
  · rename_i hq
    rw [hq, Option.map_none, ← hq]

/-- R27, R28, R33: what stays of an entry that was offered. -/
theorem remainder_toList (e : Entry) (outbox : List OutboxEntry) (stamp : Nat) :
    (remainder e (!outbox.isEmpty) stamp).toList = if e.withdrawn then [] else match e.content, e.successor with
      | .storeNotice, _ => if outbox = [] then [] else [⟨.storeNotice, stamp, false, false, false, none⟩]
      | c, none => if e.renewed then [⟨c, stamp, false, false, false, none⟩] else []
      | _, some c => [⟨c.1, c.2, false, false, false, none⟩] := by
  unfold remainder
  cases e.withdrawn with
  | true => rfl
  | false =>
    have notice : (if (!outbox.isEmpty) = true then
        some (⟨.storeNotice, stamp, false, false, false, none⟩ : Entry) else none).toList =
        if outbox = [] then [] else [⟨.storeNotice, stamp, false, false, false, none⟩] := by
      cases outbox <;> rfl
    have fixed (c : Content) : (if e.renewed = true then
        some (⟨c, stamp, false, false, false, none⟩ : Entry) else none).toList =
        if e.renewed = true then [⟨c, stamp, false, false, false, none⟩] else [] := by
      cases e.renewed <;> rfl
    simp only [Bool.false_eq_true, if_false]
    cases e.content <;> cases e.successor <;> first | exact notice | exact fixed _ | rfl

/-- R17, R36: the link after a lost attempt, written out. -/
theorem lostLink_eq {l : Link} (h : l.counters.contentionLosses ≤ 65535) : lostLink l = { l with
    attempt := none
    counters := { l.counters with contentionLosses :=
      if l.counters.contentionLosses < 65535 then l.counters.contentionLosses + 1 else 0 }
    queue := l.queue.filterMap fun e =>
      if e.offered = false then some e
      else if e.withdrawn then none
      else some ⟨match e.successor with
        | some c => c.1
        | none => e.content, e.age, false, false, false, none⟩ } := by
  have entries : l.queue.filterMap lostEntry = _ := List.filterMap_congr fun e _ => lostEntry_eq e
  have counted : countLoss l.counters = { l.counters with contentionLosses :=
      if l.counters.contentionLosses < 65535 then l.counters.contentionLosses + 1 else 0 } := by
    rw [countLoss, countLoss_eq h]
  rw [lostLink, entries, counted] <;> rfl

/-- R16, R28: without an attempt no entry is being offered. -/
theorem unoffered (h : queueOk s.link = true) (ha : s.link.attempt = none) : ∀ e ∈ s.link.queue, e.offered = false := by
  have count := ((queueOk_iff s.link).mp h).offers
  rw [ha] at count
  intro e he
  simpa using List.countP_eq_zero.mp count e he

theorem endFlight_link (o : ReleaseOutcome) (d : Option Nat) : (endFlight s o d).link = s.link := by
  unfold endFlight
  split <;> rfl

theorem endFlight_beside (s : State) (o : ReleaseOutcome) (d : Option Nat) : (endFlight s o d).store = s.store ∧
    (endFlight s o d).claim = s.claim ∧ (endFlight s o d).node = s.node ∧ (endFlight s o d).peers.table = s.peers.table := by
  unfold endFlight
  split <;> exact ⟨rfl, rfl, rfl, rfl⟩

/-- R49, R50: what the taking of the own Release leaves. -/
theorem ownReleaseTaken_effect (s : State) (seq : Nat) (f : ReleaseFrame) :
    let p := s.peer f.rank
    let t := ownReleaseTaken s seq f
    t.link = s.link ∧ (p.presence ≠ .stale ∨ p.lastSeq = some f.lastSeq → t.scanDue = s.scanDue) ∧
      (p.presence = .stale → t.peers = { s.peers with
        table := putPeer s.peers.table f.rank { p with releasePending := some (joinPending s p s.conf.ownRank seq) }
        inFlight := s.peers.inFlight.map fun g => { g with taken := g.taken || !queued s isRelease } }) ∧
      (p.presence ≠ .stale → t = if queued s isRelease then s else endFlight s .denied none) := by
  intro p t
  by_cases hp : p.presence = .stale
  · obtain ⟨link, peers, scan⟩ := holdPending_effect (s := s) s.conf.ownRank seq f
    have cases : t = if (!queued s isRelease) = true then
        { holdPending s s.conf.ownRank seq f with peers := { (holdPending s s.conf.ownRank seq f).peers with
            inFlight := (holdPending s s.conf.ownRank seq f).peers.inFlight.map fun g => { g with taken := true } } }
        else holdPending s s.conf.ownRank seq f := if_pos hp
    have flight (b : Bool) : (s.peers.inFlight.map fun g => { g with taken := g.taken || b }) =
        if b then s.peers.inFlight.map fun g => { g with taken := true } else s.peers.inFlight := by
      cases b <;> cases s.peers.inFlight <;> simp
    refine ⟨?_, fun h => ?_, fun _ => ?_, fun h => absurd hp h⟩
    · rw [cases]
      split <;> exact link
    · rw [cases]
      split <;> exact scan (h.resolve_left (not_not_intro hp))
    · rw [cases, flight]
      cases hq : queued s isRelease
      · simp only [Bool.not_false, if_true, peers]
        rfl
      · simp only [Bool.not_true, Bool.false_eq_true, if_false, peers]
        rfl
  · have cases : t = if (!queued s isRelease) = true then endFlight s .denied none else s := if_neg hp
    refine ⟨?_, fun _ => ?_, fun h => absurd h hp, fun _ => ?_⟩
    · rw [cases]
      split
      · exact endFlight_link _ _
      · rfl
    · rw [cases]
      split
      · exact endFlight_scanDue _ _
      · rfl
    · rw [cases]
      cases queued s isRelease <;> rfl

/-- The kinds of entry that the taking of the own Release leaves alone. -/
def besideQuery : Content → Bool
  | .slotQuery _ => false
  | _ => true

theorem besideQuery_kindly : Kindly besideQuery := fun c d h => by cases c <;> cases d <;> first | rfl | cases h

theorem peerRanks_nodup (s : State) : (peerRanks s).Nodup :=
  (List.nodup_range.map fun _ _ h => Nat.succ.inj h).filter _

/-- R69: where no own Join or Extend waits, an Objection changes no more than the record of the rank that it names. -/
theorem overlapPeer_cases (hn : s.node ≠ .listening) (hp : ∀ x, s.claim.pending = some x → x.phase ≠ .queued) (k n : Nat) :
    overlapPeer s k n = s ∨ ∃ r, overlapPeer s k n = s.withPeer k r := by
  by_cases h : n = 0 ∧ ∃ w, (s.peer k).joinWindow = some w ∧ w.valid = true
  · exact .inr ⟨_, overlapPeer_joined hn hp h⟩
  · rw [overlapPeer_unjoined h]
    split
    · exact .inr ⟨_, retest_mapPeer hn hp k _⟩
    · exact .inl rfl

theorem isRelease_merges (c d : Content) (h : c.merges d = true) : isRelease c = isRelease d := by
  cases c <;> cases d <;> first | rfl | cases h

/-- The end of a handling queues no Release. -/
theorem finish_isRelease (s : State) : queued (finish s) isRelease = queued s isRelease := by
  have none : SameEntries isRelease s (finish s) := .finish isRelease_merges (fun _ => rfl) s
  have filtered (v : State) : queued v isRelease = (v.link.queue.filter fun e => isRelease e.content).any fun e => !e.withdrawn := by
    rw [queued, List.any_filter]
  rw [filtered, filtered]
  exact congrArg (List.any · _) none

end Sys2Proof.Machine

namespace Sys2Proof.Proofs

open Machine

/-- Settles O59: begin and loss by `beginAttempt_head` and `loseAttempt_some`; a taken frame by the queue that it leaves
(`queueLeft_taken`) and by the entries that its owning block then leaves alone (`SameEntries`). -/
theorem linkAttempts : Obligations.LinkAttempts := by
  intro s hs hq l
  refine ⟨fun h => next_eq (beginAttempt_busy h), fun ha => ⟨next_eq ?_, next_eq ?_, fun e he => ?_⟩, fun a ha => ?_, fun d hd => ?_⟩
  · show loseAttempt s = s
    rw [loseAttempt, ha]
  · show takeAttempt s = s
    rw [takeAttempt, ha]
  · intro may frame carried
    obtain ⟨q, hl⟩ : ∃ q, l.queue = e :: q := by
      cases h : l.queue with
      | nil => rw [h] at he; cases he
      | cons x q => rw [h] at he; cases he; exact ⟨q, rfl⟩
    have head := beginAttempt_head ha hl
    have iff : mayOffer s.node e.content = true ↔ may := mayOffer_iff s.node e.content
    refine ⟨fun h => next_eq (head.trans (if_neg (mt iff.mp h))), fun h => next_eq ((head.trans (if_pos (iff.mpr h))).trans ?_)⟩
    have same : frameOf s e.content = frame := by
      simp only [frame]
      cases e.content with
      | storeNotice =>
        show LinkFrame.storeNotice ⟨none, (s.store.outbox.take (carriedCount s)).map _⟩ = _
        rw [carried_take]
      | _ => rfl
    rw [same, hl]
    rfl
  · intro losses
    refine ⟨fun hc => ?_, ?_⟩
    · let lost : State := { s with link := lostLink l }
      have ran : exec .contentionLoss s = .next (loseAttempt s) := rfl
      rw [loseAttempt_some ha] at ran
      refine ⟨_, ran, ?_, ?_, ?_, ?_, ?_, ?_⟩
      · refine Eq.trans ?_ (lostLink_eq hc)
        split
        · exact endFlight_link _ _
        · rfl
      · split
        · exact (endFlight_beside lost _ _).1
        · rfl
      · split
        · exact (endFlight_beside lost _ _).2.1
        · rfl
      · split
        · exact (endFlight_beside lost _ _).2.2.1
        · rfl
      · split
        · exact (endFlight_beside lost _ _).2.2.2
        · rfl
      · intro gone g hg
        have iff : (offersWithdrawnRelease s && s.peers.inFlight.any (!·.taken)) = true ↔ gone ∧ g.taken = false := by
          rw [Bool.and_eq_true, offersWithdrawnRelease_iff, hg, Option.any_some, Bool.not_eq_true']
        have flight : endFlight lost .withdrawn none = raiseEvent { lost with peers := { s.peers with inFlight := none } }
            (.releaseOutcome g.rank .withdrawn none) := by
          rw [endFlight, show lost.peers.inFlight = some g from hg]
        refine ⟨fun h => ?_, fun h => ?_⟩
        · rw [if_pos (iff.mpr h)]
          show (endFlight lost .withdrawn none).peers.inFlight = none ∧ _
          rw [flight]
          exact ⟨rfl, eventAt_raise_same _ (.releaseOutcome g.rank .withdrawn none)⟩
        · rw [if_neg (mt iff.mp h)]
          exact ⟨hg, rfl⟩
    · let withdrawn := l.queue.any fun e => e.offered && e.withdrawn
      let v := closeAttempt s a
      let d := deliverOwn v a withdrawn
      have ran : exec .taken s = .next (finish d) := exec_taken ha
      have sending : Sending v (finish d) := (Sending.deliverOwn v a withdrawn).trans (.finish _)
      have outbox : (finish d).store.outbox = s.store.outbox.drop a.carried := sending.outbox
      refine ⟨_, ran, sending.attempt, sending.seq, sending.counters, outbox, ?_⟩
      intro plain waiting stays left retests
      have stay (e : Entry) : stays e = (remainder e (!(s.store.outbox.drop a.carried).isEmpty) l.stamp).toList := by
        rw [remainder_toList]
        simp only [stays, outbox] <;> rfl
      have leaves {p : Content → Bool} (h : SameEntries p v (finish d)) : left p := by
        have base := queueLeft_taken (((ordered_iff _).mpr ((queueOk_iff l).mp hq).order))
          (!(s.store.outbox.drop a.carried).isEmpty) l.stamp p
        have staying : (l.queue.filter (·.offered)).filterMap
            (fun e => remainder e (!(s.store.outbox.drop a.carried).isEmpty) l.stamp) =
            (l.queue.filter (·.offered)).flatMap stays := by
          rw [List.filterMap_eq_flatMap_toList]
          exact List.flatMap_congr fun e _ => (stay e).symm
        rw [staying] at base
        exact QueueLeft.of_same h base
      have scan : v.scanDue = false := not_scanDue hs
      have still (h : d.scanDue = v.scanDue) : finish d = d := finish_settled d (h.trans scan)
      have kept : queueOk (finish d).link = true := by
        have := (takeAttempt_kept (s := s) (k := ⟨False, False, False, fun _ => False, fun _ => False⟩) nofun).queue hq
        have due : takeAttempt s = finish d := by rw [takeAttempt, ha]
        rwa [due] at this
      refine ⟨unoffered kept sending.attempt, fun hp => ?_, fun i hf => ?_, fun f hf => ?_, fun f hf ho => ?_, fun f hf => ?_,
        fun f hf => ?_⟩
      · have due : d.claim = s.claim ∧ d.peers = s.peers ∧ d.node = s.node ∧ d.travel = s.travel ∧ d.port = s.port ∧
            d.link = v.link ∧ d.scanDue = v.scanDue := by
          simp only [plain] at hp
          cases hf : a.frame with
          | slotQuery f =>
            have : d = ownQueryTaken v f := by simp only [d, deliverOwn, hf]
            rw [this, ownQueryTaken_effect]
            exact ⟨rfl, rfl, rfl, rfl, rfl, rfl, rfl⟩
          | join _ => rw [hf] at hp; cases hp
          | extend _ => rw [hf] at hp; cases hp
          | objection _ => rw [hf] at hp; cases hp
          | release _ => rw [hf] at hp; cases hp
          | _ =>
            have : d = v := by simp only [d, deliverOwn, hf]
            rw [this]
            exact ⟨rfl, rfl, rfl, rfl, rfl, rfl, rfl⟩
        obtain ⟨claim, peers, node, travel, port, link, scanned⟩ := due
        rw [still scanned] at leaves ⊢
        exact ⟨claim, peers, node, travel, port, leaves (p := fun _ => true) (.of_queue (congrArg Link.queue link))⟩
      · have due : d = ownJoinTaken v i withdrawn := by simp only [d, deliverOwn, hf]
        refine leaves (p := besideJoin) ?_
        rw [due]
        exact (ownJoinTaken_entries i withdrawn).trans (.finish besideJoin_kindly (fun _ => rfl) _)
      · have due : d = ownExtendTaken v f a.seq withdrawn := by simp only [d, deliverOwn, hf]
        obtain ⟨scanned, link, -⟩ := ownExtendTaken_effect v f a.seq withdrawn
        refine leaves (p := fun _ => true) ?_
        rw [due, finish_settled _ (scanned.trans scan)]
        exact .of_queue (congrArg Link.queue link)
      · have due : d = objectionTaken s.conf.ownRank f v := by
          simp only [d, deliverOwn, hf]
          rfl
        intro q joined
        refine ⟨fun hr => ?_, fun hr hre => ?_, fun hr => ?_⟩
        · have nothing : d = v := by
            rw [due, objectionTaken, hr]
            exact if_neg ho
          rw [nothing, finish_settled v scan] at leaves ⊢
          exact ⟨leaves (p := fun _ => true) (.refl v), rfl, rfl, rfl⟩
        · have peer : d = overlapPeer v f.target f.targetSeq := by
            rw [due, objectionTaken, hr]
            exact if_neg ho
          have hn : v.node ≠ .listening := fun h => hre (.inl h)
          have hw : ∀ x, v.claim.pending = some x → x.phase ≠ .queued := fun x hx hp => hre (.inr ⟨x, hx, hp⟩)
          have kept : d.link = v.link ∧ d.claim = v.claim ∧ d.port = v.port ∧ d.scanDue = v.scanDue ∧
              (∀ k, k ≠ f.target → d.peer k = v.peer k) := by
            rw [peer]
            rcases overlapPeer_cases hn hw f.target f.targetSeq with e | ⟨r, e⟩ <;> rw [e]
            · exact ⟨rfl, rfl, rfl, rfl, fun _ _ => rfl⟩
            · exact ⟨rfl, rfl, rfl, rfl, fun k hk => peerAt_put_other _ hk _⟩
          obtain ⟨link, claim, port, scanned, others⟩ := kept
          rw [still scanned] at leaves ⊢
          refine ⟨leaves (p := fun _ => true) (.of_queue (congrArg Link.queue link)), claim, port, others, fun h => ?_, fun h he => ?_,
            fun h x hx => ?_⟩
          · rw [peer, overlapPeer_joined hn hw h]
            refine peerAt_put _ (rank_of_record (s := s) fun hk => ?_) _
            obtain ⟨-, w, hjw, -⟩ := h
            rw [show q = _ from hk] at hjw
            cases hjw
          · rw [peer, overlapPeer_plain (s := v) h he]
            rfl
          · obtain ⟨ends, stays⟩ := overlapPeer_extended hn hw h hx
            refine ⟨fun h1 h2 => ?_, fun h' => ?_⟩
            · rw [peer, ends h1 h2]
              refine peerAt_put _ (rank_of_record (s := s) fun hk => ?_) _
              rw [show q = _ from hk] at hx
              cases hx
            · rw [peer, stays h']
              rfl
        · have deny : d = (peerRanks v).foldl (denyAt s.conf.ownRank f.target f.targetSeq) v := by
            rw [due, objectionTaken, hr]
          have den := denials s.conf.ownRank f.target f.targetSeq (peerRanks v) (peerRanks_nodup v) v
          rw [← deny] at den
          obtain ⟨claim, -, -, -, -, scanned⟩ := den.rest
          rw [still scanned] at leaves ⊢
          have quiet (h : ∀ g, v.peers.inFlight = some g → ¬ (g.rank ∈ peerRanks v ∧ deniedAt v f.target f.targetSeq g.rank)) :
              left fun _ => true := leaves (p := fun _ => true) (.of_queue (congrArg Link.queue (den.still h).2.1))
          refine ⟨?_, claim, den.named, fun h => ?_, fun g hg => ?_⟩
          · refine leaves (p := fun c => !isRelease c) ?_
            by_cases h : ∀ g, v.peers.inFlight = some g → ¬ (g.rank ∈ peerRanks v ∧ deniedAt v f.target f.targetSeq g.rank)
            · exact .of_queue (congrArg Link.queue (den.still h).2.1)
            · push Not at h
              obtain ⟨g, hg, hden⟩ := h
              obtain ⟨-, -, link⟩ := den.ended g hg hden
              cases ht : g.taken with
              | true =>
                rw [ht, if_pos rfl] at link
                exact .of_queue (congrArg Link.queue link)
              | false =>
                rw [ht, if_neg (by simp)] at link
                refine Eq.trans ?_ (SameEntries.withdraw (r := isRelease) (p := fun c => !isRelease c) (fun c h => by simp [h]) v)
                rw [link]
                rfl
          · have none : ∀ g, v.peers.inFlight = some g → ¬ (g.rank ∈ peerRanks v ∧ deniedAt v f.target f.targetSeq g.rank) :=
              fun g hg => nomatch h.symm.trans hg
            exact ⟨(den.still none).1.trans h, quiet none⟩
          · intro denied
            refine ⟨fun h => ?_, fun h => ?_⟩
            · obtain ⟨flight, event, -⟩ := den.ended g hg h
              exact ⟨flight, event⟩
            · have only : ∀ g', v.peers.inFlight = some g' →
                  ¬ (g'.rank ∈ peerRanks v ∧ deniedAt v f.target f.targetSeq g'.rank) := fun g' hg' => by
                cases hg.symm.trans hg'
                exact h
              obtain ⟨flight, -, port⟩ := den.still only
              exact ⟨flight.trans hg, port, quiet only⟩
      · have due : d = ownQueryTaken v f := by simp only [d, deliverOwn, hf]
        rw [ownQueryTaken_effect] at due
        rw [still (by rw [due]), due]
        rfl
      · have due : d = ownReleaseTaken v a.seq f := by simp only [d, deliverOwn, hf]
        obtain ⟨link, scanned, stale, other⟩ := ownReleaseTaken_effect v a.seq f
        rw [← due] at link scanned stale other
        have waits : queued (finish d) isRelease = queued v isRelease := by
          rw [finish_isRelease, queued, link]
          rfl
        have same : SameEntries (fun _ => true) v d := .of_queue (congrArg Link.queue link)
        intro p
        have presence : (v.peer f.rank).presence = p.presence := rfl
        refine ⟨leaves (p := besideQuery) (SameEntries.trans (.of_queue (congrArg Link.queue link))
          (.finish besideQuery_kindly (fun _ => rfl) d)), fun h => ?_, fun hp => ?_, fun hp => ?_⟩
        · refine leaves (p := fun _ => true) ?_
          rw [still (scanned h)]
          exact same
        · have peers := stale hp
          have keptPeers : (finish d).peers = d.peers := by simp
          refine ⟨?_, ?_⟩
          · rw [waits, keptPeers, peers]
            rfl
          · show peerAt (finish d).peers.table f.rank = _
            rw [keptPeers, peers]
            exact peerAt_put _ (rank_of_record (s := s) fun hk => by rw [show p = _ from hk] at hp; cases hp) _
        · rw [still (scanned (.inl hp))] at waits ⊢
          have cases := other hp
          cases hr : queued v isRelease with
          | true =>
            rw [hr, if_pos rfl] at cases
            rw [waits, hr, cases]
            exact ⟨rfl, fun _ => ⟨rfl, rfl⟩, fun h => (nomatch h)⟩
          | false =>
            rw [hr, if_neg (by simp)] at cases
            rw [waits, hr, cases]
            refine ⟨(endFlight_beside v _ _).2.2.2, fun h => (nomatch h), fun _ => ⟨?_, fun g hg => ?_⟩⟩
            · unfold endFlight
              split
              · assumption
              · rfl
            · rw [endFlight, show v.peers.inFlight = some g from hg]
              exact eventAt_raise_same _ (.releaseOutcome g.rank .denied none)
  · intro u quietState
    have ran : exec .reportTimerExpiry s = .next (finish (offer u .report)) := by
      refine next_eq ?_
      rw [show s.link.reportTimer = some d from hd]
      rfl
    have settled (v : State) (h : v.scanDue = s.scanDue) : finish v = v := finish_settled v (h.trans (not_scanDue hs))
    have iff : mayJoin s.node .report = false ↔ quietState := by
      simp only [quietState]
      cases s.node <;> simp [mayJoin]
    refine ⟨fun h => ran.trans (next_eq ?_), fun h => ran.trans (next_eq ?_)⟩
    · have dropped : offer u .report = u := if_neg (by rw [show u.node = s.node from rfl, iff.mpr h]; simp)
      rw [dropped]
      exact settled u rfl
    · have joined : offer u .report = { u with link := enqueue u.link .report } := by
        refine if_pos ?_
        rw [show u.node = s.node from rfl]
        simpa using mt iff.mp h
      rw [joined]
      exact settled _ rfl

end Sys2Proof.Proofs

/-! SUPPORT. A Join that arrives twice: the re-test after the sender's record is reset, and the one after its Join is admitted
(R43, R60, R62). -/

namespace Sys2Proof.Machine

/-- The fields of an axis with a top speed. -/
def plainAxis (top : Int) : AxisParams := ⟨top, 100, 40, 40, 20, 40, 300, 10, 20, 100, 2000⟩

/-- Rank 2 of 3 on a runway of 60 m, with four rows of three lowers and two bays. -/
def plainRecord : StartRecord :=
  { ownRank := 2, craneCount := 3, runway := 60000, halfLength := 2000, margin := 100, restMargin := 500,
    bridge := plainAxis 2000, span := 20000, trolley := plainAxis 1000, brakeSettle := 100, parkDelay := 1,
    waitTimeout := 1, releaseDelay := 5, polarities := 0x3ff#10, hoistTop := 10000, clearHeight := 5000,
    rowBase := 5000, rowPitch := 3000, rows := 4, lateralBase := 1000, lateralPitch := 2000, lowers := 3,
    saddle := [7, 7, 7, 7, 7, 7, 7, 7], intakeCount := 1, intake0 := ⟨12000, 3000⟩, intake1 := ⟨0, 0⟩, bayCount := 2,
    bay0 := ⟨12000, 4000⟩, bay1 := ⟨20000, 4000⟩, bay2 := ⟨0, 0⟩, bay3 := ⟨0, 0⟩, zeroCount := 0, scale := 65535,
    pick := 1000, releaseLevel := 300, band := 40, settleCount := 5, swl := 20000, tolPerMille := 10, tolMin := 100,
    liftWindow := 100, reportInterval := 50, silenceCount := 4, hostTimeout := 5000 }

/-- Rank 3 holds [10,000, 30,000] with an extension toward its high side at 12,000, inside that claim: its region, widened to
the extension's edge, ends at 12,000. -/
def inwardPeer : PeerRecord :=
  { PeerRecord.reset with
    presence := .live, lastSeq := some 20, silence := some 200, claim := some ⟨10000, 30000⟩
    extension := some ⟨.high, 12000, 19, 100⟩ }

/-- The node listens, and its Join of [17,900, 22,100], which overlaps no region, waits in the queue. -/
def joinBesideInward : State :=
  { State.reset with
    record := some plainRecord, node := .listening
    peers := { Peers.reset with table := { Peers.reset.table with rank3 := inwardPeer } }
    link := { Link.reset with queue := [⟨.join ⟨17900, 22100⟩, 0, false, false, false, none⟩], stamp := 1 } }

theorem joinBesideInward_meets : settled joinBesideInward = true ∧ configuredOk joinBesideInward = true ∧
    claimOk joinBesideInward = true ∧ queueOk joinBesideInward.link = true ∧ peersOk joinBesideInward = true ∧
    joinBesideInward.node = .listening ∧
    overlapsTested joinBesideInward joinBesideInward.conf.ownRank ⟨17900, 22100⟩ = false := by decide

/-- R43: the reset of rank 3's record removes the extension alone, so that the whole old claim stands for a moment and blocks
the Join that waits; the new claim [40,000, 60,000] would not. -/
theorem joinBesideInward_blocked : (match exec (.join 3 21 ⟨40000, 60000⟩) joinBesideInward with
    | .next t => t.node == .joinBlocked && !overlapsTested t joinBesideInward.conf.ownRank ⟨17900, 22100⟩
    | _ => false) = true := by decide

end Sys2Proof.Machine

namespace Sys2Proof.Proofs

open Machine

/-- Refutes O51: a peer's Join whose record holds an extension inside its claim is tested twice, and the re-test between the
reset of the record and the admission blocks an own Join that stands before and after (`joinBesideInward_blocked`). -/
theorem not_peerJoins : ¬ Obligations.PeerJoins := by
  intro h
  obtain ⟨settled, configured, claim, queue, -, listening, clear⟩ := joinBesideInward_meets
  obtain ⟨t, ran, retested, -⟩ :=
    h.1 joinBesideInward 3 21 ⟨40000, 60000⟩ settled configured claim queue (by decide) (by decide) (by decide)
  have blocked := joinBesideInward_blocked
  rw [ran] at blocked
  obtain ⟨node, apart⟩ : t.node = .joinBlocked ∧ overlapsTested t joinBesideInward.conf.ownRank ⟨17900, 22100⟩ = false := by
    simpa using blocked
  obtain ⟨stays, -⟩ := (retested listening _ List.mem_cons_self ⟨17900, 22100⟩ rfl rfl clear).1 apart
  exact absurd (node.symm.trans stays) (by decide)

end Sys2Proof.Proofs

/-! SUPPORT. Regions handed over where the row table lists a row twice. No step makes such a table of one in canonical form
(`boundsAndTablesKept`), but the statements about peers ask nothing of the tables: a row marked is taken from the table once,
and what it lists a second time stands. -/

namespace Sys2Proof.Machine

/-- A LIVE peer with a claim. -/
def peerWith (last : Nat) (claim : Interval) : PeerRecord :=
  { PeerRecord.reset with presence := .live, lastSeq := some last, silence := some 200, claim := some claim }

/-- The node ACTIVE with the claim [0, 8,000] as rank 1 of 4, beside rank 2 at [40,000, 42,000] and rank 3 at
[9,000, 39,000]; row 2, at 11,000, is listed as KNOWN twice. -/
def doubledRow : State :=
  { State.reset with
    record := some { plainRecord with ownRank := 1, craneCount := 4 }, node := .active
    peers := { Peers.reset with table := { Peers.reset.table with
      rank2 := peerWith 10 ⟨40000, 42000⟩, rank3 := peerWith 20 ⟨9000, 39000⟩ } }
    claim := { ClaimRecord.reset with confirmed := some ⟨0, 8000⟩ }
    store := { Store.reset with rows := [(2, ⟨true, false⟩), (2, ⟨true, false⟩)] } }

/-- The same with rank 3 STALE and a release of it pending. -/
def doubledRowPending : State :=
  doubledRow.withPeer 3 { peerWith 20 ⟨9000, 39000⟩ with
    presence := .stale, silence := none, releasePending := some ⟨[(2, 11)], 100⟩ }

/-- What a command leaves of row 2. -/
def rowLeft (c : Instr) (s : State) : Option RowRecord :=
  match exec c s with
  | .next t => some (rowAt t 2)
  | _ => none

theorem doubledRow_meets : settled doubledRow = true ∧ configuredOk doubledRow = true ∧ quiet doubledRow 2 11 = true ∧
    settled doubledRowPending = true ∧ configuredOk doubledRowPending = true := by decide

theorem doubledRow_known : rowLeft (.releaseWindowExpiry 3) doubledRowPending = some ⟨true, false⟩ ∧
    rowLeft (.extend 2 11 ⟨.high, 43000, some 21⟩) doubledRow = some ⟨true, false⟩ ∧
    rowLeft (.positionReport 3 30 ⟨.active, none, 0, none, .empty, none⟩) doubledRow = some ⟨true, false⟩ := by decide

/-- R141: a region handed over leaves no row inside it KNOWN, and row 2 lies inside rank 3's. -/
theorem row_not_known {s t : State} {c : Instr} {region : Option Interval} {ends : Bool} (hs : s.conf = doubledRow.conf)
    (hr : region = some ⟨9000, 39000⟩) (ran : exec c s = .next t) (left : rowLeft c s = some ⟨true, false⟩) :
    ¬ regionHanded s t region 3 ends := by
  intro h
  have rows : 2 < s.conf.rows := by rw [hs]; decide
  have inside : rowX s.conf 2 = 11000 := by rw [hs]; decide
  have marked : rowAt t 2 = ⟨false, false⟩ := (h.1 2 rows ⟨_, hr, by rw [inside]; decide, by rw [inside]; decide⟩).1
  rw [rowLeft, ran] at left
  simp [marked] at left

end Sys2Proof.Machine

namespace Sys2Proof.Proofs

open Machine

/-- Refutes O50: the release window of rank 3 expires, and a row of its region that the table lists twice stays KNOWN. -/
theorem not_silenceAndRelease : ¬ Obligations.SilenceAndRelease := by
  intro h
  obtain ⟨-, -, -, ready, configured⟩ := doubledRow_meets
  obtain ⟨t, ran, -, -, handed, -⟩ := h.2.2.2 doubledRowPending 3 ready ⟨[(2, 11)], 100⟩ (by decide)
  exact row_not_known (s := doubledRowPending) rfl (by decide) ran doubledRow_known.1 (handed configured)

/-- Refutes O52: an Extend of rank 2 whose view shows a gap of rank 3 hands its region over, and a row of it that the table
lists twice stays KNOWN. -/
theorem not_extendsAndObjections : ¬ Obligations.ExtendsAndObjections := by
  intro h
  obtain ⟨-, configured, heard, -⟩ := doubledRow_meets
  obtain ⟨-, gap⟩ := h.1 doubledRow 2 11 ⟨.high, 43000, some 21⟩ heard
  obtain ⟨t, ran, -, -, handed, -⟩ := gap ⟨by decide, by decide, 21, rfl, 20, by decide, by decide, by decide⟩
  exact row_not_known rfl (by decide) ran doubledRow_known.2.1 (handed configured)

/-- Refutes O53: a Position Report of rank 3 that shows a gap hands its region over, and a row of it that the table lists
twice stays KNOWN. -/
theorem not_positionReports : ¬ Obligations.PositionReports := by
  intro h
  obtain ⟨ready, configured, -⟩ := doubledRow_meets
  obtain ⟨-, noted⟩ := h.2.2 doubledRow 3 30 ⟨.active, none, 0, none, .empty, none⟩ ready configured rfl (by decide)
    (by decide) (by decide) (by decide) (by decide) (by decide)
  obtain ⟨t, ran, -, -, -, -, -, -, handed, -⟩ := noted (by decide)
  have gap : ∃ l, (doubledRow.peer 3).lastSeq = some l ∧ 30 ≠ (l + 1) % 65536 := ⟨20, by decide, by decide⟩
  refine row_not_known rfl ?_ ran doubledRow_known.2.2 handed
  rw [if_pos gap]
  decide

end Sys2Proof.Proofs

/-! SUPPORT. Numbers as bytes, and the frames of the Runway Link as bytes (sections 2.3 and 2.4). -/

namespace Sys2Proof.Machine

/-! ## Numbers -/

theorem beBytes_length (n x : Nat) : (beBytes n x).length = n := by
  induction n with
  | zero => rfl
  | succ n ih => rw [beBytes, List.length_cons, ih]

theorem takeNumber_beBytes (n acc x : Nat) (rest : List Byte) :
    takeNumber n acc (beBytes n x ++ rest) = some (acc * 256 ^ n + x % 256 ^ n, rest) := by
  induction n generalizing acc with
  | zero => simp [takeNumber, beBytes, Nat.mod_one]
  | succ n ih =>
    have digits : x % 256 ^ (n + 1) = x % 256 ^ n + 256 ^ n * (x / 256 ^ n % 256) := Nat.mod_pow_succ
    rw [beBytes, List.cons_append, takeNumber, ih, BitVec.toNat_ofNat, digits, pow_succ]
    refine congrArg (fun y => some (y, rest)) ?_
    show (acc * 256 + x / 256 ^ n % 256) * 256 ^ n + x % 256 ^ n = _
    ring

theorem fieldBytes_length (n : Nat) (low high x : Int) : (fieldBytes n low high x).length = n := by
  unfold fieldBytes
  split
  · exact beBytes_length n _
  · rw [List.length_map, List.length_range]

@[simp] theorem uBytes_length (n : Nat) (x : Int) : (uBytes n x).length = n := fieldBytes_length n _ _ x

@[simp] theorem sBytes_length (n : Nat) (x : Int) : (sBytes n x).length = n := fieldBytes_length n _ _ x

theorem uBytes_eq {n x : Nat} (h : x < 256 ^ n) : uBytes n x = beBytes n x := by
  have top : (x : Int) < 256 ^ n := by exact_mod_cast h
  rw [uBytes, fieldBytes, if_pos (by simp; omega), Int.emod_eq_of_lt (by omega) top, Int.toNat_natCast]

/-- An unsigned field is received as it was sent. -/
theorem takeU_uBytes {n x : Nat} (h : x < 256 ^ n) (rest : List Byte) : takeU n (uBytes n x ++ rest) = some (x, rest) := by
  rw [uBytes_eq h, takeU, takeNumber_beBytes, Nat.mod_eq_of_lt h, Nat.zero_mul, Nat.zero_add]

theorem takeU_uBytes_int {n : Nat} {x : Int} (h0 : 0 ≤ x) (h : x < 256 ^ n) (rest : List Byte) :
    takeU n (uBytes n x ++ rest) = some (x.toNat, rest) := by
  obtain ⟨y, rfl⟩ := Int.eq_ofNat_of_zero_le h0
  exact takeU_uBytes (by exact_mod_cast h) rest

/-- A two's complement field of two bytes is received as it was sent. -/
theorem takeS_sBytes {x : Int} (h0 : -32768 ≤ x) (h : x ≤ 32767) (rest : List Byte) :
    takeS 2 (sBytes 2 x ++ rest) = some (x, rest) := by
  have sent : sBytes 2 x = uBytes 2 ((x % 65536).toNat : Nat) := by
    rw [uBytes_eq (by omega), sBytes, fieldBytes, if_pos (by simp; omega)]
    rfl
  rw [sent, takeS, takeU_uBytes (by omega)]
  simp only [Option.map_some, Option.some.injEq, Prod.mk.injEq, and_true]
  split <;> omega

/-! ## Fields -/

/-- Section 2.3: a field of one byte, of two and of four. -/
theorem takeU_byte {x : Nat} (h : fitsByte x = true) (rest : List Byte) : takeU 1 (uBytes 1 x ++ rest) = some (x, rest) :=
  takeU_uBytes (by simp [fitsByte] at h; omega) rest

theorem takeU_two {x : Nat} (h : fitsTwo x = true) (rest : List Byte) : takeU 2 (uBytes 2 x ++ rest) = some (x, rest) :=
  takeU_uBytes (by simp [fitsTwo] at h; omega) rest

theorem takeU_four {x : Nat} (h : fitsFour x = true) (rest : List Byte) : takeU 4 (uBytes 4 x ++ rest) = some (x, rest) :=
  takeU_uBytes (by simp [fitsFour] at h; omega) rest

/-- An unsigned length is a number of its bytes. -/
theorem unsigned_two {x : Int} (h : unsigned top2 x = true) : ∃ y : Nat, x = y ∧ fitsTwo y = true := by
  simp only [unsigned, Bool.and_eq_true, decide_eq_true_eq] at h
  simp only [top2] at h
  exact ⟨x.toNat, by omega, by simp only [fitsTwo, decide_eq_true_eq]; omega⟩

theorem unsigned_four {x : Int} (h : unsigned top4 x = true) : ∃ y : Nat, x = y ∧ fitsFour y = true := by
  simp only [unsigned, Bool.and_eq_true, decide_eq_true_eq] at h
  simp only [top4] at h
  exact ⟨x.toNat, by omega, by simp only [fitsFour, decide_eq_true_eq]; omega⟩

/-- Section 2.4: an optional number is sent as zero where it is absent. -/
theorem takeU_optional_two {o : Option Nat} (h : ifPresent fitsTwo o = true) (rest : List Byte) :
    takeU 2 (optionalBytes 2 (o.map (Int.ofNat ·)) ++ rest) = some (o.getD 0, rest) := by
  cases o with
  | none => exact takeU_two (x := 0) rfl rest
  | some x => exact takeU_two h rest

theorem takeU_optional_four {o : Option Nat} (h : ifPresent fitsFour o = true) (rest : List Byte) :
    takeU 4 (optionalBytes 4 (o.map (Int.ofNat ·)) ++ rest) = some (o.getD 0, rest) := by
  cases o with
  | none => exact takeU_four (x := 0) rfl rest
  | some x => exact takeU_four h rest

theorem takeU_optional_byte {o : Option Nat} (h : ifPresent fitsByte o = true) (rest : List Byte) :
    takeU 1 (optionalBytes 1 (o.map (Int.ofNat ·)) ++ rest) = some (o.getD 0, rest) := by
  cases o with
  | none => exact takeU_byte (x := 0) rfl rest
  | some x => exact takeU_byte h rest

theorem takeU_optional_length {o : Option Int} (h : ifPresent (unsigned top4) o = true) (rest : List Byte) :
    takeU 4 (optionalBytes 4 o ++ rest) = some ((o.getD 0).toNat, rest) := by
  cases o with
  | none => exact takeU_four (x := 0) rfl rest
  | some x =>
    obtain ⟨y, rfl, hy⟩ := unsigned_four h
    exact takeU_four hy rest

theorem takeU_optional_weight {o : Option Int} (h : ifPresent (unsigned top2) o = true) (rest : List Byte) :
    takeU 2 (optionalBytes 2 o ++ rest) = some ((o.getD 0).toNat, rest) := by
  cases o with
  | none => exact takeU_two (x := 0) rfl rest
  | some x =>
    obtain ⟨y, rfl, hy⟩ := unsigned_two h
    exact takeU_two hy rest

/-- Section 2.4: a value is taken as its presence flag says. -/
theorem flagged_eq {α : Type} {flags weight : Nat} {o : Option α} {x : α} (hf : flags / weight % 2 = if o.isSome then 1 else 0)
    (hx : ∀ y, o = some y → x = y) : flagged flags weight x = o := by
  unfold flagged
  cases o with
  | none => exact if_neg (by simp [hf])
  | some y => rw [if_pos (by simpa using hf), hx y rfl]

theorem length_toNat {x : Int} (h : unsigned top4 x = true) : (x.toNat : Int) = x := by
  obtain ⟨y, rfl, -⟩ := unsigned_four h
  rfl

theorem weight_toNat {x : Int} (h : unsigned top2 x = true) : (x.toNat : Int) = x := by
  obtain ⟨y, rfl, -⟩ := unsigned_two h
  rfl

theorem oneFlag (a : Bool) : fitsByte (flagBit a 1) = true ∧ flagBit a 1 < 2 ∧
    flagBit a 1 / 1 % 2 = if a then 1 else 0 := by
  cases a <;> decide

/-- R23: the three presence flags of a Position Report. -/
theorem reportFlags (a b c : Bool) :
    let flags := flagBit a 1 + flagBit b 2 + flagBit c 4
    fitsByte flags = true ∧ flags < 8 ∧ (flags / 1 % 2 = if a then 1 else 0) ∧ (flags / 2 % 2 = if b then 1 else 0) ∧
      (flags / 4 % 2 = if c then 1 else 0) := by
  cases a <;> cases b <;> cases c <;> decide

/-- Section 2.4: the class of an entry with its two presence flags. -/
theorem entryFlags {cls : Nat} (h : cls ≤ 7) (a b : Bool) :
    let flags := cls % 8 + flagBit a 64 + flagBit b 128
    fitsByte flags = true ∧ flags % 8 = cls ∧ (flags / 64 % 2 = if a then 1 else 0) ∧ (flags / 128 % 2 = if b then 1 else 0) := by
  revert h
  cases a <;> cases b <;> simp only [flagBit, fitsByte, decide_eq_true_eq] <;> simp <;> omega

/-! ## Payloads -/

section

variable (rest : List Byte)

theorem takeJoin_bytes {f : Interval} (h : f.wf = true) :
    takeJoin (uBytes 4 f.low ++ uBytes 4 f.high ++ rest) = some (f, rest) := by
  obtain ⟨low, high⟩ := f
  obtain ⟨hl, hh⟩ : unsigned top4 low = true ∧ unsigned top4 high = true := by simpa [Interval.wf] using h
  obtain ⟨l, rfl, fl⟩ := unsigned_four hl
  obtain ⟨u, rfl, fu⟩ := unsigned_four hh
  simp only [takeJoin, List.append_assoc, takeU_four fl, takeU_four fu, Option.bind_eq_bind, Option.bind_some]

theorem takeExtend_bytes {f : ExtendFrame} (h : f.wf = true) : takeExtend (extendBytes f ++ rest) = some (f, rest) := by
  obtain ⟨side, edge, view⟩ := f
  obtain ⟨he, hv⟩ : unsigned top4 edge = true ∧ ifPresent fitsTwo view = true := by simpa [ExtendFrame.wf] using h
  obtain ⟨e, rfl, fe⟩ := unsigned_four he
  have code : fitsByte (sideCode side) = true := by cases side <;> rfl
  obtain ⟨flags, small, bit⟩ := oneFlag view.isSome
  have decoded : sideOfCode (sideCode side) = some side := by cases side <;> rfl
  simp only [takeExtend, extendBytes, List.append_assoc, takeU_byte code, takeU_byte flags, takeU_four fe,
    takeU_optional_two hv, decoded, Option.bind_eq_bind, Option.bind_some]
  have viewed : flagged (flagBit view.isSome 1) 1 (view.getD 0) = view := flagged_eq bit fun x hx => by rw [hx]; rfl
  rw [if_pos small, viewed]

theorem takeObjection_bytes {f : ObjectionFrame} (h : f.wf = true) :
    takeObjection (payloadBytes (.objection f) ++ rest) = some (f, rest) := by
  obtain ⟨ht, hq⟩ : fitsByte f.target = true ∧ fitsTwo f.targetSeq = true := by simpa [ObjectionFrame.wf] using h
  have code : fitsByte (reasonCode f.reason) = true := by cases f.reason <;> rfl
  have decoded : reasonOfCode (reasonCode f.reason) = some f.reason := by cases f.reason <;> rfl
  simp only [takeObjection, payloadBytes, List.append_assoc, takeU_byte ht, takeU_two hq, takeU_byte code, decoded,
    Option.bind_eq_bind, Option.bind_some]

theorem takeRelease_bytes {f : ReleaseFrame} (h : f.wf = true) :
    takeRelease (payloadBytes (.release f) ++ rest) = some (f, rest) := by
  obtain ⟨hr, hq⟩ : fitsByte f.rank = true ∧ fitsTwo f.lastSeq = true := by simpa [ReleaseFrame.wf] using h
  simp only [takeRelease, payloadBytes, List.append_assoc, takeU_byte hr, takeU_two hq, Option.bind_eq_bind, Option.bind_some]

theorem takeMakeWay_bytes {f : MakeWayFrame} (h : f.wf = true) :
    takeMakeWay (payloadBytes (.makeWay f) ++ rest) = some (f, rest) := by
  obtain ⟨target, edge⟩ := f
  obtain ⟨ht, he⟩ : fitsByte target = true ∧ unsigned top4 edge = true := by simpa [MakeWayFrame.wf] using h
  obtain ⟨e, rfl, fe⟩ := unsigned_four he
  simp only [takeMakeWay, payloadBytes, List.append_assoc, takeU_byte ht, takeU_four fe, Option.bind_eq_bind, Option.bind_some]

theorem takeSlotQuery_bytes {f : SlotQueryFrame} (h : f.wf = true) :
    takeSlotQuery (payloadBytes (.slotQuery f) ++ rest) = some (f, rest) := by
  obtain ⟨hr, ht⟩ : fitsByte f.row = true ∧ fitsByte f.tag = true := by simpa [SlotQueryFrame.wf] using h
  simp only [takeSlotQuery, payloadBytes, List.append_assoc, takeU_byte hr, takeU_byte ht, Option.bind_eq_bind, Option.bind_some]

/-- R20, R23: the Position Report, its three presence flags in one byte. -/
theorem takeReport_bytes {f : ReportFrame} (h : f.wf = true) : takeReport (reportBytes f ++ rest) = some (f, rest) := by
  obtain ⟨node, position, speed, claim, hook, coil⟩ := f
  simp only [ReportFrame.wf, Bool.and_eq_true, decide_eq_true_eq] at h
  obtain ⟨⟨⟨⟨hn, hp⟩, hs0, hs⟩, hk⟩, hc⟩ := h
  have code : fitsByte (nodeCode node) = true := by cases node <;> rfl
  have decoded : nodeOfCode (nodeCode node) = some node := by cases node <;> first | rfl | cases hn
  have hookFits : fitsByte (hookCode hook) = true := by cases hook <;> rfl
  have hookDecoded : hookOfCode (hookCode hook) = some hook := by cases hook <;> rfl
  obtain ⟨flags, small, bit1, bit2, bit4⟩ := reportFlags claim.isSome coil.isSome position.isSome
  have low : ifPresent (unsigned top4) (claim.map (·.low)) = true := by
    cases claim with
    | none => rfl
    | some i => exact (Bool.and_eq_true _ _ ▸ hk : _ ∧ _).1
  have high : ifPresent (unsigned top4) (claim.map (·.high)) = true := by
    cases claim with
    | none => rfl
    | some i => exact (Bool.and_eq_true _ _ ▸ hk : _ ∧ _).2
  simp only [takeReport, reportBytes, List.append_assoc, takeU_byte code, takeU_byte flags, takeU_optional_length hp,
    takeS_sBytes hs0 hs, takeU_optional_length low, takeU_optional_length high, takeU_byte hookFits, takeU_optional_four hc,
    decoded, hookDecoded, Option.bind_eq_bind, Option.bind_some]
  have place : flagged (flagBit claim.isSome 1 + flagBit coil.isSome 2 + flagBit position.isSome 4) 4
      ((position.getD 0).toNat : Int) = position := by
    refine flagged_eq bit4 fun x hx => ?_
    subst hx
    exact length_toNat hp
  have held : flagged (flagBit claim.isSome 1 + flagBit coil.isSome 2 + flagBit position.isSome 4) 1
      (⟨(((claim.map Interval.low).getD 0).toNat : Int), (((claim.map Interval.high).getD 0).toNat : Int)⟩ : Interval) = claim := by
    refine flagged_eq bit1 fun i hi => ?_
    subst hi
    exact congrArg₂ Interval.mk (length_toNat low) (length_toNat high)
  have carried : flagged (flagBit claim.isSome 1 + flagBit coil.isSome 2 + flagBit position.isSome 4) 2 (coil.getD 0) = coil :=
    flagged_eq bit2 fun x hx => by rw [hx]; rfl
  rw [if_pos small, place, held, carried]

/-- R137: one entry of a Store Notice, its class and presence flags in one byte. -/
theorem takeEntry_bytes {e : NoticeEntry} (h : e.wf = true) : takeEntry (entryBytes e ++ rest) = some (e, rest) := by
  obtain ⟨slot, state, cls, coil, weight⟩ := e
  simp only [NoticeEntry.wf, Bool.and_eq_true, decide_eq_true_eq] at h
  obtain ⟨⟨⟨hs, hk⟩, hc⟩, hw⟩ := h
  have code : fitsByte (noticeCode state) = true := by cases state <;> rfl
  have decoded : noticeOfCode (noticeCode state) = some state := by cases state <;> rfl
  obtain ⟨flags, low, bit64, bit128⟩ := entryFlags hk coil.isSome weight.isSome
  simp only [takeEntry, entryBytes, List.append_assoc, takeU_two hs, takeU_byte code, takeU_byte flags, takeU_optional_four hc,
    takeU_optional_weight hw, decoded, Option.bind_eq_bind, Option.bind_some]
  have named : flagged (cls % 8 + flagBit coil.isSome 64 + flagBit weight.isSome 128) 64 (coil.getD 0) = coil :=
    flagged_eq bit64 fun x hx => by rw [hx]; rfl
  have weighed : flagged (cls % 8 + flagBit coil.isSome 64 + flagBit weight.isSome 128) 128
      ((weight.getD 0).toNat : Int) = weight := by
    refine flagged_eq bit128 fun x hx => ?_
    subst hx
    exact weight_toNat hw
  rw [low, named, weighed]

/-- A run of items, each received as it was sent. -/
theorem takeMany_bytes {α : Type} {take : List Byte → Option (α × List Byte)} {bytes : α → List Byte} (l : List α)
    (h : ∀ a ∈ l, ∀ rest, take (bytes a ++ rest) = some (a, rest)) (rest : List Byte) :
    takeMany take l.length (l.flatMap bytes ++ rest) = some (l, rest) := by
  induction l with
  | nil => rfl
  | cons a l ih =>
    have tail := ih fun b hb => h b (List.mem_cons_of_mem a hb)
    simp only [List.length_cons, takeMany, List.flatMap_cons, List.append_assoc, h a List.mem_cons_self, tail,
      Option.bind_eq_bind, Option.bind_some]

theorem takeStoreNotice_bytes {f : StoreNoticeFrame} (h : f.wf = true) :
    takeStoreNotice (storeNoticeBytes f ++ rest) = some (f, rest) := by
  obtain ⟨answer, entries⟩ := f
  simp only [StoreNoticeFrame.wf, Bool.and_eq_true, decide_eq_true_eq, List.all_eq_true] at h
  obtain ⟨⟨⟨ha, h1⟩, h6⟩, he⟩ := h
  obtain ⟨flags, small, bit⟩ := oneFlag answer.isSome
  have count : fitsByte entries.length = true := by
    simp only [Config.noticeEntries] at h6
    simp only [fitsByte, decide_eq_true_eq]
    omega
  simp only [takeStoreNotice, storeNoticeBytes, List.append_assoc, takeU_byte flags, takeU_optional_byte ha, takeU_byte count,
    takeMany_bytes entries (fun e h rest => takeEntry_bytes rest (he e h)), Option.bind_eq_bind, Option.bind_some]
  have marked : flagged (flagBit answer.isSome 1) 1 (answer.getD 0) = answer :=
    flagged_eq bit fun x hx => by rw [hx]; rfl
  rw [if_pos (by simp [small, h1, h6]), marked]

/-! ## The Bay Notice (R183) -/

theorem takeLength_bytes {x : Int} (h : unsigned top2 x = true) : takeLength (uBytes 2 x ++ rest) = some (x, rest) := by
  obtain ⟨y, rfl, fy⟩ := unsigned_two h
  rw [takeLength, takeU_two fy, Option.map_some]

theorem cradleCode_lt (k : NoticeCradle) : cradleCode k < 4 := by cases k <;> simp [cradleCode]

theorem cradleCodes_lt (l : List NoticeCradle) : cradleCodes l < 4 ^ l.length := by
  induction l with
  | nil => decide
  | cons k l ih =>
    have := cradleCode_lt k
    rw [cradleCodes, List.length_cons, pow_succ]
    omega

theorem takeCradle_bytes {k : NoticeCradle} (h : k.wf = true) :
    takeCradle (cradleCode k) (cradleBytes k ++ rest) = some (k, rest) := by
  cases k with
  | empty => rfl
  | reserved => rfl
  | loaded c w =>
    obtain ⟨hc, hw⟩ : fitsFour c = true ∧ unsigned top2 w = true := by simpa [NoticeCradle.wf] using h
    obtain ⟨y, rfl, fy⟩ := unsigned_two hw
    simp only [takeCradle, cradleCode, cradleBytes, List.append_assoc, takeU_four hc, takeU_two fy, Option.bind_eq_bind,
      Option.bind_some, if_true]
  | unnamed w =>
    obtain ⟨y, rfl, fy⟩ := unsigned_two (show unsigned top2 w = true from h)
    have zero : takeU 4 (uBytes 4 0 ++ (uBytes 2 y ++ rest)) = some (0, uBytes 2 y ++ rest) := takeU_four (x := 0) rfl _
    simp only [takeCradle, cradleCode, cradleBytes, List.append_assoc, zero, takeU_two fy, Option.bind_eq_bind, Option.bind_some]
    rfl

theorem takeCradles_bytes (l : List NoticeCradle) (h : ∀ k ∈ l, k.wf = true) :
    takeCradles l.length (cradleCodes l) (l.flatMap cradleBytes ++ rest) = some (l, rest) := by
  induction l with
  | nil => rfl
  | cons k l ih =>
    have tail := ih fun b hb => h b (List.mem_cons_of_mem k hb)
    have small := cradleCode_lt k
    have first : cradleCodes (k :: l) % 4 = cradleCode k := by rw [cradleCodes]; omega
    have others : cradleCodes (k :: l) / 4 = cradleCodes l := by rw [cradleCodes]; omega
    simp only [List.length_cons, takeCradles, first, others, List.flatMap_cons, List.append_assoc,
      takeCradle_bytes _ (h k List.mem_cons_self), tail, Option.bind_eq_bind, Option.bind_some]

theorem takeLoad_bytes {l : NoticeLoad} (h : l.wf = true) : takeLoad (loadBytes l ++ rest) = some (l, rest) := by
  obtain ⟨⟨kingpin, axle, count, offsets, axleLimit, kingpinLimit, payloadLimit, planned⟩, cradles⟩ := l
  simp only [NoticeLoad.wf, Trailer.wf, Bool.and_eq_true, decide_eq_true_eq, beq_iff_eq, List.all_eq_true] at h
  obtain ⟨⟨⟨⟨⟨⟨⟨⟨⟨⟨⟨⟨hk, ha⟩, -⟩, ho⟩, hoff⟩, hal⟩, hkl⟩, hpl⟩, -⟩, h6⟩, h7⟩, hc⟩, hcr⟩ := h
  have counts : fitsByte (count + 16 * planned) = true := by simp only [fitsByte, decide_eq_true_eq]; omega
  have codes : fitsTwo (cradleCodes cradles) = true := by
    have lt := cradleCodes_lt cradles
    have top : 4 ^ cradles.length ≤ 4 ^ 6 := Nat.pow_le_pow_right (by decide) (by omega)
    simp only [fitsTwo, decide_eq_true_eq]
    omega
  have low : (count + 16 * planned) % 8 = count := by omega
  have high : (count + 16 * planned) / 16 % 8 = planned := by omega
  have listed : takeMany takeLength count = takeMany takeLength offsets.length := by rw [ho]
  have placed : takeCradles count = takeCradles cradles.length := by rw [hc]
  simp only [takeLoad, loadBytes, List.append_assoc, takeU_byte counts, takeLength_bytes _ hk, takeLength_bytes _ ha,
    takeLength_bytes _ hal, takeLength_bytes _ hkl, takeLength_bytes _ hpl, takeU_two codes, low, high, listed, placed,
    takeMany_bytes offsets (fun x h rest => takeLength_bytes rest (hoff x h)), takeCradles_bytes _ cradles hcr,
    Option.bind_eq_bind, Option.bind_some]

theorem takeBayNotice_bytes {f : BayNoticeFrame} (h : f.wf = true) :
    takeBayNotice (bayNoticeBytes f ++ rest) = some (f, rest) := by
  obtain ⟨bay, state, remaining, load⟩ := f
  simp only [BayNoticeFrame.wf, Bool.and_eq_true, beq_iff_eq] at h
  obtain ⟨⟨⟨hb, hr⟩, hl⟩, hload⟩ := h
  have code : fitsByte (bayCode state) = true := by cases state <;> rfl
  have decoded : bayOfCode (bayCode state) = some state := by cases state <;> rfl
  cases load with
  | none =>
    have empty : state = .empty := by simpa using hl
    simp only [takeBayNotice, bayNoticeBytes, List.append_assoc, takeU_byte hb, takeU_byte code, takeU_byte hr, decoded,
      Option.bind_eq_bind, Option.bind_some]
    rw [if_pos empty]
    rfl
  | some l =>
    have filled : state ≠ .empty := by simpa using hl
    simp only [takeBayNotice, bayNoticeBytes, List.append_assoc, takeU_byte hb, takeU_byte code, takeU_byte hr, decoded,
      Option.bind_eq_bind, Option.bind_some, Option.map_some, Option.getD_some]
    rw [if_neg filled, takeLoad_bytes _ hload]
    rfl

/-! ## Frames -/

/-- What takes all the bytes sent, with nothing after them, has parsed them whole. -/
theorem whole_of {α : Type} {take : List Byte → Option (α × List Byte)} {a : α} {bs : List Byte}
    (h : take (bs ++ []) = some (a, [])) : whole (take bs) = some a := by
  rw [List.append_nil] at h
  rw [h]
  rfl

theorem entryBytes_length (e : NoticeEntry) : (entryBytes e).length = 10 := by
  simp [entryBytes, optionalBytes]

theorem cradleBytes_length (k : NoticeCradle) : (cradleBytes k).length ≤ 6 := by
  cases k <;> simp [cradleBytes]

theorem flatMap_length_le {α : Type} {f : α → List Byte} {n : Nat} (h : ∀ a, (f a).length ≤ n) (l : List α) :
    (l.flatMap f).length ≤ n * l.length := by
  induction l with
  | nil => simp
  | cons a l ih =>
    have := h a
    rw [List.flatMap_cons, List.length_append, List.length_cons, Nat.mul_succ]
    omega

theorem bayNoticeBytes_length {f : BayNoticeFrame} (h : f.wf = true) :
    3 ≤ (bayNoticeBytes f).length ∧ (bayNoticeBytes f).length ≤ 64 := by
  obtain ⟨bay, state, remaining, load⟩ := f
  cases load with
  | none => simp [bayNoticeBytes]
  | some l =>
    simp only [BayNoticeFrame.wf, ifPresent, Option.all_some, NoticeLoad.wf, Trailer.wf, Bool.and_eq_true, decide_eq_true_eq,
      beq_iff_eq] at h
    obtain ⟨-, ⟨⟨⟨⟨⟨⟨⟨⟨⟨⟨-, offsets⟩, -⟩, -⟩, -⟩, -⟩, -⟩, six⟩, -⟩, cradles⟩, -⟩⟩ := h
    have two := flatMap_length_le (f := uBytes 2) (fun x => (uBytes_length 2 x).le) l.trailer.offsets
    have many := flatMap_length_le cradleBytes_length l.cradles
    simp only [bayNoticeBytes, loadBytes, Option.map_some, Option.getD_some, List.length_append, uBytes_length]
    omega

theorem payloadBytes_length {f : LinkFrame} {sender seq : Nat} (h : (commandOf sender seq f).wf = true) :
    fitsByte (payloadBytes f).length = true := by
  have short : (payloadBytes f).length ≤ 64 := by
    cases f with
    | storeNotice f =>
      have entries := flatMap_length_le (f := entryBytes) (fun e => (entryBytes_length e).le) f.entries
      simp only [commandOf, Instr.wf, StoreNoticeFrame.wf, Bool.and_eq_true, decide_eq_true_eq] at h
      obtain ⟨-, ⟨⟨-, six⟩, -⟩⟩ := h
      simp only [Config.noticeEntries] at six
      simp only [payloadBytes, storeNoticeBytes, optionalBytes, List.length_append, uBytes_length]
      omega
    | bayNotice f =>
      simp only [commandOf, Instr.wf, Bool.and_eq_true, Body.wf] at h
      exact (bayNoticeBytes_length h.2).2
    | report f => simp [payloadBytes, reportBytes, optionalBytes]
    | extend f => simp [payloadBytes, extendBytes, optionalBytes]
    | _ => simp [payloadBytes]
  simp only [fitsByte, decide_eq_true_eq]
  omega

/-- R19, R20: the payload of a well-formed frame is its command. -/
theorem payloadCommand_bytes {f : LinkFrame} {sender seq : Nat} (h : (commandOf sender seq f).wf = true) :
    payloadCommand (frameKind f) sender seq (payloadBytes f) = some (commandOf sender seq f) := by
  simp only [commandOf, Instr.wf] at h
  cases f <;> simp only [Bool.and_eq_true, Body.wf] at h <;> obtain ⟨-, h⟩ := h
  case report f => exact congrArg (Option.map _) (whole_of (takeReport_bytes [] h))
  case join f => exact congrArg (Option.map _) (whole_of (takeJoin_bytes [] h))
  case extend f => exact congrArg (Option.map _) (whole_of (takeExtend_bytes [] h))
  case objection f => exact congrArg (Option.map _) (whole_of (takeObjection_bytes [] h))
  case release f => exact congrArg (Option.map _) (whole_of (takeRelease_bytes [] h))
  case makeWay f => exact congrArg (Option.map _) (whole_of (takeMakeWay_bytes [] h))
  case storeNotice f => exact congrArg (Option.map _) (whole_of (takeStoreNotice_bytes [] h))
  case slotQuery f => exact congrArg (Option.map _) (whole_of (takeSlotQuery_bytes [] h))
  case bayNotice f =>
    have fits : bayNoticeBody (bayNoticeBytes f) = some (.fields f) := by
      obtain ⟨low, high⟩ := bayNoticeBytes_length h
      rw [bayNoticeBody, if_pos (by simp [low, high]), whole_of (takeBayNotice_bytes [] h)]
    exact congrArg (Option.map _) fits

theorem crcBytes_length (bs : List Byte) : (crcBytes bs).length = 2 := beBytes_length 2 _

end

end Sys2Proof.Machine

namespace Sys2Proof.Proofs

open Machine

/-- Settles O13: the header gives sender, kind, sequence and length back, the check is that of the bytes before it, and the
payload of each kind is parsed whole (`payloadCommand_bytes`). -/
theorem linkFramesDecode : Obligations.LinkFramesDecode := by
  intro sender seq f h
  obtain ⟨hs, hq⟩ : fitsByte sender = true ∧ fitsTwo seq = true := by
    cases f <;> simp_all [commandOf, Instr.wf, frameWf]
  have kind : fitsByte (frameKind f) = true := by cases f <;> rfl
  have length := payloadBytes_length h
  let check := crcBytes (checkedBytes sender seq f)
  have header (tail : List Byte) : takeHeader (checkedBytes sender seq f ++ tail) =
      some ((sender, frameKind f, seq, (payloadBytes f).length), payloadBytes f ++ tail) := by
    simp only [takeHeader, checkedBytes, List.append_assoc, takeU_byte hs, takeU_byte kind, takeU_two hq,
      takeU_byte length, Option.bind_eq_bind, Option.bind_some]
  have headed : takeHeader (linkBytes sender seq f) = _ := header check
  have checked : (linkBytes sender seq f).take (5 + (payloadBytes f).length) = checkedBytes sender seq f := by
    have : (checkedBytes sender seq f).length = 5 + (payloadBytes f).length := by
      simp [checkedBytes]
      omega
    rw [← this, linkBytes, List.take_left]
  have tail : check.length = 2 := crcBytes_length _
  simp only [linkCommand, headed]
  rw [if_neg (by simp [tail]), if_neg (by rw [checked, List.drop_left]; simp [check]), List.take_left, payloadCommand_bytes h]
  rfl

end Sys2Proof.Proofs

/-! SUPPORT. The receiver of the Service Port's line (R189, R190): what a run of bytes makes of it. -/

namespace Sys2Proof.Machine

/-! ## Runs of bytes -/

theorem receiveBytes_append (r : LineReceiver) (as bs : List Byte) : receiveBytes r (as ++ bs) =
    ((receiveBytes (receiveBytes r as).1 bs).1, (receiveBytes r as).2 ++ (receiveBytes (receiveBytes r as).1 bs).2) := by
  induction as generalizing r with
  | nil => rfl
  | cons a as ih => simp only [List.cons_append, receiveBytes, ih, List.append_assoc]

/-- R189: HUNT discards the bytes that are no start byte. -/
theorem receiveBytes_noise {noise : List Byte} (h : ∀ b ∈ noise, b ≠ 0xA5#8) : receiveBytes .reset noise = (.reset, []) := by
  induction noise with
  | nil => rfl
  | cons b noise ih =>
    have discarded : receiveByte .reset b = (.reset, none) := if_neg (h b List.mem_cons_self)
    simp only [receiveBytes, discarded, ih fun c hc => h c (List.mem_cons_of_mem b hc)]
    rfl

theorem receiveBytes_start {noise : List Byte} (h : ∀ b ∈ noise, b ≠ 0xA5#8) (bs : List Byte) :
    receiveBytes .reset (noise ++ 0xA5#8 :: bs) = receiveBytes ⟨.frame, []⟩ bs := by
  rw [receiveBytes_append, receiveBytes_noise h]
  rfl

/-- R190: RESYNC discards every byte. -/
theorem receiveBytes_resync (bs : List Byte) : receiveBytes ⟨.resync, []⟩ bs = (⟨.resync, []⟩, []) := by
  induction bs with
  | nil => rfl
  | cons b bs ih =>
    have discarded : receiveByte ⟨.resync, []⟩ b = (⟨.resync, []⟩, none) := rfl
    simp only [receiveBytes, discarded, ih]
    rfl

/-- R189: FRAME collects bytes while none of them ends the frame. -/
theorem receiveBytes_collect {bs : List Byte} : ∀ {acc : List Byte},
    (∀ n, 0 < n → n ≤ bs.length → frameEnds (acc ++ bs.take n) = false) →
    receiveBytes ⟨.frame, acc⟩ bs = (⟨.frame, acc ++ bs⟩, []) := by
  induction bs with
  | nil => exact fun _ => by simp [receiveBytes]
  | cons b bs ih =>
    intro acc h
    have first : frameEnds (acc ++ [b]) = false := h 1 (by decide) (by simp)
    have kept : receiveByte ⟨.frame, acc⟩ b = (⟨.frame, acc ++ [b]⟩, none) := if_neg (by simp [first])
    have rest := ih (acc := acc ++ [b]) fun n hn hl => by
      simpa using h (n + 1) (by omega) (by simpa using hl)
    simp only [receiveBytes, kept, rest, List.append_assoc, List.singleton_append]
    rfl

/-- R189, R190: the byte that ends a frame makes its command. -/
theorem receiveBytes_end {bs : List Byte} {b : Byte} (h : ∀ n, 0 < n → n ≤ bs.length → frameEnds (bs.take n) = false)
    (hb : frameEnds (bs ++ [b]) = true) : receiveBytes ⟨.frame, []⟩ (bs ++ [b]) =
      (⟨if portCommand (bs ++ [b]) = .impossibleLength then .resync else .hunt, []⟩, [portCommand (bs ++ [b])]) := by
  have last : receiveByte ⟨.frame, bs⟩ b =
      (⟨if portCommand (bs ++ [b]) = .impossibleLength then .resync else .hunt, []⟩, some (portCommand (bs ++ [b]))) := if_pos hb
  rw [receiveBytes_append, receiveBytes_collect (acc := []) (by simpa using h)]
  simp only [List.nil_append, receiveBytes, last]
  rfl

/-! ## Frames -/

/-- R189: two length bytes decide when a frame ends. -/
theorem frameEnds_sent {length : Nat} (h : length < 65536) (rest : List Byte) :
    frameEnds (beBytes 2 length ++ rest) = (decide (512 < length) || decide (length + 4 ≤ rest.length)) := by
  have taken : takeU 2 (beBytes 2 length ++ rest) = some (length, rest) := by
    rw [takeU, takeNumber_beBytes, Nat.mod_eq_of_lt (by simpa using h), Nat.zero_mul, Nat.zero_add]
  simp only [frameEnds, taken]

theorem frameEnds_short {bs : List Byte} (h : bs.length < 2) : frameEnds bs = false := by
  match bs, h with
  | [], _ => rfl
  | [_], _ => rfl

/-- R189: no beginning of a frame of a possible length is a frame. -/
theorem frameEnds_beginning {length n : Nat} (h : length ≤ 512) {rest : List Byte} (hn : n < length + 6) :
    frameEnds ((beBytes 2 length ++ rest).take n) = false := by
  by_cases h2 : n < 2
  · exact frameEnds_short (by simp; omega)
  · have whole : (beBytes 2 length ++ rest).take n = beBytes 2 length ++ rest.take (n - 2) := by
      rw [List.take_append, beBytes_length, List.take_of_length_le (by rw [beBytes_length]; omega)]
    rw [whole, frameEnds_sent (by omega)]
    simp
    omega

theorem requestCommand_ne (kind tag : Nat) (p : List Byte) : requestCommand kind tag p ≠ .impossibleLength := by
  unfold requestCommand
  split <;> simp

theorem takeU_two_sent {length : Nat} (h : length < 65536) (rest : List Byte) :
    takeU 2 (beBytes 2 length ++ rest) = some (length, rest) := by
  rw [takeU, takeNumber_beBytes, Nat.mod_eq_of_lt (by simpa using h), Nat.zero_mul, Nat.zero_add]

theorem takeU_one_sent {x : Nat} (h : x < 256) (rest : List Byte) : takeU 1 (codeByte x ++ rest) = some (x, rest) :=
  takeU_uBytes (by simpa using h) rest

/-- R190: a frame that breaks off before its tag has no header. -/
theorem portCommand_short {length : Nat} (h : length ≤ 512) {rest : List Byte} (hr : rest.length < 2) :
    portCommand (beBytes 2 length ++ rest) = .incomplete none := by
  simp only [portCommand, takeU_two_sent (show length < 65536 by omega)]
  rw [if_neg (by omega)]
  match rest, hr with
  | [], _ => rfl
  | [_], _ => rfl

/-- R190, R192: a frame whose tag has arrived. -/
theorem portCommand_headed {length kind tag : Nat} (h : length ≤ 512) (hk : kind < 256) (ht : tag < 256) (rest : List Byte) :
    portCommand (beBytes 2 length ++ (codeByte kind ++ (codeByte tag ++ rest))) =
      if rest.length < length + 2 then .incomplete (some (kind, tag))
      else if rest.drop length ≠ crcBytes ((beBytes 2 length ++ (codeByte kind ++ (codeByte tag ++ rest))).take (4 + length)) then
        .badCheck kind tag
      else requestCommand kind tag (rest.take length) := by
  simp only [portCommand, takeU_two_sent (show length < 65536 by omega), takeU_one_sent hk, takeU_one_sent ht]
  rw [if_neg (by omega)]

section

variable {kind tag : Nat} {payload : List Byte} (hk : kind < 256) (ht : tag < 256) (hp : payload.length ≤ 512)

include hp in
theorem portChecked_eq (rest : List Byte) : portChecked kind tag payload ++ rest =
    beBytes 2 payload.length ++ (codeByte kind ++ (codeByte tag ++ (payload ++ rest))) := by
  rw [portChecked, uBytes_eq (by simp; omega)]
  simp only [List.append_assoc]

theorem portChecked_length : (portChecked kind tag payload).length = 4 + payload.length := by
  simp [portChecked, codeByte]
  omega

include hk ht hp in
/-- R189, R190: a frame with its two check bytes is its request, or a wrong check. -/
theorem portCommand_frame {c : List Byte} (hc : c.length = 2) : portCommand (portChecked kind tag payload ++ c) =
    if c ≠ crcBytes (portChecked kind tag payload) then .badCheck kind tag else requestCommand kind tag payload := by
  have checked : (portChecked kind tag payload ++ c).take (4 + payload.length) = portChecked kind tag payload := by
    rw [← portChecked_length (kind := kind) (tag := tag), List.take_left]
  rw [portChecked_eq hp] at checked ⊢
  rw [portCommand_headed hp hk ht, if_neg (by simp [hc]), checked, List.drop_left, List.take_left]

include hk ht hp in
/-- R190: a frame that breaks off is incomplete. -/
theorem portCommand_broken {c : List Byte} {n : Nat} (hn : n < payload.length + 6) :
    portCommand ((portChecked kind tag payload ++ c).take n) = .incomplete (if n < 4 then none else some (kind, tag)) := by
  rw [portChecked_eq hp]
  by_cases h2 : n < 2
  · rw [if_pos (by omega), List.take_append_of_le_length (by rw [beBytes_length]; omega)]
    match h : (beBytes 2 payload.length).take n with
    | [] => rfl
    | [_] => rfl
    | _ :: _ :: _ =>
      have := congrArg List.length h
      simp [beBytes_length] at this
      omega
  · have two : (beBytes 2 payload.length ++ (codeByte kind ++ (codeByte tag ++ (payload ++ c)))).take n =
        beBytes 2 payload.length ++ (codeByte kind ++ (codeByte tag ++ (payload ++ c))).take (n - 2) := by
      rw [List.take_append, beBytes_length, List.take_of_length_le (by rw [beBytes_length]; omega)]
    rw [two]
    by_cases h4 : n < 4
    · rw [if_pos h4]
      exact portCommand_short hp (by simp; omega)
    · have four : (codeByte kind ++ (codeByte tag ++ (payload ++ c))).take (n - 2) =
          codeByte kind ++ (codeByte tag ++ (payload ++ c).take (n - 4)) := by
        have one (x : Nat) : (codeByte x).length = 1 := uBytes_length 1 _
        rw [List.take_append, List.take_append, List.take_of_length_le (by rw [one]; omega),
          List.take_of_length_le (by rw [one, one]; omega), one, one, show n - 2 - 1 - 1 = n - 4 by omega]
      rw [if_neg h4, four, portCommand_headed hp hk ht, if_pos (by simp; omega)]

include hp in
theorem frameEnds_broken {c : List Byte} {n : Nat} (hn : n < payload.length + 6) :
    frameEnds ((portChecked kind tag payload ++ c).take n) = false := by
  rw [portChecked_eq hp]
  exact frameEnds_beginning hp hn

include hk ht hp in
/-- R189: the bytes of a whole frame make one command, at the last of them. -/
theorem receiveBytes_frame {c : List Byte} (hc : c.length = 2) :
    receiveBytes ⟨.frame, []⟩ (portChecked kind tag payload ++ c) = (.reset,
      [if c ≠ crcBytes (portChecked kind tag payload) then .badCheck kind tag else requestCommand kind tag payload]) := by
  obtain ⟨a, b, rfl⟩ : ∃ a b, c = [a, b] := List.length_eq_two.mp hc
  have split : portChecked kind tag payload ++ [a, b] = (portChecked kind tag payload ++ [a]) ++ [b] := by simp
  have before (n : Nat) (_ : 0 < n) (hn : n ≤ (portChecked kind tag payload ++ [a]).length) :
      frameEnds ((portChecked kind tag payload ++ [a]).take n) = false := by
    have short : n < payload.length + 6 := by
      rw [List.length_append, portChecked_length] at hn
      simp at hn
      omega
    exact frameEnds_broken hp short
  have complete : frameEnds ((portChecked kind tag payload ++ [a]) ++ [b]) = true := by
    rw [← split, portChecked_eq hp, frameEnds_sent (by omega)]
    simp [codeByte]
    omega
  have made := portCommand_frame hk ht hp hc
  have ends := receiveBytes_end before complete
  rw [← split, made] at ends
  rw [ends, if_neg]
  · rfl
  · split
    · simp
    · exact requestCommand_ne _ _ _

end

/-! ## Failures (R190, R191) -/

theorem answerAtOnce_eq (s : State) (kind tag : Nat) (st : Status) (r : Result) : answerAtOnce s kind tag st r =
    { s with port := if s.port.transmit.tail.any (·.immediate) then { s.port with overrun := countUp s.port.overrun }
      else { s.port with transmit := s.port.transmit ++ [⟨true, kind, tag, st, r⟩] } } := by
  unfold answerAtOnce
  split <;> rfl

end Sys2Proof.Machine

namespace Sys2Proof.Proofs

open Machine

/-- Settles O16: on the line by `receiveBytes_frame`, `portCommand_broken` and the two bytes of an impossible length; at the
port by `failFrame`. -/
theorem framingFailures : Obligations.FramingFailures := by
  refine ⟨fun noise payload kind tag hn hk ht hp => ?_, fun length rest h5 h6 => ?_, fun s kind tag => ?_⟩
  · intro checked
    refine ⟨?_, fun c hc hne => ?_, fun n h => ?_⟩
    · have framed : noise ++ frameBytes kind tag payload = noise ++ 0xA5#8 :: (checked ++ crcBytes checked) := rfl
      rw [framed, receiveBytes_start hn, receiveBytes_frame hk ht hp (crcBytes_length _), if_neg (by simp [checked])]
    · have framed : noise ++ 0xA5#8 :: checked ++ c = noise ++ 0xA5#8 :: (checked ++ c) := by simp
      rw [framed, receiveBytes_start hn, receiveBytes_frame hk ht hp hc, if_pos hne]
    · intro r
      have collected : r = (⟨.frame, (checked ++ crcBytes checked).take n⟩, []) := by
        refine (receiveBytes_start (noise := []) (by simp) _).trans (receiveBytes_collect fun m _ hm => ?_)
        rw [List.nil_append, List.take_take]
        exact frameEnds_broken hp (by omega)
      rw [collected]
      refine ⟨rfl, ?_⟩
      show (LineReceiver.reset, some (portCommand ((checked ++ crcBytes checked).take n))) = _
      rw [portCommand_broken hk ht hp h]
  · intro r
    obtain ⟨a, b, two⟩ : ∃ a b, beBytes 2 length = [a, b] := List.length_eq_two.mp (beBytes_length 2 length)
    have impossible : portCommand ([a] ++ [b]) = .impossibleLength := by
      have := takeU_two_sent h6 []
      rw [two, List.append_nil] at this
      simp only [portCommand, List.singleton_append, this, if_pos h5]
    have ends : frameEnds ([a] ++ [b]) = true := by
      have := frameEnds_sent h6 []
      rw [two] at this
      simpa [h5] using this
    have made := receiveBytes_end (bs := [a]) (b := b) (fun n h0 h1 => by
      obtain rfl : n = 1 := by simp at h1; omega
      rfl) ends
    rw [impossible, if_pos rfl] at made
    have all : r = (⟨.resync, []⟩, [.impossibleLength]) := by
      have framed : (0xA5#8 :: beBytes 2 length ++ rest) = [] ++ 0xA5#8 :: ([a] ++ [b] ++ rest) := by rw [two]; rfl
      show receiveBytes .reset (0xA5#8 :: beBytes 2 length ++ rest) = _
      rw [framed, receiveBytes_start (by simp), receiveBytes_append, made, receiveBytes_resync]
      rfl
    rw [all]
    exact ⟨rfl, rfl⟩
  · intro failed withAnswer
    have fails (after : Receiver) (header : Option (Nat × Nat)) (reason : Result) : failFrame s after header reason =
        if s.port.receiver = .resync then s else match header with
          | some (kind, tag) => answerAtOnce { s with port := failed after } kind tag .error reason
          | none => { s with port := failed after } := rfl
    refine ⟨fun h => ⟨next_eq ?_, next_eq ?_, next_eq ?_, next_eq ?_, next_eq (if_neg h)⟩,
      fun h => ⟨next_eq (if_pos h), next_eq (if_pos h), next_eq (if_pos h), next_eq (if_pos h), next_eq (if_pos h)⟩⟩
    · exact (fails _ _ _).trans (if_neg h)
    · exact (fails _ _ _).trans (if_neg h)
    · refine ((fails _ _ _).trans (if_neg h)).trans ((answerAtOnce_eq _ _ _ _ _).trans ?_)
      rfl
    · refine ((fails _ _ _).trans (if_neg h)).trans ((answerAtOnce_eq _ _ _ _ _).trans ?_)
      rfl

end Sys2Proof.Proofs
